-- ==== Sys2Proof/Word.lean ====
section
/-! DEFINITION. The word and byte types of the block. -/

namespace Sys2Proof

/-- A word of a command, a response or a register (13_mailbox R480, R494). -/
abbrev Word := BitVec 32

/-- A byte of DRAM, of a configuration value or of an event record (00_scope R13). -/
abbrev Byte := BitVec 8

/-- A word from a natural number, its low 32 bits. -/
abbrev w32 (n : Nat) : Word := BitVec.ofNat 32 n

/-- A byte from a natural number, its low 8 bits. -/
abbrev b8 (n : Nat) : Byte := BitVec.ofNat 8 n

end Sys2Proof
end

