-- ==== Sys2Proof/Syntax.lean ====
section
/-! DEFINITION. The commands of the block, one constructor per row of spec/opcode_table.json, with
the operands each row takes. -/

namespace Sys2Proof

/-- A host command as its path delivers it (13_mailbox R494). `path` is the path code of
14_spillway R550: 0–7 mailboxes, 8 the command ring, 9 the service port, 10 SPI, 11 MGMT.
`origin` is where the response goes: RESP_ADDR of a ring entry, address × 65 536 + UDP port of a
service datagram, the source device ID of an MGMT command. `payload` holds the words LEN names. -/
structure Cmd where
  path : Nat
  tag : Nat
  notify : Bool
  len : Nat
  self : Bool
  bcast : Bool
  target : Nat
  origin : Nat
  payload : List Word
deriving DecidableEq, Repr


/-- What the emitter die's monitors saw in the slot that ends (03_lamp_drive R94, R102, R103, R108).
`headroom` gives the pad headroom in mV at t_on + 360 of a sink with an on-interval of at least 400
ticks; a sink it does not list has at least 2.55 V. The other lists name sinks, and colour × 4 + output; `offCurrent` names sinks whose current deviates more than
2 % of I_HIGH in the check of R94 (15_thermal_ageing R590). `pads` gives the pad voltage in mV at D − 40 (R126); a pad
it does not list lies at or below the short level. -/
structure SlotObs where
  headroom : List (Nat × Nat)
  badCurrent : List Nat
  offCurrent : List Nat
  probeFail : List Nat
  pads : List (Nat × Nat)
  scanBad : List Nat
deriving DecidableEq, Repr

/-- What the converters and samplers measured in a calibration step (16_calibration R600–R605). `sums` gives the
selected sum of each shadow sink, none where it cannot be measured; `cells` the 20 cells of the group's shadow sink,
then of its 16 sinks; `hits` the hits per tap of the line, or of lines A and B in SERVICE; `trims` those of slicers 0 to 2
and the spare; `peaks` the peaks of the histogram of received levels over 2²⁰ symbols, ascending (08_lanes R292);
`estimate` the offset of a current-sense ADC. -/
structure CalObs where
  sums : List (Option Nat)
  cells : List (List Nat)
  hits : List (List Nat)
  trims : List Int
  peaks : List Int
  estimate : Int
deriving DecidableEq, Repr

/-- What the boot ROM finds (18_startup_update R658, R659; 15_thermal_ageing R584): whether the signature and the body's
hash of the images in slots A and B hold, the highest of 16 conversions of the 24 die sensors, 0.0625 °C, and whether the two
copies of the boot control record pass their CRC. -/
structure BootObs where
  sigA : Bool
  hashA : Bool
  sigB : Bool
  hashB : Bool
  hot : Int
  copy0 : Bool
  copy1 : Bool
deriving DecidableEq, Repr

/-- A supply by its index and the voltage at which it has been for 2 µs, mV (19_pins_electrical R693). -/
structure SupplyObs where
  supply : Nat
  mv : Nat
deriving DecidableEq, Repr

/-- A hit of the marker hunter: its bit position and the 315 line bits about it (08_lanes R298). -/
structure HitObs where
  pos : Nat
  line : List Bool
deriving DecidableEq, Repr

/-- What the density monitor of a lane counted in a window, and the errors of its checker there (08_lanes R290, R308). -/
structure DensityObs where
  count : Nat
  errors : Nat
deriving DecidableEq, Repr

/-- The commands of the block: one constructor per row of spec/opcode_table.json. Host commands
carry the words their path delivered; events carry what the environment decides. -/
inductive Instr where
  /-- GET_INFO (R513): Returns identity, firmware, slot, CONFIG_GEN, DRAM size and MAC base. -/
  | getInfo (c : Cmd)
  /-- GET_STATE (R514): Returns device state, flags, build-layer, head and axis states and the fence count. -/
  | getState (c : Cmd)
  /-- SET_STATE (R505): Requests a device state change listed in R504, with HOLD_DARK for TILE. -/
  | setState (c : Cmd)
  /-- SEAL_CONFIG (R519): Checks the resulting configuration, applies the staged values and sets SEALED; a SENDER then starts enumeration. -/
  | sealConfig (c : Cmd)
  /-- RESUME (R506): Leaves SAFE for STANDBY unless a FATAL source is latched or, in BED role, EMIT_EN is low. -/
  | resume (c : Cmd)
  /-- RESET_WARM (R507): Responds and schedules a warm reset 1 ms later. -/
  | resetWarm (c : Cmd)
  /-- WARM_RESET_DELAY_EXPIRY (R507): 1 ms after RESET_WARM responds, the device performs a warm reset with the effects of WRST_N. -/
  | warmResetDelayExpiry (o : BootObs)
  /-- GET_COUNTERS (R515): Reads, and optionally clears, the counters of one group and instance. -/
  | getCounters (c : Cmd)
  /-- EVENT_READ (R510): Returns whole events, oldest first, from the pull store. -/
  | eventRead (c : Cmd)
  /-- CAPO_SET (R516): Holds or releases an adaptive policy instance. -/
  | capoSet (c : Cmd)
  /-- CFG_WRITE (R517): Writes bytes into the staged value of a configuration key. -/
  | cfgWrite (c : Cmd)
  /-- CFG_READ (R517): Returns bytes of the committed or staged value of a key. -/
  | cfgRead (c : Cmd)
  /-- CFG_COMMIT (R518): Checks the staged values and applies all of them by their change class, or none. -/
  | cfgCommit (c : Cmd)
  /-- CFG_COMMIT_DISCARD (R518): With DISCARD set, drops every staged value. -/
  | cfgCommitDiscard (c : Cmd)
  /-- ENUMERATE (R260): Starts a full or tail-only enumeration of the named cascade ports. -/
  | enumerate (c : Cmd)
  /-- TOPO_READ (R260): Returns the topology entries of a Cascade. -/
  | topoRead (c : Cmd)
  /-- LINK_STATUS (R521): Returns state, rate, mode, delay and lock age of one Wotor or peer port. -/
  | linkStatus (c : Cmd)
  /-- REDUNDANCY_SWITCH_HANDOVER (R640): OP 0: the active unit of a pair hands over to its peer by R642. -/
  | redundancySwitchHandover (c : Cmd)
  /-- REDUNDANCY_SWITCH_FORCE (R640): OP 1: the standby takes over at once and the peer yields. -/
  | redundancySwitchForce (c : Cmd)
  /-- REDUNDANCY_STATUS (R645): Without payload, returns the pair status. -/
  | redundancyStatus (c : Cmd)
  /-- REDUNDANCY_STATUS_SAVED (R645): With one word, returns words of the newest valid saved-state copy. -/
  | redundancyStatusSaved (c : Cmd)
  /-- LAYER_DEFINE (R186): Writes the staged definition of a layer slot after range checks. -/
  | layerDefine (c : Cmd)
  /-- LAYER_COMMIT (R197): Copies the named staged layer definitions into pending, to take effect at one latch point or at once. -/
  | layerCommit (c : Cmd)
  /-- BUFFER_REGISTER (R181): Registers a still buffer in DRAM after format and overlap checks. -/
  | bufferRegister (c : Cmd)
  /-- BUFFER_RELEASE (R183): Unregisters a FREE still buffer, or returns PINNED for an ACTIVE or RETIRING one. -/
  | bufferRelease (c : Cmd)
  /-- MAP_DEFINE (R195): Assigns the canvas rectangles of tile positions of an output. -/
  | mapDefine (c : Cmd)
  /-- OUTPUT_TIMING (R206): Defines one output's canvas, rate, blanking, phase and flip latency. -/
  | outputTiming (c : Cmd)
  /-- CRC_RECT_SET (R219): Defines one check rectangle of an output, from the next latch point or at once. -/
  | crcRectSet (c : Cmd)
  /-- CRC_RESULT_READ (R221): Returns the rectangle CRC results of one output. -/
  | crcResultRead (c : Cmd)
  /-- STREAM_BIND (R171): Binds or unbinds an ST 2110-20 stream on a source port, with IGMP reports. -/
  | streamBind (c : Cmd)
  /-- FRETBOARD_LOAD (R147): Writes Fretboard, curve or wear entries into the shadow copy or the counters. -/
  | fretboardLoad (c : Cmd)
  /-- FRETBOARD_READ (R148): Returns entries of the active or shadow Fretboard copy. -/
  | fretboardRead (c : Cmd)
  /-- FRETBOARD_COMMIT (R149): Schedules or performs the exchange of the shadow and active Fretboard copies, optionally persisting them. -/
  | fretboardCommit (c : Cmd)
  /-- FRETBOARD_COMMIT_DISCARD (R150): With DISCARD set, copies the active copy over the shadow copy, abandoning the loads. -/
  | fretboardCommitDiscard (c : Cmd)
  /-- LAMP_HEALTH_READ (R522): Returns words of the lamp health map. -/
  | lampHealthRead (c : Cmd)
  /-- DRIVE_SET (R523): Commits the three DRIVE_CODE values as frame keys. -/
  | driveSet (c : Cmd)
  /-- BRIGHTNESS_SET (R523): Commits BRIGHTNESS as a frame key. -/
  | brightnessSet (c : Cmd)
  /-- WEAR_READ (R148): Returns wear counters. -/
  | wearRead (c : Cmd)
  /-- HEAD_DEFINE (R364): Defines or undefines a head and sets it UNREFERENCED. -/
  | headDefine (c : Cmd)
  /-- FIELD_CORR_LOAD (R367): Writes field-correction grid nodes of a head and sets it UNREFERENCED. -/
  | fieldCorrLoad (c : Cmd)
  /-- BUILD_LOAD (R359): Reads and checks a layer descriptor and makes the build layer LOADED. -/
  | buildLoad (c : Cmd)
  /-- BUILD_ARM (R361): Starts filling and checking the jet queues and the stage soft-starts. -/
  | buildArm (c : Cmd)
  /-- BUILD_START (R362): Sets the start tick at which the build layer runs or resumes. -/
  | buildStart (c : Cmd)
  /-- BUILD_PAUSE (R361): Pauses a running build layer at each head's next gate-closed boundary. -/
  | buildPause (c : Cmd)
  /-- BUILD_ABORT (R361): Aborts the build layer at once, freezing heads and discarding queues. -/
  | buildAbort (c : Cmd)
  /-- AXIS_MOVE_ABSOLUTE (R399): OP 0: moves a homed axis to a position along a trapezoid or S-curve profile. -/
  | axisMoveAbsolute (c : Cmd)
  /-- AXIS_MOVE_RELATIVE (R399): OP 1: moves an axis by a distance. -/
  | axisMoveRelative (c : Cmd)
  /-- AXIS_DECELERATE (R399): OP 2: decelerates a moving axis to a stop. -/
  | axisDecelerate (c : Cmd)
  /-- AXIS_FOLLOW (R402): OP 3: makes an axis follow coarse STEP_IN and DIR_IN of an input pair. -/
  | axisFollow (c : Cmd)
  /-- AXIS_END_FOLLOWING (R399): OP 4: ends following once the pending steps are emitted. -/
  | axisEndFollowing (c : Cmd)
  /-- AXIS_QUICK_STOP (R400): OP 5: stops an axis at once, leaving it UNCERTAIN. -/
  | axisQuickStop (c : Cmd)
  /-- AXIS_HOME_SET (R401): MODE 0: sets the present position of an axis and aligns its encoder count. -/
  | axisHomeSet (c : Cmd)
  /-- AXIS_HOME_SEARCH (R401): MODE 1 or 2: moves an axis until an encoder Z edge and sets the position there. -/
  | axisHomeSearch (c : Cmd)
  /-- PLUME_GUARD_SET (R384): Sets the plume guard parameters. -/
  | plumeGuardSet (c : Cmd)
  /-- HEAD_REFERENCE (R366): Starts referencing a head: a jump to park, JUMP_DELAY and a 64-frame following-error check. -/
  | headReference (c : Cmd)
  /-- LOOP_DEFINE (R468): Defines a loop slot's parameters. -/
  | loopDefine (c : Cmd)
  /-- LOOP_LUT_LOAD (R470): Writes gain entries into a slot's staged table and optionally commits it. -/
  | loopLutLoad (c : Cmd)
  /-- LOOP_ENABLE (R471): Enables or disables the named loop slots at their next updates. -/
  | loopEnable (c : Cmd)
  /-- SETPOINT_SET (R472): Overrides a slot's set-point target or releases the override. -/
  | setpointSet (c : Cmd)
  /-- TRACE_ARM_ARM (R475): OP 0: arms the trace unit with channels and a trigger. -/
  | traceArmArm (c : Cmd)
  /-- TRACE_ARM_TRIGGER (R475): OP 1: triggers an armed trace unit. -/
  | traceArmTrigger (c : Cmd)
  /-- TRACE_ARM_DISARM (R475): OP 2: stops the trace unit and keeps its samples. -/
  | traceArmDisarm (c : Cmd)
  /-- TRACE_READ (R476): Returns trace samples of one channel. -/
  | traceRead (c : Cmd)
  /-- TIME_GET (R351): Returns every time base taken on one tick. -/
  | timeGet (c : Cmd)
  /-- TIME_SOURCE_SET (R329): Selects the SYSTEM time source, optionally loading the time, and clears the lock. -/
  | timeSourceSet (c : Cmd)
  /-- TIME_SOURCE_UPDATE_PATH (R329): With UPDATE_PATH, updates a TILE's PATH_A and PATH_B from the next SYNC TIME sample. -/
  | timeSourceUpdatePath (c : Cmd)
  /-- TS_QUEUE_READ (R346): Returns the entries of a lane's transmit-timestamp queue. -/
  | tsQueueRead (c : Cmd)
  /-- WINDOW_SET (R349): Defines a time window, which takes effect at acceptance. -/
  | windowSet (c : Cmd)
  /-- FAULT_READ (R547): Returns the Spillway status, the first event and the fence list. -/
  | faultRead (c : Cmd)
  /-- FAULT_CLEAR (R548): Clears status bits whose lines are released, and optionally the first event. -/
  | faultClear (c : Cmd)
  /-- FAULT_INJECT (R544): Opens an injection window that drives a source's line. -/
  | faultInject (c : Cmd)
  /-- LOG_READ (R552): Returns event log entries from a sequence number. -/
  | logRead (c : Cmd)
  /-- CAPTURE_START (R554): OP 0: starts or arms a capture into the DRAM or on-chip ring. -/
  | captureStart (c : Cmd)
  /-- CAPTURE_STOP (R557): OP 1: ends the capture with an END record. -/
  | captureStop (c : Cmd)
  /-- CAPTURE_STATUS (R554): OP 2: returns the capture status. -/
  | captureStatus (c : Cmd)
  /-- CAPTURE_READ (R554): OP 3: returns bytes of the capture ring. -/
  | captureRead (c : Cmd)
  /-- REPLAY_LOAD (R560): OP 0: checks the start record of a capture and reports the result. -/
  | replayLoad (c : Cmd)
  /-- REPLAY_RUN (R561): OP 1: runs the engines on the captured records and compares signatures. -/
  | replayRun (c : Cmd)
  /-- REPLAY_FEED (R559): OP 2: feeds capture bytes to a TILE for replay. -/
  | replayFeed (c : Cmd)
  /-- REPLAY_ABORT (R563): OP 3: ends replay. -/
  | replayAbort (c : Cmd)
  /-- FENCE_RELEASE (R542): Returns a fenced unit to service at the instant its chapter gives. -/
  | fenceRelease (c : Cmd)
  /-- THERMAL_READ (R585): Returns temperatures, thermal states and power, and optionally erases the shutdown record. -/
  | thermalRead (c : Cmd)
  /-- THERMAL_LIMITS_SET (R574): Sets WARN, THROTTLE, SHUTDOWN and RISE_LIMIT from the next conversion. -/
  | thermalLimitsSet (c : Cmd)
  /-- AGEING_REPORT (R595): Returns margins and metrics of the ageing domains. -/
  | ageingReport (c : Cmd)
  /-- MARGIN_REPLAN (R594): Runs a replan of the named domains, or a dry run. -/
  | marginReplan (c : Cmd)
  /-- CAL_RUN (R609): Calibrates the named instances, with spares or in place in SERVICE. -/
  | calRun (c : Cmd)
  /-- CAL_STATUS (R615): Returns the calibration status of each domain. -/
  | calStatus (c : Cmd)
  /-- IMAGE_BEGIN (R667): Opens an image session on the inactive slot, or only erases it. -/
  | imageBegin (c : Cmd)
  /-- IMAGE_CHUNK (R668): Writes a chunk of the image transfer at the next offset. -/
  | imageChunk (c : Cmd)
  /-- IMAGE_END (R669): Closes the session and verifies the transfer. -/
  | imageEnd (c : Cmd)
  /-- IMAGE_ACTIVATE (R673): Makes the inactive slot TRIAL and restarts live or warm at the activation instant. -/
  | imageActivate (c : Cmd)
  /-- IMAGE_CONFIRM (R677): Confirms a TRIAL image whose self-tests passed. -/
  | imageConfirm (c : Cmd)
  /-- IMAGE_FORWARD (R670): Sends an image to the neighbouring TILE and chains the forward. -/
  | imageForward (c : Cmd)
  /-- IMAGE_STATUS (R679): Returns the session, forward, slot and fallback status. -/
  | imageStatus (c : Cmd)
  /-- LANE_STATUS (R313): Returns the status of a range of lanes. -/
  | laneStatus (c : Cmd)
  /-- LANE_LOOPBACK (R309): Sets or ends a lane loopback and test pattern. -/
  | laneLoopback (c : Cmd)
  /-- LANE_BITSLIP_TEST (R300): OP 0: tests the alignment window of a lane in manual search. -/
  | laneBitslipTest (c : Cmd)
  /-- LANE_BITSLIP_SLIP (R300): OP 1: slips the lane by COUNT bits. -/
  | laneBitslipSlip (c : Cmd)
  /-- LANE_BITSLIP_AUTO (R300): OP 2: returns the lane to automatic search. -/
  | laneBitslipAuto (c : Cmd)
  /-- LANE_EYE_SCAN_START (R311): Starts an eye scan of a locked lane. -/
  | laneEyeScanStart (c : Cmd)
  /-- LANE_EYE_SCAN_READ (R312): Returns point codes of the last eye scan. -/
  | laneEyeScanRead (c : Cmd)
  /-- UNDEFINED_OPCODE (R15): A command with an undefined opcode returns BAD_OPCODE with no effect. -/
  | undefinedOpcode (op : Nat) (c : Cmd)
  /-- MBX_DOORBELL (R483): A write of RING posts the command in mailbox slot n. -/
  | mbxDoorbell (n : Nat)
  /-- COMMAND_RESPONSE (R483): The supervisor writes the response, sets DONE, clears BUSY and sets MBX_DONE. -/
  | commandResponse
  /-- CR_TAIL_WRITE (R487): The host producer index signals new command ring entries. -/
  | crTailWrite (v : Nat)
  /-- RING_ENTRY_FETCH (R487): The device fetches one ring entry and its payload by DMA and advances CR_HEAD. -/
  | ringEntryFetch (entry : List Word)
  /-- RING_RESPONSE_WRITE (R487): The device writes a ring response to RESP_ADDR, word 0 last, with an optional MSI-X. -/
  | ringResponseWrite
  /-- CR_CTRL_WRITE (R486): Enabling the command ring resets CR_HEAD and starts fetching; disabling stops fetches. -/
  | crCtrlWrite (v : Nat)
  /-- EQ_CTRL_WRITE (R486): Enabling the event queue resets EQ_TAIL and starts delivery. -/
  | eqCtrlWrite (v : Nat)
  /-- EQ_HEAD_WRITE (R489): The host consumer index frees room for held event records. -/
  | eqHeadWrite (v : Nat)
  /-- EVENT_RECORD_WRITE (R489): The device writes an event record at EQ_TAIL and notifies subject to coalescing. -/
  | eventRecordWrite
  /-- EVENT_COALESCE_EXPIRY (R489): At the end of a COALESCE_US interval, pending records are notified. -/
  | eventCoalesceExpiry
  /-- RING_DMA_ERROR (R489): A failed ring DMA sets DMA_ERROR, stops that ring and records HOST_LINK. -/
  | ringDmaError (queue : Bool)
  /-- EQ_STATUS_READ (R485): A read of EQ_STATUS returns DROPPED and clears it. -/
  | eqStatusRead
  /-- IRQ_STATUS_WRITE (R491): Clears interrupt status bits by W1C. -/
  | irqStatusWrite (v : Nat)
  /-- MBX_STATUS_WRITE (R482): Clears DONE or REFUSED of a mailbox by W1C. -/
  | mbxStatusWrite (n : Nat) (v : Nat)
  /-- TIME_LATCH (R492): Captures LOCAL and SYSTEM time on one tick into the time registers. -/
  | timeLatch
  /-- REGISTER_WRITE (R16): A write to a BAR0 register without behaviour of its own acts by its access code. -/
  | registerWrite (off : Nat) (width : Nat) (v : Nat)
  /-- BAR2_WRITE (R714): A host write through BAR2 is written byte by byte, dropping bytes in protected areas or beyond DRAM. -/
  | bar2Write (off : Nat) (data : List Byte)
  /-- BAR2_READ (R493): A host read through BAR2 returns DRAM, or all ones beyond the top of DRAM. -/
  | bar2Read (off : Nat) (n : Nat)
  /-- SPI_TRANSACTION (R524): A TILE SPI transaction reads or writes BAR0 words. -/
  | spiTransaction (bytes : List Byte)
  /-- SERVICE_DATAGRAM (R526): A service-port command datagram is executed, refused for credit or answered from the cache. -/
  | serviceDatagram (origin : Nat) (version : Nat) (kind : Nat) (seq : Nat) (words : List Word)
  /-- SERVICE_ARP (R525): The service port answers ARP for SERVICE_IP. -/
  | serviceArp (ip : Nat) (asker : Nat)
  /-- SERVICE_EVENT_DATAGRAM (R525): Events are sent to SERVICE_EVENT_DEST in datagrams of kind 2. -/
  | serviceEventDatagram
  /-- PCIE_LINK_LOSS (R529): The PCIe link out of L0 for 10 ms in READY, RUN or HOLD records HOST_LINK. -/
  | pcieLinkLoss
  /-- PCIE_HOT_RESET (R662): A PCIe hot reset or link-down resets the configuration space and BARs only. -/
  | pcieHotReset
  /-- PORST_N_ASSERT (R650): A low pulse on PORST_N of 10 µs or more puts the device in RESET. -/
  | porstNAssert
  /-- PORST_N_RELEASE (R652): Samples the straps, starts LOCAL time and the monitors, and enters BOOT. -/
  | porstNRelease (role : Nat) (tileId : Nat) (emitA : Bool) (emitB : Bool) (o : BootObs)
  /-- WRST_N_ASSERT (R663): A low pulse on WRST_N of 1 µs or more puts the device in RESET for a warm reset. -/
  | wrstNAssert
  /-- WRST_N_RELEASE (R664): Boots again while keeping the state that R664 keeps. -/
  | wrstNRelease (o : BootObs)
  /-- FIRMWARE_UP (R660): After the boot run and restores, NOT_READY falls and the device enters STANDBY or SAFE. -/
  | firmwareUp (bad : List (Nat × Bool)) (lines : List (Nat × List Nat × List Nat)) (ests : List (Nat × Int))
  /-- DRAM_TRAINING_DONE (R661): LPDDR5X training completes at 7500 or 6400 MT/s, or fails and records DRAM_TRAIN. -/
  | dramTrainingDone (ok7500 : Bool) (ok6400 : Bool)
  /-- READY_AUTOMATIC (R503): A sealed device enters READY when its role's conditions hold, or falls back to STANDBY when one is lost. -/
  | readyAutomatic
  /-- EMIT_EN_FALL (R435): A fall of EMIT_EN_A or EMIT_EN_B removes emission outputs within 10 ns; in BED role INTERLOCK fires. -/
  | emitEnFall (a : Bool) (b : Bool)
  /-- EMIT_EN_RISE (R437): Both inputs high again raises EMIT_ENABLED and resumes emission at the next slot boundary in TILE role. -/
  | emitEnRise (a : Bool) (b : Bool)
  /-- EMIT_EN_DISCREPANCY (R438): Inputs differing for EMIT_EN_DISCREPANCY record INTERLOCK in BED role, otherwise raise an event. -/
  | emitEnDiscrepancy
  /-- DIE_LINK_FRAMING_LOSS (R23): 32 cycles without framing make the emitter die remove every output on its own. -/
  | dieLinkFramingLoss
  /-- CLOCK_ROOT_LOSS (R28): Loss of root PLL lock or of REFCLK records CLOCK_ROOT. -/
  | clockRootLoss (refclk : Bool)
  /-- CLOCK_DERIVED_FAIL (R28): A derived clock failing its frequency check records CLOCK_DERIVED. -/
  | clockDerivedFail (clock : Nat)
  /-- SUPPLY_OUT_OF_WINDOW (R693): A supply outside its window for 2 µs records SUPPLY_MONITOR. -/
  | supplyOutOfWindow (supply : SupplyObs)
  /-- SUPERVISOR_FAULT (R37): Lockstep disagreement or a missed watchdog records SUP_LOCKSTEP or SUP_WDOG. -/
  | supervisorFault (watchdog : Bool)
  /-- SRAM_ECC_ERROR (R29): An SRAM ECC error records SRAM_ECC_CORR, or SRAM_ECC_UNCORR and fences the owner. -/
  | sramEccError (uncorr : Bool) (table : Nat) (entry : Nat) (kind : Nat) (inst : Nat) (word : Nat)
  /-- DRAM_ECC_UNCORR (R34): An uncorrectable DRAM ECC error records DRAM_ECC_UNCORR. -/
  | dramEccUncorr (kind : Nat) (inst : Nat) (addr : Nat)
  /-- SPILLWAY_FIRING (R531): A source line's firing sets its status bit, may become the first event, runs its reaction and is logged. -/
  | spillwayFiring (src : Nat) (inst : Nat) (detail : Nat) (line : Nat)
  /-- INJECTION_WINDOW_CLOSE (R545): At the end of WINDOW µs the injection ends and INJECTION_ENDED is raised. -/
  | injectionWindowClose
  /-- LANE_LOSS_OF_SIGNAL (R295): Input below 60 mV for 1 µs enters loss of signal. -/
  | laneLossOfSignal (l : Nat)
  /-- LANE_SIGNAL_RETURN (R295): Input above 90 mV for 10 µs leaves loss of signal and starts training. -/
  | laneSignalReturn (l : Nat)
  /-- LINK_TRAINING_DONE (R285): Link training ends and the lane sets precoding, takes a snapshot and starts alignment. -/
  | linkTrainingDone (l : Nat) (eye : Nat) (ctle : Nat) (vga : Int) (dfe : List Int) (txffe : List Int) (snr : Int) (tap1Over : Bool) (preAsked : Bool) (markAsked : Bool)
  /-- TRAINING_TIMEOUT (R287): Training not ended within 5 ms fails, and the lane trains again after 1 ms. -/
  | trainingTimeout (l : Nat) (cause : Nat)
  /-- RATE_SEARCH_DWELL_EXPIRY (R282): TILE port A moves to the next lane mode after 4 ms without training frames. -/
  | rateSearchDwellExpiry
  /-- ALIGNMENT_ATTEMPT (R297): One window test of the alignment search completes and the firmware slips or locks. -/
  | alignmentAttempt (l at_ : Nat) (results : List Nat)
  /-- MARKER_HIT (R298): The marker hunter finds a MARK candidate; a pair confirms alignment. -/
  | markerHit (l : Nat) (hit : HitObs)
  /-- MARKER_HUNT_TIMEOUT (R298): No pair within 8 marker periods retrains without MARK_REQ. -/
  | markerHuntTimeout (l : Nat)
  /-- LANE_LOCK (R233): 1024 clean codewords lock a Wotor port. -/
  | laneLock (l : Nat)
  /-- LANE_LOCK_LOSS (R299): 8 uncorrectable codewords lose lock and start a new search. -/
  | laneLockLoss (l : Nat)
  /-- DENSITY_WINDOW_END (R290): At the end of a density window, adaptation freezes or resumes. -/
  | densityWindowEnd (l : Nat) (window : DensityObs)
  /-- ADAPTATION_STEP (R289): The CTLE, VGA and DFE adapt by one step per 4096 UI. -/
  | adaptationStep (l : Nat) (dCtle : Int) (dVga : Int) (dDfe : List Int) (snr : Int)
  /-- SNAPSHOT_PERIOD_EXPIRY (R293): Every SNAP_PERIOD the lane replaces its last-good snapshot when the SNR is no worse. -/
  | snapshotPeriodExpiry (l : Nat)
  /-- DRIFT_CHECK (R293): Every 1 ms the lane reverts to its snapshot when the codes have drifted without gain. -/
  | driftCheck (l : Nat)
  /-- LANE_FAULT (R306): A PLL loss, error excess, flapping or training failure records LANE and fences the lane. -/
  | laneFault (l : Nat) (cause : Nat)
  /-- EYE_SCAN_DONE (R311): An eye scan completes or aborts and raises EYE_SCAN_DONE. -/
  | eyeScanDone (l : Nat) (codes : List Nat)
  /-- HOURLY_EYE_SCAN (R312): Once an hour the firmware scans each locked lane's centre eye height. -/
  | hourlyEyeScan (l : Nat) (eye : Nat)
  /-- SOURCE_PORT_START (R305): A source port starts auto-negotiation and training when its mode takes effect. -/
  | sourcePortStart (p : Nat)
  /-- SOURCE_PORT_CHANGE (R304): A source port goes up or down, raising events and possibly recording SOURCE_PORT. -/
  | sourcePortChange (p : Nat) (lock : Bool) (corrected : Nat) (uncorr : Nat)
  /-- ETHERNET_FRAME (R303): A received Ethernet frame is filtered, counted and passed to ARP, PTP or ingest. -/
  | ethernetFrame (p : Nat) (len : Nat) (fcs : Bool) (dst : Nat) (arpFor : Nat) (asker : Nat)
  /-- STREAM_PACKET (R174): An ST 2110-20 packet of a bound stream is written into its ring, starting or completing buffers. -/
  | streamPacket (port : Nat) (vid : Nat) (dst : Nat) (src : Nat) (udp : Nat) (pt : Nat) (ts : Nat) (marker : Bool) (rows : List (Nat × Nat × List Byte))
  /-- STREAM_TIMEOUT (R178): A stream without a completed buffer for STREAM_TIMEOUT raises STREAM_LOST. -/
  | streamTimeout (k : Nat)
  /-- PTP_MESSAGE (R342): A PTP Sync, Follow_Up, Delay_Resp or Announce message updates the port's PTP servo. -/
  | ptpMessage (port : Nat) (kind : Nat) (credit : Bool) (twoStep : Bool) (domain : Nat) (clock : Nat) (rank : Nat) (seq : Nat) (stamp : Nat) (time : Nat) (corr : Int)
  /-- PTP_ANNOUNCE_TIMEOUT (R341): 3 missed Announce intervals change master and unlock the port. -/
  | ptpAnnounceTimeout (port : Nat)
  /-- PTP_DELAY_REQ_SEND (R340): The port sends a Delay_Req at the master's interval and stamps it. -/
  | ptpDelayReqSend (port : Nat) (stamp : Nat)
  /-- WOTOR_CODEWORD (R253): A TILE decodes, corrects and forwards a codeword one hop latency later, inserting its own cells. -/
  | wotorCodeword (port : Nat) (fec : Nat) (cells : List (List Byte))
  /-- DATA_CELL (R239): A TILE writes pixels of its rectangle into the receive bank. -/
  | dataCell (port : Nat) (payload : Nat)
  /-- SYNC_TIME_CELL (R336): A SYNC TIME cell gives a follower a sample for its servo, or steps SYSTEM time. -/
  | syncTimeCell (port : Nat) (at_ : Nat) (root : Nat) (flags : Nat) (stamp : Nat)
  /-- FLIP_CELL (R51): A TILE accepts or discards a flip time, and may cut the frame in progress. -/
  | flipCell (port : Nat) (frame : Nat) (at_ : Nat)
  /-- FRAME_START_CELL (R238): A FRAME_START begins raster reception of a frame. -/
  | frameStartCell (port : Nat) (num : Nat) (w : Nat) (h : Nat) (vm1 : Nat)
  /-- TILE_CRC_CELL (R54): A TILE receives the per-tile CRC of the raster. -/
  | tileCrcCell (port : Nat) (num : Nat) (crcs : List (Nat × Nat))
  /-- DECISION_CELL (R245): A TILE keeps the first ADVANCE or REPEAT decision for a frame. -/
  | decisionCell (port : Nat) (num : Nat) (rep : Bool)
  /-- REPLY_CELL (R225): A SENDER receives a tile's REPLY and counts LATE reports. -/
  | replyCell (port : Nat) (frame : Nat) (dev : Nat) (flags : Nat) (lates : Nat)
  /-- MGMT_CELL (R248): An MGMT fragment is reassembled into a command, response, event or credit message. -/
  | mgmtCell (port : Nat) (kind : Nat) (frag : Nat) (last : Bool) (bc : Bool) (dest : Nat) (src : Nat) (tag : Nat) (data : List Byte)
  /-- MGMT_MESSAGE (R261): A complete MGMT message is consumed as a command, response, event or credit. -/
  | mgmtMessage
  /-- ENUM_TOKEN (R257): A TILE takes its position, reports and enables port B. -/
  | enumToken (port : Nat) (pos : Nat) (sender : Nat) (cascade : Nat) (full : Bool) (epoch : Nat)
  /-- ENUM_REPORT (R258): A SENDER records a tile REPORT and may end enumeration. -/
  | enumReport (port : Nat) (pos : Nat) (dev : Nat) (uid : Nat) (major : Nat) (minor : Nat) (flags : Nat) (straps : Nat) (epoch : Nat)
  /-- ENUM_GEOMETRY (R259): A TILE takes its rectangle and acknowledges with GEOM_OK. -/
  | enumGeometry (port : Nat) (dest : Nat) (x : Nat) (y : Nat) (rw : Nat) (rh : Nat) (wc : Nat) (hc : Nat) (vm1 : Nat) (epoch : Nat)
  /-- ENUM_HOP_TIMEOUT (R257): Port B without lock within ENUM_HOP_TIMEOUT sends a REPORT with TAIL. -/
  | enumHopTimeout (signal : Bool)
  /-- ENUM_END_TIMEOUT (R258): No REPORT for ENUM_HOP_TIMEOUT plus 1 ms ends the enumeration. -/
  | enumEndTimeout (n : Nat)
  /-- PORT_B_LOCKED (R257): When port B locks, the TILE sends the next TOKEN. -/
  | portBLocked
  /-- HEART_CELL (R269): A HEART is received; UPSTREAM_LOST at a return port may trigger a ring takeover. -/
  | heartCell (port : Nat) (src : Nat) (state : Nat) (flags : Nat)
  /-- TAKEOVER_NOTICE (R632): A TILE treats its upstream port as not feeding on a takeover notice from the other port. -/
  | takeoverNotice (port : Nat)
  /-- DELAY_REQUEST_CELL (R331): The far end answers a DELAY request with T2 and T3. -/
  | delayRequestCell (port : Nat) (probe : Nat) (t1 : Nat) (src : Nat) (bitB : Nat) (arrival : Nat) (departure : Nat)
  /-- DELAY_RESPONSE_CELL (R332): The requester computes a raw delay and updates the link delay. -/
  | delayResponseCell (port : Nat) (probe : Nat) (t1 : Nat) (t2 : Nat) (t3 : Nat) (arrival : Nat)
  /-- DELAY_PERIOD_EXPIRY (R331): Each DELAY_PERIOD a locked port sends a DELAY request. -/
  | delayPeriodExpiry (port : Nat) (stamp : Nat)
  /-- DELAY_ANSWER_TIMEOUT (R331): No answer within 64 codewords fails the exchange. -/
  | delayAnswerTimeout (port : Nat)
  /-- HOP_DELAY (R334): A TILE reports its delays and deviations when they are known or have moved. -/
  | hopDelay
  /-- PATH_TABLE_UPDATE (R335): A SENDER recomputes path delays and sends UPDATE_PATH to the TILEs. -/
  | pathTableUpdate
  /-- MARK_CELL (R273): MARK cells of equal SEQ align the lanes of a bundle. -/
  | markCell (port : Nat) (seq : Nat) (width : Nat)
  /-- BUNDLE_CHANGE (R273): A bundle goes down or up. -/
  | bundleChange (first : Nat)
  /-- SYNC_TIME_SEND (R330): Every SYNC_TIME_PERIOD codewords a port sends a SYNC TIME cell. -/
  | syncTimeSend (port : Nat) (stamp : Nat)
  /-- TIME_SAMPLE_PORT (R336): Every 1 ms a PORT source forms a sample of the error. -/
  | timeSamplePort
  /-- HOLDOVER_ENTRY (R337): 16 sample periods without a usable sample enter holdover. -/
  | holdoverEntry
  /-- HOLDOVER_LIMIT_EXPIRY (R337): Holdover lasting HOLDOVER_LIMIT records TIME_LOCK. -/
  | holdoverLimitExpiry
  /-- WINDOW_OPEN (R349): A time window instance opens and performs its actions. -/
  | windowOpen
  /-- WINDOW_CLOSE (R349): A time window instance closes. -/
  | windowClose
  /-- FSYNC_IN_EDGE (R350): A rising FSYNC_IN edge is stamped or discarded. -/
  | fsyncInEdge
  /-- PROCESS_TIME_LIMIT (R322): PROCESS time reaching 2^48 − 1 saturates. -/
  | processTimeLimit
  /-- TILE_STEP_APPLY (R327): A pending step of SYSTEM time is applied at the end of the TILE's frame. -/
  | tileStepApply
  /-- DECISION_INSTANT (R73): 50 000 ticks before a flip, the TILE decides swap or repeat and latches the frame's factors. -/
  | decisionInstant
  /-- READINESS_CHECK (R77): At flip time − READY_LEAD the TILE checks its receive bank and sends its REPLY. -/
  | readinessCheck
  /-- FLIP_TIME (R56): At a flip time the banks swap or not and the receive bank is emptied. -/
  | flipTime
  /-- NOMINAL_FRAME_END (R50): The end of a nominal-length frame acts as its flip. -/
  | nominalFrameEnd
  /-- SLOT_BOUNDARY (R103): A slot begins: dead-time sequence, clamp, probes, short samples and on-intervals. -/
  | slotBoundary (obs : SlotObs)
  /-- SLOT_COMPUTE (R41): The engine computes a slot's on-intervals before it begins, or raises EMIT_ENGINE. -/
  | slotCompute (inTime : Bool)
  /-- SWITCH_STAGE_FAULT (R115): A persistent current limit or overvoltage records SWITCH_STAGE. -/
  | switchStageFault (stage : Nat) (cause : Nat)
  /-- RAIL_LIMIT (R114): A rail at its limit for 1 s raises RAIL_LIMIT. -/
  | railLimit (stage : Nat)
  /-- WEAR_TRANSFER (R158): At a flip at least 1 s after the last, the accumulators are rounded into the wear counters. -/
  | wearTransfer
  /-- WEAR_STEP (R161): Every 60 transfers WEAR_COMP moves toward its targets. -/
  | wearStep
  /-- WEAR_SAVE (R159): Every WEAR_SAVE_PERIOD the wear state is written into a flash area. -/
  | wearSave
  /-- FRETBOARD_EXCHANGE (R149): At the decision instant the shadow copy becomes the active copy. -/
  | fretboardExchange
  /-- FRETBOARD_COPY_DONE (R149): The copy to the new shadow copy completes and FRETBOARD_COMMITTED is raised. -/
  | fretboardCopyDone
  /-- FRETBOARD_PERSIST_DONE (R153): The flash write of the Fretboard completes and FRETBOARD_PERSISTED is raised. -/
  | fretboardPersistDone
  /-- UPSTREAM_LOST (R267): The active upstream port stops feeding; the TILE holds and signals loss. -/
  | upstreamLost
  /-- UPSTREAM_SWITCHED (R266): A TILE changes its active upstream port at the next FRAME_START of the new port. -/
  | upstreamSwitched (port : Nat)
  /-- HOLD_LIMIT_EXPIRY (R268): No feed for HOLD_LIMIT makes the TILE dark. -/
  | holdLimitExpiry
  /-- UPSTREAM_LOST_HEART_REPEAT (R267): Every 1 ms while no port feeds, a HEART with UPSTREAM_LOST is sent. -/
  | upstreamLostHeartRepeat
  /-- RING_OPEN (R270): A return port that loses lock without an UPSTREAM_LOST raises RING_OPEN. -/
  | ringOpen (port : Nat)
  /-- RING_RESTORED (R270): 2 s after every TILE is fed by port A again, the return feed stops. -/
  | ringRestored (port : Nat)
  /-- MGMT_TIMEOUT (R263): A relayed command without a response in MGMT_TIMEOUT returns TARGET_TIMEOUT. -/
  | mgmtTimeout
  /-- LATCH_POINT (R199): At START_BLANK an output takes commits and stream buffers and starts composing the next frame. -/
  | latchPoint (o : Nat)
  /-- OUTPUT_LINE (R209): An output composes and sends the data cells of one line. -/
  | outputLine (o : Nat) (under : Option (Nat × Nat))
  /-- LINE_MATCH (R213): LINE_MATCH is raised at the start of the selected line. -/
  | lineMatch (o : Nat)
  /-- FRAME_START_SEND (R244): An output sends FRAME_START before line 0 of a frame. -/
  | frameStartSend (o : Nat)
  /-- FLIP_CELL_SEND (R244): Every 64 codewords an output sends FLIP for the frame's flip time. -/
  | flipCellSend (o : Nat)
  /-- FRAME_DONE (R213): The last per-tile CRC leaves; buffers are released and rectangle CRCs compared. -/
  | frameDone (o : Nat)
  /-- GROUP_DECISION (R225): At g_n the SENDER issues ADVANCE or REPEAT for the group. -/
  | groupDecision
  /-- FLIP_GUARD_CHECK (R223): A change of D_tail or enumeration rechecks the flip and group guards. -/
  | flipGuardCheck
  /-- FRAME_RESYNC (R210): After a step of SYSTEM time, the output extends blanking to the new grid. -/
  | frameResync (o : Nat)
  /-- HEAD_FRAME_INSTANT (R413): Each head port sends its downstream frame for the frame instant. -/
  | headFrameInstant (enc : List Int)
  /-- HEAD_UPSTREAM_FRAME (R417): A valid upstream frame is received, stamped and given to the engines. -/
  | headUpstreamFrame (h : Nat) (crcOk : Bool) (seq : Nat) (laser : Nat) (fault : Bool) (ex : Int) (ey : Int) (ez : Int) (mon : Nat) (mp : List Nat) (cam : List Byte) (stamp : Nat)
  /-- HEAD_FRAME_MISSING (R417): An upstream frame not complete by HEAD_RX_DEADLINE is missing. -/
  | headFrameMissing (h : Nat)
  /-- HEAD_LINK_CHANGE (R419): A head link goes up or down. -/
  | headLinkChange (h : Nat)
  /-- HEAD_LINK_FAULT (R420): A head link failure records HEAD_LINK and freezes the head. -/
  | headLinkFault (h : Nat)
  /-- HALT_BLOCK (R421): A HALT block cuts LGATE and the shunt gates in hardware and fires HEAD_HALT. -/
  | haltBlock (h : Nat) (header : Nat) (block : List Byte)
  /-- HALT_RELEASED (R423): 64 frame periods without HALT end the acknowledgement. -/
  | haltReleased (h : Nat)
  /-- HEAD_REFERENCE_DONE (R366): After 64 checked frames the head becomes REFERENCED or stays UNREFERENCED. -/
  | headReferenceDone (h : Nat)
  /-- BUILD_ARM_DONE (R361): Queues filled and stages soft-started make the layer ARMED, or LOADED on failure. -/
  | buildArmDone
  /-- START_TICK (R362): At the start tick the build layer runs and PROCESS time starts. -/
  | startTick
  /-- JET_BOUNDARY (R376): A head reaches a jet boundary and applies pending actions at gate-closed boundaries. -/
  | jetBoundary (h : Nat)
  /-- RUN_DECISION (R384): 4096 ticks before a run's start, throttle and plume guard decide it. -/
  | runDecision
  /-- GATE_EDGE (R424): A gate edge is placed on LGATE and SHG at its tick. -/
  | gateEdge (h : Nat)
  /-- JET_QUEUE_REFILL (R377): A queue with 256 free entries reads and validates the next jets. -/
  | jetQueueRefill (h : Nat)
  /-- ANCHOR_WAIT_END (R382): A head waiting for an anchor starts its run. -/
  | anchorWaitEnd (h : Nat)
  /-- BUILD_PAUSED (R388): The last head reaching its boundary makes the layer PAUSED and stops PROCESS time. -/
  | buildPaused
  /-- BUILD_DONE (R361): Every head completes its last jet. -/
  | buildDone
  /-- SUMMARY_WRITE (R396): A jet summary record is written within 10 µs of its span end. -/
  | summaryWrite (h : Nat)
  /-- SETPOINT_SIGNATURE (R397): Every 1024 frames a set-point signature is written into capture. -/
  | setpointSignature (h : Nat)
  /-- AXIS_STEP (R398): A step edge is placed for an axis. -/
  | axisStep (a : Nat)
  /-- AXIS_DONE (R399): A move or deceleration ends. -/
  | axisDone (a : Nat)
  /-- STEP_IN_EDGE (R402): A coarse STEP_IN edge replans a following axis. -/
  | stepInEdge (input : Nat) (fwd : Bool)
  /-- ENCODER_Z_EDGE (R401): The Z edge during homing sets the position. -/
  | encoderZEdge (a : Nat)
  /-- HOMING_DONE (R401): Homing ends and the axis is IDLE. -/
  | homingDone (a : Nat)
  /-- HOMING_TIMEOUT (R401): No Z edge within 2^31 steps stops the axis at once. -/
  | homingTimeout (a : Nat)
  /-- STRING_FACTOR_LATCH (R432): Each millisecond the string factors are latched and Q moves. -/
  | stringFactorLatch
  /-- STAGE_SOFTSTART_DONE (R433): A stage reaches its reference, or fails within 1 ms. -/
  | stageSoftstartDone (stage : Nat) (ok : Bool)
  /-- HEAD_LOOP_UPDATE (R444): A head slot updates once per downstream frame. -/
  | headLoopUpdate (h : Nat)
  /-- STRING_LOOP_UPDATE (R443): A string slot updates every 8000 ticks. -/
  | stringLoopUpdate (n : Nat) (sample : Option Int)
  /-- HEADROOM_LOOP_UPDATE (R466): A headroom slot updates at each slot boundary. -/
  | headroomLoopUpdate (n : Nat)
  /-- LOOP_DELAY_SET (R462): d_h is set at HEAD_LINK_UP or a change of HEAD_LEAD. -/
  | loopDelaySet (h : Nat)
  /-- TRACE_TRIGGER (R473): The trace trigger fires. -/
  | traceTrigger (src : Nat) (arg : Nat)
  /-- TRACE_DONE (R473): All enabled channels stop after the trigger. -/
  | traceDone
  /-- TEMP_CONVERSION (R568): Every 1 ms each enabled input is converted and checked. -/
  | tempConversion (v : List Int)
  /-- THROTTLE_STEP (R576): The throttle level changes by one every THROTTLE_STEP_MS or 4 × that. -/
  | throttleStep
  /-- THERMAL_STOP (R580): Level 8 with THROTTLE for THROTTLE_STOP_MS requests a build stop. -/
  | thermalStop
  /-- AVS_TICK (R586): Every 1 ms the AVS loop adjusts VDD_CORE from the slack. -/
  | avsTick (slack : Nat) (mv : Nat) (ma10 : Nat) (ok : Bool)
  /-- AVSBUS_RETRY (R588): After AVSBus failures, the loop retries every 100 ms. -/
  | avsbusRetry (ok : Bool)
  /-- AGEING_SAMPLE (R590): Each hour the ageing monitors are sampled. -/
  | ageingSample (ratio : List Nat) (sLo : Nat) (sHi : Nat) (vLo : Nat) (vHi : Nat)
  /-- AGEING_SAVE (R590): Every 24 h the histories are written into an ageing area. -/
  | ageingSave
  /-- REPLAN_DUE (R591): Operating hours reaching the replan hour run a replan. -/
  | replanDue
  /-- CAL_STEP_DUE (R607): A domain's period expiry starts a background calibration step. -/
  | calStepDue (d : Nat)
  /-- CAL_STEP_DONE (R613): A calibration step completes and its record is written. -/
  | calStepDone (d : Nat) (inst : Nat) (o : CalObs)
  /-- QUIET_INSTANT (R603): At a quiet instant the twin line becomes active. -/
  | quietInstant (inst : Nat) (hits : List Nat)
  /-- QUIET_INSTANT_TIMEOUT (R603): No quiet instant within 1 s abandons the DELAY step. -/
  | quietInstantTimeout (inst : Nat) (hits : List Nat)
  /-- SLICER_FIRST_STEP (R604): 1 s after each lock a SLICER step runs on the lane. -/
  | slicerFirstStep (l : Nat)
  /-- HEARTBEAT_SEND (R624): Every millisecond a paired unit sends a heartbeat on HB_OUT and the peer link. -/
  | heartbeatSend
  /-- HB_IN_EDGE (R624): A rising edge on HB_IN is accepted as a heartbeat when its timing fits. -/
  | hbInEdge (width : Nat)
  /-- HEARTBEAT_SILENCE (R625): A path silent for 3 ms records HEARTBEAT_LOSS; both silent make a standby take over. -/
  | heartbeatSilence
  /-- PAIR_YIELD (R639): An active unit hearing its peer active yields. -/
  | pairYield
  /-- PAIR_START_WAIT_EXPIRY (R644): The preferred standby becomes active after PAIR_START_WAIT without a heartbeat. -/
  | pairStartWaitExpiry
  /-- AUTO_SWITCHBACK (R643): The active preferred standby hands over without a command. -/
  | autoSwitchback
  /-- HANDOVER_INSTANT (R642): The handover happens at its latch point or frame instant. -/
  | handoverInstant (cause : Nat)
  /-- SNAPSHOT_SEND (R627): Every second the active unit sends a snapshot of the pair state. -/
  | snapshotSend
  /-- PEER_RECORD (R630): A standby applies a snapshot, mirror, progress, HELLO or acknowledgement record. -/
  | peerRecord (bytes : List Byte)
  /-- SAVED_STATE_COPY (R33): At most once per 60 s a changed saved state is written into the record store. -/
  | savedStateCopy
  /-- CAPTURE_ORIGIN (R555): A waiting capture reaches its origin and writes ORIGIN. -/
  | captureOrigin
  /-- CAPTURE_CHECKPOINT (R557): Every CHECKPOINT_PERIOD a CHECKPOINT record is written. -/
  | captureCheckpoint
  /-- CAPTURE_END (R557): A capture ends on a full ring, lost records or the stop trigger. -/
  | captureEnd (lost : Nat)
  /-- REPLAY_DONE (R563): Replay ends. -/
  | replayDone
  /-- IMAGE_VERIFIED (R669): Flash writes complete and the transfer is verified. -/
  | imageVerified (sigOk : Bool) (hashOk : Bool)
  /-- ACTIVATION_INSTANT (R673): The boot control record is written and the device restarts. -/
  | activationInstant (o : BootObs)
  /-- LIVE_RESTART_END (R674): The new firmware is up after a live restart. -/
  | liveRestartEnd
  /-- SELFTEST_DONE (R676): The TRIAL image's self-tests complete. -/
  | selftestDone (n : Nat) (o : BootObs)
  /-- TRIAL_WATCHDOG_EXPIRY (R677): The trial watchdog falls back by a warm reset. -/
  | trialWatchdogExpiry (o : BootObs)
  /-- FORWARD_CHUNK_RESPONSE (R671): A neighbour answers a forwarded chunk, which is resent on BUSY. -/
  | forwardChunkResponse (tag : Nat) (status : Nat)
  /-- FORWARD_DONE (R670): The neighbour's IMAGE_END completes and the forward chains or ends. -/
  | forwardDone (status : Nat)
  /-- PCIE_LINK_UP (R662): The PCIe link finishes training after reset release, and BAR0 registers answer from link-up. -/
  | pcieLinkUp
  /-- PAIR_PRIMARY_START_EXPIRY (R644): A preferred primary in STANDBY that has heard no active heartbeat for 3 ms becomes active. -/
  | pairPrimaryStartExpiry
  /-- TAKEOVER_NOTICE_REPEAT (R632): Every 1 ms for 100 ms after becoming active, a unit sends the takeover notice again on every paired port. -/
  | takeoverNoticeRepeat
  /-- DIE_LINK_FRAMED (R23): The die-to-die link regains framing, allowing the control die to re-enable emission. -/
  | dieLinkFramed
  /-- FREE_SOURCE_LOCK_DELAY (R336): With source FREE, SYSTEM time becomes time locked 1 ms after reset and TIME_LOCKED is raised. -/
  | freeSourceLockDelay
  /-- FLASH_ERASE_DONE (R667): Erasure of inactive-slot sectors completes, letting chunks be written and an ERASE_ONLY slot become EMPTY. -/
  | flashEraseDone (n : Nat)
  /-- TAP_INSTRUCTION (R708): An IEEE 1149.1 TAP operation loads an instruction or a debug token, changing boundary-scan control of the pins. -/
  | tapInstruction (ir : Nat) (valid : Bool)
  /-- SLACK_BELOW_ONE_TAP (R587): When the least critical-path slack falls below 1 tap, the AVS loop raises VDD_CORE by 25 mV at once. -/
  | slackBelowOneTap
deriving DecidableEq, Repr

end Sys2Proof
end

