-- ==== Sys2Proof/Config.lean ====
section
/-! DEFINITION. What a part fixes and the spec leaves open: device identity, firmware identity, and the
free values (opaque constants with no body, so that no proof can lean on one of their values). -/

namespace Sys2Proof

/-- Device identity: UNIQUE_ID (13_mailbox R513). A Config constant of the part. -/
opaque Config.uniqueId : BitVec 64
/-- DEV_STEP.GRADE: 0 GV2416-AC, 1 GV2416-AI (13_mailbox R481). -/
opaque Config.grade : BitVec 1
/-- The identity base address divided by 8 (13_mailbox R713: a multiple of 8). -/
opaque Config.macBase8 : BitVec 45
/-- Capacity of the DRAM devices fitted, in units of 8 MiB (log 61). -/
opaque Config.dramDevices : BitVec 21
/-- Usable DRAM capacity, MiB: seven eighths of the devices' (01_architecture R34). -/
def Config.dramMib : BitVec 24 := Config.dramDevices.setWidth 24 * 7
/-- The major version of the firmware the manual applies to (00_scope R1). -/
def Config.fwMajor : BitVec 8 := 3
/-- The rest of the version and the build of the image a part is delivered with, which the spec does not give (13 R513). -/
opaque Config.fwMinor : BitVec 8
opaque Config.fwPatch : BitVec 16
opaque Config.fwBuild : BitVec 32
/-- CONFIG_ABI and SECURITY_VERSION of the factory image (18 R657). -/
opaque Config.configAbi : BitVec 16
opaque Config.securityVersion : BitVec 32
/-- The transfer of the image a part is delivered with: its length and bytes, which the spec does not give. -/
opaque Config.factoryBytes : Nat
opaque Config.factoryByte : Nat → BitVec 8
/-- Factory calibration records of the identity region: DOMAIN × 4096 + INSTANCE, index in the body (16 R612, R614). -/
opaque Config.factoryCal : Nat → Nat → Nat
/-- The mid-level threshold of a slicer, mV, which 16_calibration R614 names and does not give. -/
opaque Config.midLevel : Nat → Int
/-- Length of a reaction interval within its limit, ticks, by the free counter (14_spillway R534). -/
opaque Config.reactionTicks : Nat → Nat
/-- A free value by the free counter and a purpose code (log 7). -/
opaque Config.free : Nat → Nat → Nat
/-- Servo of 09_time R336: bandwidth code, present f, present s, error e in 1/256 tick. -/
opaque Config.servoF : Nat → Int → Int → Int → Int
opaque Config.servoS : Nat → Int → Int → Int → Int
/-- PTP port servo of 09_time R342: present rate and offset in 1/256 tick. -/
opaque Config.ptpServo : Int → Int → Int
/-- The two temperatures of the factory calibration, 0.0625 °C, and the deviations of a lane at each, 1/256 tick: TX by lane,
RX by lane and CTLE code (09_time R323). -/
opaque Config.calTemp : Bool → Int
opaque Config.txCal : Nat → Bool → Int
opaque Config.rxCal : Nat → Nat → Bool → Int
/-- The die sensor that serves a lane's quad, which 09_time R323 does not name. -/
opaque Config.quadSensor : Nat → Nat
/-- An inexact coefficient that the firmware computes goes to the integer above (05_composition R187, R188; log 26). -/
opaque Config.roundsUp : List Nat → Bool
/-- The gamut conversion to working primaries that span no gamut: source gamut, WORKING_GAMUT, element (log 26). -/
opaque Config.gamut : Nat → List Nat → Nat → Int
/-- Whether a signing key of the identity region is present and not revoked (18 R658). -/
opaque Config.keyUsable : BitVec 2 → Bool
/-- The firmware's engine-state part of ORIGIN and CHECKPOINT records (14_spillway R555). -/
opaque Config.engineByte : Nat → Nat → BitVec 8
opaque Config.engineLen : Nat → Nat
/-- A signature as the replayed engines compute it where R562 does not say its value (log 35). -/
opaque Config.replayCrc : Nat → BitVec 32
/-- What a trace channel records of a node whose value an update does not compute, by the free counter and node (12_loops R474). -/
opaque Config.traceIdle : Nat → Nat → Int
/-- The clock identity bytes a part shows on IEEE 1149.1 (19 R708 gives 0x1241_6B47). -/
def Config.idcode : Nat := 0x12416B47

end Sys2Proof
end

