-- ==== Sys2Proof/Machine/Bits.lean ====
section
/-! DEFINITION. Bit fields, byte order, signed readings, rounding and checksums. -/

namespace Sys2Proof.Machine

/-- Bits `[lo + n - 1 : lo]` of a number (00_scope R12: bit 0 is the least significant). -/
def bits (x lo n : Nat) : Nat := x / 2 ^ lo % 2 ^ n

/-- Bit `i` of a number. -/
def bit (x i : Nat) : Bool := x / 2 ^ i % 2 == 1

/-- A Bool as 0 or 1. -/
def b2n (b : Bool) : Nat := if b then 1 else 0

/-- A Bool as a bit of weight `2 ^ i`. -/
def flag (b : Bool) (i : Nat) : Nat := if b then 2 ^ i else 0

/-- `x` with bit `i` set or cleared. -/
def putBit (x i : Nat) (b : Bool) : Nat :=
  if bit x i == b then x else if b then x + 2 ^ i else x - 2 ^ i

/-- The `n`-bit two's complement reading of `x`. -/
def sgn (n x : Nat) : Int :=
  let y := x % 2 ^ n
  if y < 2 ^ (n - 1) then (y : Int) else (y : Int) - 2 ^ n

/-- The `n`-bit two's complement encoding of `i`. -/
def uns (n : Nat) (i : Int) : Nat := (i % (2 ^ n : Int)).toNat

/-- `i` limited to the range of `n`-bit two's complement. -/
def satS (n : Nat) (i : Int) : Int := max (-(2 ^ (n - 1) : Int)) (min (2 ^ (n - 1) - 1 : Int) i)

/-- `i` limited to `0 … hi`, as a natural number. -/
def satU (hi : Nat) (i : Int) : Nat := min hi i.toNat

/-- `i` limited to `lo … hi`. -/
def clampI (lo hi i : Int) : Int := max lo (min hi i)

/-- Round a quotient to nearest, halves away from zero (DEDUCED, log 8). -/
def rdiv (a b : Int) : Int :=
  if b = 0 then 0 else
  let q := (2 * a.natAbs + b.natAbs) / (2 * b.natAbs)
  if (a < 0) = (b < 0) then (q : Int) else -(q : Int)

/-- Quotient rounded toward minus infinity. -/
def fdiv (a b : Int) : Int := Int.fdiv a b

/-- Quotient rounded up. -/
def cdiv (a b : Nat) : Nat := (a + b - 1) / b

/-- The low `n` bytes of `v`, least significant first (00_scope R13). -/
def leBytes : Nat → Nat → List Byte
  | 0, _ => []
  | n + 1, v => b8 v :: leBytes n (v / 256)

/-- The number that little-endian bytes spell. -/
def leNat : List Byte → Nat
  | [] => 0
  | b :: r => b.toNat + 256 * leNat r

/-- Bytes `off … off + n - 1` of a byte string, read little-endian. -/
def leAt (l : List Byte) (off n : Nat) : Nat := leNat ((l.drop off).take n)

/-- The bytes of a word, least significant first. -/
def wordBytes (w : Word) : List Byte := leBytes 4 w.toNat

/-- The bytes of a list of words. -/
def bytesOf (ws : List Word) : List Byte := ws.flatMap wordBytes

/-- `n` words from a byte string, padded with 0. -/
def wordsN : Nat → List Byte → List Word
  | 0, _ => []
  | n + 1, l => w32 (leAt l 0 4) :: wordsN n (l.drop 4)

/-- The words of a byte string, the last one padded with 0. -/
def wordsOf (l : List Byte) : List Word := wordsN (cdiv l.length 4) l

/-- Overwrite bytes from offset `off`. -/
def putBytes (l : List Byte) (off : Nat) (d : List Byte) : List Byte :=
  l.take off ++ d ++ l.drop (off + d.length)

/-- Set element `i` of a list where it exists. -/
def setAt {α : Type} (l : List α) (i : Nat) (v : α) : List α := l.set i v

/-- One byte into a reflected CRC-32 register, `k` bits. -/
def crcBits : Nat → Nat → Nat
  | 0, c => c
  | k + 1, c => crcBits k (if c % 2 = 1 then Nat.xor (c / 2) 0xEDB88320 else c / 2)

/-- One byte into the CRC-32 of 02_emission_timeline R55. -/
def crcByte (c : Nat) (b : Byte) : Nat := crcBits 8 (Nat.xor c b.toNat)

/-- Run the CRC-32 register over bytes. -/
def crcFeed (c : Nat) (l : List Byte) : Nat := l.foldl crcByte c

/-- The CRC-32 of a byte string (02_emission_timeline R55). -/
def crc32 (l : List Byte) : Nat := Nat.xor (crcFeed 0xFFFFFFFF l) 0xFFFFFFFF

/-- The largest `n < 2 ^ k` with `p n`, for `p` true up to some point: a binary search. -/
def searchLe (p : Nat → Bool) : Nat → Nat → Nat
  | 0, acc => acc
  | k + 1, acc => if p (acc + 2 ^ k) then searchLe p k (acc + 2 ^ k) else searchLe p k acc

/-- Keep the last `n` elements. -/
def lastN {α : Type} (n : Nat) (l : List α) : List α := l.drop (l.length - n)

end Sys2Proof.Machine
end

