-- ==== Sys2Proof/Machine/Curves.lean ====
section
/-! DEFINITION. The curves, matrices and kernels that 05_composition names after their standards (R187, R188, R202),
computed in fixed point with 128 fraction bits (log 26). -/

namespace Sys2Proof.Machine

/-! ### Fixed point -/

/-- 1.0. -/
def fxOne : Nat := 2 ^ 128
def fxMul (a b : Nat) : Nat := a * b / fxOne

/-- z + z³/3 + z⁵/5 + …, from the odd index `k` with `p` = zᵏ. -/
def fxOddSum : Nat → Nat → Nat → Nat → Nat
  | 0, _, _, _ => 0
  | n + 1, k, p, z2 => p / k + fxOddSum n (k + 2) (fxMul p z2) z2
def fxAtanh (z : Nat) : Nat := fxOddSum 44 1 z (fxMul z z)

/-- ln 2, and ln x for x > 0: x = m × 2ᵉ with 1 ≤ m < 2. -/
def fxLn2 : Nat := 2 * fxAtanh (fxOne / 3)
def fxLn (x : Nat) : Int :=
  let e := Nat.log2 x
  let m := x * 2 ^ 128 / 2 ^ e
  ((e : Int) - 128) * fxLn2 + 2 * fxAtanh ((m - fxOne) * fxOne / (m + fxOne))

/-- The exponential series from term `k` on. -/
def fxExpSum : Nat → Nat → Nat → Nat → Nat
  | 0, _, _, _ => 0
  | n + 1, k, t, r => t + fxExpSum n (k + 1) (fxMul t r / (k + 1)) r
def fxExp (y : Int) : Nat :=
  let k := fdiv y fxLn2
  let v := fxExpSum 40 0 fxOne (y - k * fxLn2).toNat
  if 0 ≤ k then v * 2 ^ k.toNat else v / 2 ^ (-k).toNat

/-- x raised to n / d; 0 stays 0. -/
def fxPow (x : Nat) (n d : Int) : Nat := if x = 0 then 0 else fxExp (fdiv (fxLn x * n) d)

/-- 1/x − 1/(3x³) + …, from the odd index `k`, with `p` = 1/xᵏ and `x2` = x². -/
def fxAltSum : Nat → Nat → Nat → Nat → Int
  | 0, _, _, _ => 0
  | n + 1, k, p, x2 => (p / k : Nat) - fxAltSum n (k + 2) (p / x2) x2

/-- π by Machin's formula. -/
def fxPi : Nat := (16 * fxAltSum 60 1 (fxOne / 5) 25 - 4 * fxAltSum 20 1 (fxOne / 239) 57121).toNat

/-- The sine series from the odd index `k`, with `t` = yᵏ/k!. -/
def fxSinSum : Nat → Nat → Nat → Nat → Int
  | 0, _, _, _ => 0
  | n + 1, k, t, y2 => (t : Int) - fxSinSum n (k + 2) (fxMul t y2 / ((k + 1) * (k + 2))) y2

/-- sin(π m / n). -/
def fxSinPi (m : Int) (n : Nat) : Int :=
  let r := (m % n).toNat
  let y := fxPi * min r (n - r) / n
  let v := fxSinSum 26 1 y (fxMul y y)
  if m / n % 2 = 0 then v else -v

/-! ### Transfer curves (R188) -/

/-- SMPTE ST 2084 EOTF of i / 1024, cd/m². -/
def pqNits (i : Nat) : Nat :=
  let n := fxPow (i * fxOne / 1024) 32 2523
  10000 * fxPow ((128 * n - 107 * fxOne) * fxOne / (2413 * fxOne - 2392 * n)) 8192 1305

/-- ITU-R BT.2100 HLG inverse OETF of i / 1024. -/
def hlgScene (i : Nat) : Nat :=
  if i ≤ 512 then i * i * fxOne / (3 * 1024 * 1024)
  else (fxExp (fdiv ((100000000 * (i : Int) - 1024 * 55991073) * fxOne) (1024 * 17883277)) + 28466892 * fxOne / 100000000) / 12

/-- HLG EOTF of i / 1024 for a nominal peak and black level 0, of equal components (DEDUCED, log 26: the rule evaluates the
curve component by component): peak × E^γ with γ = 1.2 + 0.42 log10(peak / 1000). -/
def hlgNits (peak i : Nat) : Nat :=
  let gam := fxOne * 6 / 5 + fdiv (42 * (fxLn (peak * fxOne / 1000)) * fxOne) (100 * fxLn (10 * fxOne))
  peak * fxPow (hlgScene i) gam fxOne

/-- round(nits / white × 65 536). -/
def nitsCode (nits white : Nat) : Nat := (2 * 65536 * nits + white * fxOne) / (2 * max 1 white * fxOne)

/-! ### Matrices (R187, R188) -/

/-- A computed coefficient in units of its field. The rule does not say how an inexact one is rounded: to the integer
below or above, a free choice of the part (log 26). -/
def coefOf (tag : List Nat) (n d : Int) : Int :=
  let q := fdiv n d
  if q * d = n then q else if Config.roundsUp tag then q + 1 else q

/-- Luma coefficients of red and blue, 1/10 000: BT.709 or BT.2020 non-constant luminance. -/
def lumaOf (bt2020 : Bool) : Int × Int := if bt2020 then (2627, 593) else (2126, 722)

/-- Element `k` (row × 3 + column) of YCbCr → RGB as a fraction. -/
def yccToRgb (bt2020 : Bool) (k : Nat) : Int × Int :=
  let kr := (lumaOf bt2020).1
  let kb := (lumaOf bt2020).2
  let kg := 10000 - kr - kb
  match k with
  | 0 | 3 | 6 => (1, 1)
  | 2 => (2 * (10000 - kr), 10000)
  | 4 => (-2 * kb * (10000 - kb), 10000 * kg)
  | 5 => (-2 * kr * (10000 - kr), 10000 * kg)
  | 7 => (2 * (10000 - kb), 10000)
  | _ => (0, 1)

/-- Source of an automatic input matrix: its colorimetry, YCbCr or RGB, its range and its depth. -/
structure MatrixSrc where
  bt2020 : Bool
  ycc : Bool
  full : Bool
  depth : Nat
deriving DecidableEq, Repr

/-- Element `k` of a source's matrix before its range. -/
def MatrixSrc.elem (m : MatrixSrc) (k : Nat) : Int × Int :=
  if m.ycc then yccToRgb m.bt2020 k else (if k % 4 = 0 then 1 else 0, 1)

/-- Scale and zero of component `j` by the range, codes scaled to 16 bits: narrow 16–235 (chroma 16–240) of 8 bits,
full 0 to 2ⁿ − 1. -/
def MatrixSrc.scale (m : MatrixSrc) (j : Nat) : Int × Int :=
  if m.full then ((2 ^ m.depth : Nat), (2 ^ m.depth - 1 : Nat)) else if m.ycc ∧ j ≠ 0 then (256, 224) else (256, 219)
def MatrixSrc.zero (m : MatrixSrc) (j : Nat) : Int := if m.ycc ∧ j ≠ 0 then 32768 else if m.full then 0 else 4096

def MatrixSrc.tag (m : MatrixSrc) (i : Nat) : List Nat := [187, b2n m.bt2020, b2n m.ycc, b2n m.full, m.depth, i]

/-- Coefficient `k`, 2⁻¹², and offset `c`, 2⁻¹⁶ (R187). -/
def MatrixSrc.coef (m : MatrixSrc) (k : Nat) : Int :=
  coefOf (m.tag k) (4096 * (m.elem k).1 * (m.scale (k % 3)).1) ((m.elem k).2 * (m.scale (k % 3)).2)
def MatrixSrc.off (m : MatrixSrc) (c : Nat) : Int :=
  let t := fun j => ((m.elem (3 * c + j)).1 * (m.scale j).1 * m.zero j, (m.elem (3 * c + j)).2 * (m.scale j).2)
  let s := (List.range 3).foldl (fun (a : Int × Int) j => (a.1 * (t j).2 + (t j).1 * a.2, a.2 * (t j).2)) (0, 1)
  coefOf (m.tag (9 + c)) (-s.1) s.2

/-- Chromaticities x, y of R, G, B and white, 1/10 000. -/
def primaries (bt2020 : Bool) : List Int :=
  if bt2020 then [7080, 2920, 1700, 7970, 1310, 460, 3127, 3290] else [6400, 3300, 3000, 6000, 1500, 600, 3127, 3290]

/-- x, y or z (= 1 − x − y) of primary `j` (3 = white) in units of 1/`one`. -/
def chroma (p : List Int) (one : Int) (r j : Nat) : Int :=
  match r with
  | 0 => p.getD (2 * j) 0
  | 1 => p.getD (2 * j + 1) 0
  | _ => one - p.getD (2 * j) 0 - p.getD (2 * j + 1) 0

/-- Element (r, c) of the adjugate of a 3 × 3 matrix, and its determinant. -/
def adjugate (m : Nat → Nat → Int) (r c : Nat) : Int :=
  let a := fun i => (i + 1) % 3
  let b := fun i => (i + 2) % 3
  m (a c) (a r) * m (b c) (b r) - m (a c) (b r) * m (b c) (a r)
def det3 (m : Nat → Nat → Int) : Int := ((List.range 3).map fun j => m 0 j * adjugate m j 0).sum

/-- The scale of primary `i` that makes white, times the determinant and white's y. -/
def whiteScale (p : List Int) (one : Int) (i : Nat) : Int :=
  ((List.range 3).map fun j => adjugate (chroma p one) i j * chroma p one j 3).sum

/-- Coefficient `k`, 2⁻¹³, of the conversion from the primaries of BT.709 or BT.2020 to a working gamut in 2⁻¹⁶ (R188).
Working primaries on one line have no conversion: a free value. -/
def gamutOf (bt2020 : Bool) (work : List Nat) (k : Nat) : Int :=
  let w : List Int := work.map fun x => (x : Int)
  let p := primaries bt2020
  let i := k / 3
  let j := k % 3
  let num := ((List.range 3).map fun r => adjugate (chroma w 65536) i r * chroma p 10000 r j).sum *
    whiteScale p 10000 j * chroma w 65536 1 3
  let den := det3 (chroma p 10000) * chroma p 10000 1 3 * whiteScale w 65536 i
  if den = 0 then Config.gamut (b2n bt2020) work k else coefOf [188, b2n bt2020, k] (8192 * num) den

/-! ### Kernels (R202) -/

/-- The Lanczos weight a × sin(πx) × sin(πx/a) / (πx)² at x = m / 64, 2⁻¹², to nearest (PRESUMED, log 26). -/
def lanczosTap (a : Nat) (m : Int) : Int :=
  if m = 0 then 4096 else
  rdiv (4096 * 4096 * a * fxSinPi m 64 * fxSinPi m (64 * a)) (fxPi * fxPi * m * m)

/-- Coefficient `j` of the Lanczos kernel: 64 phases of 8 taps with a = 4, or of 6 taps with a = 3 (R189, R202). -/
def lanczosDefault (vertical : Bool) (j : Nat) : Nat :=
  let taps := if vertical then 6 else 8
  let off : Int := if vertical then 2 else 3
  uns 16 (lanczosTap (if vertical then 3 else 4) (64 * ((j % taps : Nat) - off) - (j / taps : Nat)))

/-- WORKING_GAMUT's default, BT.2020 primaries and D65 white, 2⁻¹⁶ to nearest (R202). -/
def gamutDefault : List Nat := (primaries true).map fun x => (rdiv (x * 65536) 10000).toNat

end Sys2Proof.Machine
end

