-- ==== Sys2Proof/Machine/Tab.lean ====
section
/-! DEFINITION. Sparse tables in one canonical form: keys strictly rising, no entry equal to the
table's default. DRAM, counters, key values and every indexed store of the block are such tables. -/

namespace Sys2Proof.Machine

/-- A sparse table: the listed keys with their values; every other key holds the table's default. -/
abbrev Tab (α : Type) := List (Nat × α)

variable {α : Type}

/-- The value at key `k`, `d` where the table lists nothing. -/
def tabGet (d : α) : Tab α → Nat → α
  | [], _ => d
  | (k', v) :: r, k => if k' = k then v else tabGet d r k

/-- The table with every entry at key `k` removed. -/
def tabErase : Tab α → Nat → Tab α
  | [], _ => []
  | (k', v) :: r, k => if k' = k then tabErase r k else (k', v) :: tabErase r k

/-- Insert an entry at its place in the rising order. -/
def tabInsert (k : Nat) (v : α) : Tab α → Tab α
  | [] => [(k, v)]
  | (k', v') :: r => if k < k' then (k, v) :: (k', v') :: r
      else if k = k' then (k, v) :: r else (k', v') :: tabInsert k v r

/-- Write `v` at key `k`; writing the default removes the entry, so equal contents are equal data. -/
def tabSet [DecidableEq α] (d : α) (t : Tab α) (k : Nat) (v : α) : Tab α :=
  if v = d then tabErase t k else tabInsert k v t

/-- Change the value at key `k`. -/
def tabUpd [DecidableEq α] (d : α) (t : Tab α) (k : Nat) (f : α → α) : Tab α :=
  tabSet d t k (f (tabGet d t k))

/-- Write the values of `vs` at keys `k`, `k + 1`, … -/
def tabSetList [DecidableEq α] (d : α) (t : Tab α) (k : Nat) : List α → Tab α
  | [] => t
  | v :: vs => tabSetList d (tabSet d t k v) (k + 1) vs

/-- Every value mapped. -/
def tabMap [DecidableEq α] (d : α) (f : α → α) (t : Tab α) : Tab α := t.foldl (fun u p => tabSet d u p.1 (f p.2)) []

/-- The values at keys `k` to `k + n - 1`. -/
def tabGetList (d : α) (t : Tab α) (k : Nat) : Nat → List α
  | 0 => []
  | n + 1 => tabGet d t k :: tabGetList d t (k + 1) n

/-- Every key of the list lies above `lo`, keys rise and no value is the default. -/
def tabRising [DecidableEq α] (d : α) : Nat → Tab α → Bool
  | _, [] => true
  | lo, (k, v) :: r => decide (lo ≤ k) && decide (v ≠ d) && tabRising d (k + 1) r

/-- The canonical form of a table. -/
def tabWf [DecidableEq α] (d : α) (t : Tab α) : Bool := tabRising d 0 t

end Sys2Proof.Machine
end

