-- ==== Sys2Proof/Parts/Core.lean ====
section
/-! DEFINITION. The state every role shares: roles and device states, the BAR0 register file, command
paths, events, counters, keys, the Spillway, the log, capture and replay, and the time unit. -/

namespace Sys2Proof.Machine

/-- The role strapped at PORST_N release (00_scope R6, R7). -/
inductive Role where
  | tile | sender | bed | factory
deriving DecidableEq, Repr, Inhabited

/-- The device states (13_mailbox R502); `reset` is the pin state before BOOT. -/
inductive DevState where
  | reset | boot | standby | ready | run | hold | safe | service
deriving DecidableEq, Repr, Inhabited

/-- Everything the block sends out, newest first in State's list. -/
inductive Out where
  /-- An MSI-X message (13_mailbox R491). -/
  | msix (vector : Nat)
  /-- A DMA write into host memory, in the order written (R487, R489). -/
  | hostWrite (addr : Nat) (words : List Word)
  /-- The 32 bytes of a control cell handed to a Wotor port, which sends it in a codeword (07_cascade_link R241–R254). -/
  | cell (port : Nat) (bytes : List Byte)
  /-- A data cell handed to a port by an output: its place in the line and its 256 payload bits (06_scanout R209; 07 R237). -/
  | dataCell (port frame line index payload : Nat)
  /-- A codeword sent on a Wotor port, originated or forwarded: its index since lock, its 20 cells, and the levels of its
  symbols on the line (07 R231, R234, R253; 08 R283, R284). -/
  | codeword (port index : Nat) (cells : List (List Byte)) (levels : List Nat)
  /-- A service-port datagram (13_mailbox R525). -/
  | datagram (dest kind seq : Nat) (words : List Word)
  /-- An Ethernet frame of source port `port`: a membership (kind 1) or leave (kind 3) report, with the group and the source (05_composition R171). -/
  | eth (port kind a b : Nat)
  /-- An ARP answer of port `port` (4 is the service port): address `ip` is at `mac`, told to `asker` (08_lanes R303,
13_mailbox R525, R713). -/
  | arp (port ip mac asker : Nat)
  /-- A write into the boot flash (18_startup_update R655). -/
  | flash (addr : Nat) (bytes : List Byte)
  /-- A write into the record store (01_architecture R32). -/
  | record (region index : Nat) (bytes : List Byte)
  /-- Blocks of a head port from a SYSTEM time on, in the place of any handed out before for that time: the sync header and
  the scrambled payload of each (11_heads_lasers R407–R413, R423). -/
  | headBlocks (head : Nat) (at_ : Int) (blocks : List (Nat × Nat))
  /-- A sink's pulse in a slot as emitted: its range and its current in units of 15.625 µA / 16 (02 R84; 03 R91). -/
  | pulse (sink frame slot : Nat) (low : Bool) (current tOn tOff : Nat)
  /-- The pads in a slot's dead time (03_lamp_drive R93, R103, R105, R126, R129): by stage, the clamp level in 2⁻²⁰ mV and
  the level above which a short sample fails; the tick at which the clamp is released; the sinks held at the clamp for the
  whole slot; those of them whose hold is lifted from tick 0 to D; those that carry the probe current, with its ticks; and by
  group, the pad that its shadow sink drives, plus 1. -/
  | pads (frame slot : Nat) (levels : List (Nat × Int × Int)) (release : Nat) (held lifted probed : List Nat)
      (probeOn probeOff : Nat) (shadow : List (Nat × Nat))
  /-- A scan control output driven to a pin level at a SYSTEM time: group 0–2; 0 CLK, 1 DATA, 2 LATCH, 3 OE (03 R97–R103). -/
  | scan (group output : Nat) (level : Bool) (at_ : Int)
  /-- A step pulse of an auxiliary axis (10_jets_motion R398): the levels of DIR and of STEP while it is active, the LOCAL time
  of its edge and its width. -/
  | step (axis : Nat) (dir level : Bool) (at_ width : Nat)
  /-- A gate edge of LGATE (kind 0) or SHG (kind 1) (11_heads_lasers R424, R428). -/
  | gate (kind line : Nat) (on : Bool) (at_ : Nat)
  /-- A command of the AVSBus voltage (15_thermal_ageing R586). -/
  | avs (mv : Nat)
  /-- A capture record written into the ring (14_spillway R555). -/
  | capture (kind inst local_ : Nat) (body : List Byte)
  /-- A heartbeat or pair record sent to the peer (17_redundancy R624–R630). -/
  | peer (kind : Nat) (words : List Word)
  /-- A pin driven: 0 PWR_OFF_REQ, 1 HB_OUT, 2 FSYNC_OUT, 3 scan control port. -/
  | pin (name level : Nat)
  /-- Words returned to a read over a path: 0 PCIe BAR0, 1 PCIe BAR2, 10 SPI (13_mailbox R480, R493, R524). -/
  | readData (path : Nat) (words : List Word)
  /-- A PTP message sent by a source port (09_time R340). -/
  | ptp (port kind seq at_ transport : Nat) (master : Option Nat)
  /-- What auto-negotiation of a source port advertises: its mode, RS-FEC, pause (08_lanes R302). -/
  | autoneg (port mode : Nat) (rsFec pause : Bool)
  /-- A lane's line transmitter: 0 its function, 1 electrically idle, 2 the received symbols; and the pattern that its
  generator drives into the transmit path (08_lanes R307, R308). -/
  | lanePath (lane path pattern : Nat)
deriving DecidableEq, Repr

/-- Pins, strapping, reset and the flags of the device state (13_mailbox R481, R502; 01 R23). -/
@[ext] structure Sys where
  role : Role
  st : DevState
  sealed : Bool
  notReady : Bool
  holdDark : Bool
  /-- LOCAL time at which the warm reset that RESET_WARM scheduled is due (R507). -/
  warmAt : Option Nat
  /-- LOCAL time at which the last warm reset began (14 R549). -/
  wrstAt : Nat
  /-- PORST_N and WRST_N are low (R650, R663). -/
  porstLow : Bool
  wrstLow : Bool
  emitEnA : Bool
  emitEnB : Bool
  /-- LOCAL time since which EMIT_EN_A and EMIT_EN_B differ (11 R438). -/
  emitDiffer : Option Nat
  /-- The die-to-die link is framed (01 R23). -/
  dieFramed : Bool
  /-- The control die has enabled emission since the link was framed (01 R23). -/
  emitEnabled : Bool
  unassigned : Bool
  deviceId : Nat
  /-- The 16 tile ID straps as sampled (18 R652). -/
  tileId : Nat
  /-- The DRAM has trained, or failed at both rates; its rate and usable MiB (18 R661, 01 R34). -/
  dramTrained : Bool
  dramFailed : Bool
  dramRate : Nat
  dramMib : Nat
  pcieUp : Bool
  pwrOffReq : Bool
  /-- A shutdown record holds the device in BOOT (15 R584). -/
  bootHold : Bool
  /-- SHUTDOWN_RECORD_FOUND is due at the next entry to STANDBY (15 R584). -/
  shutReport : Bool
  /-- TAP instruction: 0 BYPASS, 1 IDCODE, 2 SAMPLE, 3 EXTEST, 4 CLAMP (19 R707). -/
  tapInstr : Nat
  debugToken : Bool
  /-- STAT6 is shown until this LOCAL time (19 R689). -/
  stat6Until : Nat
  /-- CONFIG_GEN (13 R513, R518). -/
  configGen : Nat
  /-- The model's own counter that feeds free values; no rule reads it (log 7). -/
  free : Nat
deriving DecidableEq, Repr

/-- A mailbox (13_mailbox R482). -/
structure Mailbox where
  cmd : Tab Nat
  resp : List Word
  taken : List Word
  tag : Nat
  hwAnswer : Bool
  refused : Bool
  done : Bool
  busy : Bool
deriving DecidableEq, Repr

/-- The registers of the command ring or the event queue (13_mailbox R485). -/
structure RingRegs where
  baseLo : Nat
  baseHi : Nat
  size : Nat
  /-- The host's index register. -/
  hostIx : Nat
  /-- The device's index register. -/
  devIx : Nat
  /-- The whole control register as written. -/
  ctrl : Nat
  badConfig : Bool
  dmaError : Bool
  running : Bool
  /-- Base and size in effect since the last enable (R486). -/
  effBase : Nat
  effSize : Nat
deriving DecidableEq, Repr

/-- BAR0 registers with their own storage (13_mailbox R480–R493). -/
@[ext] structure Regs where
  bar2Lo : Nat
  bar2Hi : Nat
  mbx : Tab Mailbox
  cr : RingRegs
  eq : RingRegs
  /-- EQ_STATUS.DROPPED, saturating at 16 bits. -/
  eqDropped : Nat
  irqStatus : Nat
  irqMask : Nat
  timeSys : Nat
  timeLocal : Nat
deriving DecidableEq, Repr

/-- A command whose tag is in flight (13_mailbox R495). -/
structure Flight where
  tag : Nat
  op : Nat
  path : Nat
deriving DecidableEq, Repr

/-- A response that the supervisor has made and the path has yet to deliver (R483, R487). -/
structure Resp where
  path : Nat
  origin : Nat
  notify : Bool
  tag : Nat
  /-- Delivery ends the tag's flight. -/
  ends : Bool
  /-- Given by hardware (R501). -/
  hw : Bool
  words : List Word
deriving DecidableEq, Repr

/-- A service-port response kept for a resent command (R526). -/
structure Cached where
  origin : Nat
  tag : Nat
  /-- SEQ of the datagram, echoed in its response (R525). -/
  seq : Nat
  cmd : List Word
  resp : List Word
deriving DecidableEq, Repr

/-- Commands in flight, responses waiting, and the fetched ring entries (R483–R488, R526). -/
@[ext] structure Cmds where
  inFlight : List Flight
  responses : List Resp
  /-- Words of the service command now executing, by origin and tag (R526). -/
  serviceCmds : List Cached
  cache : List Cached
  /-- Ring entries fetched and not yet answered: RESP_ADDR, tag. -/
  fetched : List (Nat × Nat)
  eventSeq : Nat
deriving DecidableEq, Repr

/-- An event as its records, 4 words each (13_mailbox R508). -/
abbrev EvRec := List (List Word)

/-- Events not yet delivered (13_mailbox R489, R508, R525; 07_cascade_link R265). -/
structure Evs where
  pull : List EvRec
  pullDropped : Nat
  /-- Records for the event queue, whole events in order. -/
  held : List (List Word)
  /-- LOCAL time before which no further notice of the event queue is sent (R489). -/
  coalesceUntil : Option Nat
  notifyPending : Bool
  svc : List EvRec
  upstream : List EvRec
  upCredits : Nat
deriving DecidableEq, Repr

/-- The first event of the Spillway (14_spillway R532). -/
structure First where
  valid : Bool
  coincident : Bool
  injected : Bool
  merged : Bool
  overflow : Bool
  severity : Nat
  source : Nat
  inst : Nat
  detail : Nat
  localT : Nat
  /-- SYSTEM time in 2⁻³² tick. -/
  sysT : Nat
deriving DecidableEq, Repr

/-- A fence in force: unit kind and instance, and the source that first caused it (R539, R540). -/
structure Fence where
  kind : Nat
  inst : Nat
  source : Nat
deriving DecidableEq, Repr

/-- An open injection window (R543–R546). -/
structure Injection where
  source : Nat
  inst : Nat
  noReaction : Bool
  endAt : Nat
  coincident : Bool
deriving DecidableEq, Repr

/-- The fault collector (14_spillway). -/
structure Spill where
  status : Nat
  first : First
  /-- Lines held asserted: source and instance. -/
  lines : List (Nat × Nat)
  /-- End of the first event's reaction interval, LOCAL (R534). -/
  reactEnd : Nat
  fences : List Fence
  injection : Option Injection
  /-- LOCAL time of the last log entry per source × 65 536 + instance, plus 1; 0 none (R551). -/
  lastLog : Tab Nat
deriving DecidableEq, Repr

/-- The event log (14_spillway R549): entries of 8 words, oldest first, and the next sequence number. -/
structure Log where
  entries : List (List Word)
  next : Nat
deriving DecidableEq, Repr

/-- A key change that waits for its instant (13_mailbox R518): key slot, value, LOCAL commit time. -/
structure PendKey where
  slot : Nat
  value : List Byte
  at_ : Nat
deriving DecidableEq, Repr

/-- The configuration keys that differ from their defaults (13_mailbox R517, R518). -/
structure Keys where
  committed : Tab (Option (List Byte))
  staged : Tab (Option (List Byte))
  /-- Values in effect; latch keys per output at key + 65 536 × (output + 1). -/
  eff : Tab (Option (List Byte))
  pendFrame : List PendKey
  /-- "Frame" changes that the decision instant has taken and the next frame begins with (02 R83). -/
  frameDue : List PendKey
  pendLatch : List PendKey
deriving DecidableEq, Repr

/-- Capture (14_spillway R553–R557). -/
structure Capture where
  state : Nat
  endCause : Nat
  startMode : Nat
  wrap : Bool
  wrapped : Bool
  lost : Bool
  pixels : Bool
  stopOnFault : Bool
  stopSev : Nat
  headMask : Nat
  ring : Nat
  ringMib : Nat
  postMs : Nat
  startTime : Nat
  region : List Nat
  /-- LOCAL time of the stop trigger (R557). -/
  stopAt : Option Nat
  bytes : Nat
  writeOff : Nat
  /-- Checkpoints written, as bytes written before each since the origin, oldest first. -/
  ckpts : List Nat
  originLocal : Nat
  lastCkpt : Nat
  /-- A record has found no room in a ring without WRAP (R557). -/
  full : Bool
  /-- The model's own: something has written into the ring of an ended capture (R562; log 35). -/
  altered : Bool
  /-- The TILE's on-chip ring (01 R29). -/
  onChip : Tab Byte
deriving DecidableEq, Repr

/-- Replay (14_spillway R559–R563). -/
structure Replay where
  /-- 0 idle, 1 a TILE waits for the bytes of the start record, 2 loaded, 3 running. -/
  st : Nat
  /-- Result of the load (R560). -/
  result : Nat
  src : Nat
  len : Nat
  startOff : Nat
  table : Nat
  entries : Nat
  /-- Bytes fed so far in TILE role. -/
  fed : List Byte
  /-- Bytes consumed from the start point. -/
  pos : Nat
  records : Nat
  sigs : Nat
  mismatches : Nat
  stopOnMismatch : Bool
  /-- Tag of the load or of the run; tags of feeds with the end of their bytes. -/
  tag : Nat
  feeds : List (Nat × Nat)
  /-- Kind and instance of the signatures seen since the start point. -/
  seen : List (Nat × Nat)
  /-- TILE: Basin words fed since the last CONTENT record; the capture's own bytes consumed. -/
  raster : List Byte
  clean : List Byte
deriving DecidableEq, Repr

/-- A time window (09_time R348, R349). -/
structure Window where
  enable : Bool
  domain : Nat
  mark : Bool
  trace : Bool
  fsync : Bool
  evClose : Bool
  evOpen : Bool
  start : Int
  stop : Int
  period : Nat
  isOpen : Bool
  /-- Start of the instance that opens next or is open, not reduced. -/
  next : Int
deriving DecidableEq, Repr

/-- PORT time of a source port and its PTP servo (09_time R340–R342). -/
structure PtpPort where
  /-- PORT time in 1/256 tick at the LOCAL stamp `ref`, 1/256 tick. -/
  time : Int
  ref : Nat
  /-- The port keeps PORT time: a master has been heard. -/
  valid : Bool
  locked : Bool
  goodRun : Nat
  badRun : Nat
  master : Nat
  /-- The master's dataset as the best-master comparison orders it, lower better. -/
  rank : Nat
  /-- Last Sync: its origin and its arrival in PORT time, 1/256 tick. -/
  syncT1 : Int
  syncT2 : Int
  reqSeq : Nat
  /-- Delay_Req departure awaiting its Delay_Resp, in 1/256 tick LOCAL. -/
  reqSent : Option Nat
  /-- Mean path delay, 1/256 tick. -/
  pathDelay : Int
  /-- Frequency term of the port servo, 10⁻¹². -/
  freq : Int
  /-- Two-step Sync awaiting its Follow_Up: sequence and arrival stamp. -/
  syncSeq : Nat
  syncRx : Option Nat
deriving DecidableEq, Repr

/-- DELAY exchanges of a Wotor port (09_time R331–R333). -/
structure DelayPort where
  /-- LOCAL time of the last request plus 1; 0 before the first. -/
  lastReq : Nat
  probe : Nat
  /-- The outstanding request: departure stamp T1 and the LOCAL deadline. -/
  sent : Option (Nat × Nat)
  /-- Past exchanges (T1, T2), newest first. -/
  past : List (Nat × Nat)
  raws : List Int
  known : Bool
  d : Int
deriving DecidableEq, Repr

/-- The time unit (09_time). -/
structure Time where
  /-- LOCAL time, ticks, 64 bits. -/
  loc : Nat
  /-- SYSTEM time in 2⁻³² tick since 0 seconds. -/
  sys : Nat
  /-- Sum of the steps SYSTEM time has made, 2⁻³² tick: PROCESS time and the build follow none of them (R322). -/
  stepSum : Int
  /-- f and s of R325 in 10⁻¹². -/
  f : Int
  s : Int
  source : Nat
  portSel : Nat
  peerPort : Nat
  root : Nat
  locked : Bool
  goodRun : Nat
  badRun : Nat
  /-- A usable sample has been taken since the source was set. -/
  sampled : Bool
  /-- The next usable sample steps (R326). -/
  firstPending : Bool
  lastE : Int
  pathA : Nat
  pathB : Nat
  pendPath : Option (Nat × Nat)
  holdover : Bool
  /-- Counted time of the holdover and its start, LOCAL. -/
  holdSince : Nat
  holdCounted : Nat
  lastCount : Nat
  limitFired : Bool
  lastSample : Nat
  stepFlagUntil : Nat
  pendStep : Option Int
  nextFlipUntested : Bool
  /-- LOCAL time of the last release of a reset (R336). -/
  resetAt : Nat
  /-- LOCAL time of the last 1 ms point of a PORT source (R336). -/
  portTick : Nat
  /-- Sample periods without a sample counted since the last one (R355). -/
  gapCounted : Nat
  process : Nat
  /-- PROCESS_TIME_LIMIT has been raised (R322). -/
  processFull : Bool
  processRun : Bool
  ports : Tab PtpPort
  delays : Tab DelayPort
  /-- Transmit-timestamp queues per lane: entries of 4 words; overflow counts. -/
  tsq : Tab (List (List Word))
  tsOver : Tab Nat
  windows : Tab Window
  fsyncLast : Option Nat
  /-- LOCAL time of the last SYNC TIME cell sent on a port, plus 1. -/
  syncSent : Tab Nat
  /-- TILE: last HOP_DELAY report (d_A, d_B, ε_AB, ε_BA) and its LOCAL time (R334). -/
  hopLast : Option (List Int)
  hopAt : Nat
  /-- SENDER: per device ID, d_A, d_B, ε_AB, ε_BA as reported, and PATH last sent (R335). -/
  hops : Tab (List Int)
  pathSent : Tab (List Int)
  /-- TX and RX deviation of each lane, 1/256 tick, as last computed (R323). -/
  dev : Tab (Int × Int)
deriving DecidableEq, Repr

end Sys2Proof.Machine
end

