-- ==== Sys2Proof/Machine/Keys.lean ====
section
/-! DEFINITION. The configuration keys of every chapter: size, roles, change class, default and range. -/

namespace Sys2Proof.Machine

/-- Change classes of keys (R83, R86, R202, R314, R404). -/
inductive KeyClass where
  | sealed | frame | live | latch | arm
deriving DecidableEq, Repr

/-- A run of equal fields of a key's value: each lies `width` bytes at `off + i × stride`, within `lo … hi`. -/
structure KeyField where
  off : Nat
  width : Nat
  stride : Nat
  count : Nat
  signed : Bool
  lo : Int
  hi : Int
deriving DecidableEq, Repr

/-- A configuration key. -/
structure KeyDef where
  size : Nat
  tile : Bool
  sender : Bool
  bed : Bool
  cls : KeyClass
  dflt : List Byte
  fields : List KeyField
deriving DecidableEq, Repr

/-- Repeat a byte string `n` times. -/
def repBytes (n : Nat) (l : List Byte) : List Byte := (List.replicate n l).flatten

/-- The bytes of `f 0 … f (n - 1)`, each of `w` bytes. -/
def genBytes (n w : Nat) (f : Nat → Nat) : List Byte := (List.range n).flatMap fun i => leBytes w (f i)

/-- Roles of a key as three letters. -/
inductive KeyRoles where
  | all | t | s | b | tb | sb
deriving DecidableEq, Repr

/-- Build a key definition. -/
def mkKey (size : Nat) (r : KeyRoles) (cls : KeyClass) (dflt : List Byte) (fields : List KeyField) : KeyDef :=
  { size := size, cls := cls, dflt := dflt, fields := fields
    tile := r = .all || r = .t || r = .tb
    sender := r = .all || r = .s || r = .sb
    bed := r = .all || r = .b || r = .tb || r = .sb }

/-- A key of `n` unsigned elements of `w` bytes, all with default `d` and range `lo … hi`. -/
def keyArr (n w : Nat) (r : KeyRoles) (cls : KeyClass) (d : Nat) (lo hi : Int) : KeyDef :=
  mkKey (n * w) r cls (repBytes n (leBytes w d)) [⟨0, w, w, n, false, lo, hi⟩]

/-- A key of one unsigned element. -/
def keyOne (w : Nat) (r : KeyRoles) (cls : KeyClass) (d : Nat) (lo hi : Int) : KeyDef := keyArr 1 w r cls d lo hi

/-- A key of `n` signed elements. -/
def keySArr (n w : Nat) (r : KeyRoles) (cls : KeyClass) (d : Int) (lo hi : Int) : KeyDef :=
  mkKey (n * w) r cls (repBytes n (leBytes w (uns (8 * w) d))) [⟨0, w, w, n, true, lo, hi⟩]

/-- Keys of 13_mailbox (R527). -/
def keys00 : Nat → Option KeyDef
  | 0x0000 => some (mkKey 5 .all .live (leBytes 4 0 ++ [b8 16]) [⟨4, 1, 1, 1, false, 8, 30⟩])
  | 0x0001 => some (keyOne 2 .all .live 50416 1024 65535)
  | 0x0002 => some (mkKey 6 .all .live (leBytes 6 0) [])
  | 0x0003 => some (keyOne 4 .all .live 0x1FFFF 0 0x1FFFF)
  | _ => none

/-- The identity base address (13_mailbox R713). -/
def macBase : Nat := Config.macBase8.toNat * 8

/-- Keys of 08_lanes (R314). -/
def keys01 : Nat → Option KeyDef
  | 0x0100 => some (keyArr 4 1 .s .sealed 0 0 5)
  | 0x0101 => some (mkKey 24 .s .sealed (genBytes 4 6 (fun p => macBase + p)) [])
  | 0x0102 => some (mkKey 20 .s .sealed (leBytes 20 0) [⟨4, 1, 5, 4, false, 0, 32⟩])
  | 0x0110 => some (keyOne 1 .all .live 20 5 50)
  | 0x0111 => some (keyOne 2 .all .live 100 10 10000)
  | 0x0112 => some (keyOne 1 .all .live 24 4 255)
  | 0x0113 => some (keyOne 1 .all .live 5 1 50)
  | 0x0114 => some (keyOne 1 .all .sealed 1 0 2)
  | 0x0115 => some (keyOne 1 .all .live 30 15 100)
  | 0x0116 => some (keyOne 4 .all .live 100 1 1000000)
  | 0x0117 => some (keyOne 1 .all .live 8 2 255)
  | 0x0118 => some (keyOne 4 .s .live 1000 1 1000000)
  | _ => none

/-- Keys of 07_cascade_link (R276). -/
def keys02 : Nat → Option KeyDef
  | 0x0200 => some (keyOne 1 .s .sealed 0 0 7)
  | 0x0201 => some (mkKey 8 .s .sealed (repBytes 8 [b8 1]) [])
  | 0x0202 => some (keyArr 8 1 .s .sealed 0 0 2)
  | 0x0203 => some (keyArr 8 1 .s .sealed 0 0 255)
  | 0x0204 => some (keyOne 2 .s .sealed 20 5 200)
  | 0x0205 => some (keyOne 2 .s .sealed 20 1 1000)
  | 0x0206 => some (keyOne 1 .s .sealed 1 0 1)
  | 0x0207 => some (keyOne 2 .t .frame 500 0 60000)
  | _ => none

/-- Keys of 09_time (R353). -/
def keys03 : Nat → Option KeyDef
  | 0x0300 => some (keyOne 1 .all .live 0 0 1)
  | 0x0301 => some (keyOne 2 .all .sealed 1024 256 16384)
  | 0x0302 => some (keyOne 4 .all .sealed 1000 100 100000)
  | 0x0303 => some (keyOne 1 .all .live 2 0 3)
  | 0x0304 => some (keyOne 4 .all .live 10000 1000 10000000)
  | 0x0305 => some (keyOne 2 .all .live 50 1 500)
  | 0x0306 => some (keyOne 1 .all .live 0 0 1)
  | 0x0307 => some (keyOne 2 .all .live 1000 10 60000)
  | 0x0308 => some (keySArr 16 2 .all .sealed 0 (-32768) 32767)
  | 0x0309 => some (keyOne 1 .all .live 16 1 255)
  | 0x030A => some (mkKey 8 .all .sealed (leBytes 8 0) [])
  | 0x030B => some (keyArr 4 1 .s .sealed 127 0 127)
  | 0x030C => some (keyArr 4 1 .s .sealed 0 0 2)
  | _ => none

/-- Keys of 02_emission_timeline (R86). -/
def keys04 (id : Nat) : Option KeyDef :=
  if 0x0410 ≤ id ∧ id ≤ 0x041F then some (mkKey 12 .t .frame (leBytes 12 0) []) else
  match id with
  | 0x0400 => some (keyOne 1 .t .sealed 32 1 64)
  | 0x0401 => some (keyOne 1 .t .sealed 32 1 64)
  | 0x0402 => some (keyOne 2 .t .sealed 1200 400 4000)
  | 0x0403 => some (keyOne 4 .t .frame 83333333 41666666 417083334)
  | 0x0404 => some (keyOne 2 .t .frame 1000 10 20000)
  | 0x0405 => some (keyOne 1 .t .sealed 2 0 2)
  | 0x0406 => some (keyOne 1 .t .frame 8 0 64)
  | 0x0407 => some (keyOne 4 .t .frame 0x30000 0 0x38000)
  | 0x0408 => some (keyOne 4 .t .frame 0x38000 0 0x3C000)
  | 0x0409 => some (keyOne 1 .t .sealed 1 1 4)
  | 0x040A => some (keyOne 1 .t .frame 0 0 1)
  | 0x040B => some (keyOne 1 .t .frame 0xF 0 0xF)
  | 0x0420 => some (keyOne 1 .t .frame 0 0 1)
  | 0x0421 => some (keyOne 4 .t .frame 2000000 200000 20000000)
  | _ => none

/-- Keys of 03_lamp_drive (R131). -/
def keys05 (id : Nat) : Option KeyDef :=
  if 0x0502 ≤ id ∧ id ≤ 0x0504 then some (keyOne 1 .t .frame 127 31 255) else
  if 0x0521 ≤ id ∧ id ≤ 0x0523 then
    some (mkKey 4 .t .frame (leBytes 2 1500 ++ leBytes 2 5800) [⟨0, 2, 2, 2, false, 1500, 5800⟩]) else
  if 0x0530 ≤ id ∧ id ≤ 0x0532 then some (keyArr 33 2 .t .frame 0x8000 0 0xFFFF) else
  match id with
  | 0x0500 => some (mkKey 96 .t .sealed (genBytes 96 1 (fun g => g % 3)) [])
  | 0x0501 => some (mkKey 12 .t .sealed (genBytes 12 1 (fun g => if g < 3 then 0x80 + g else 0)) [])
  | 0x0505 => some (keyOne 2 .t .sealed 400 120 2000)
  | 0x0506 => some (keyOne 1 .t .sealed 10 2 32)
  | 0x0507 => some (keyOne 1 .t .sealed 0 0 1)
  | 0x0508 => some (keyOne 1 .t .sealed 0 0 0xF)
  | 0x0510 => some (keyOne 2 .t .frame 1300 500 3000)
  | 0x0511 => some (keyOne 2 .t .frame 2000 500 3000)
  | 0x0512 => some (keyOne 2 .t .frame 2000 500 3000)
  | 0x0513 => some (keyOne 2 .t .frame 500 200 1000)
  | 0x0514 => some (keyOne 1 .t .frame 4 2 64)
  | 0x0515 => some (keyOne 1 .t .sealed 1 0 1)
  | 0x0516 => some (keyOne 1 .t .frame 192 1 192)
  | 0x0517 => some (keyOne 1 .t .frame 4 1 64)
  | 0x0520 => some (keyOne 2 .t .frame 250 150 300)
  | 0x0524 => some (keyArr 12 2 .t .sealed 1280 256 8192)
  | 0x0525 => some (keyOne 1 .tb .sealed 0 0 1)
  | 0x0526 => some (keyArr 12 1 .tb .sealed 50 10 150)
  | 0x0533 => some (keyArr 3 1 .t .frame 0 0 4)
  | 0x0534 => some (keySArr 1 2 .t .frame 1120 0 1920)
  | 0x0535 => some (keySArr 1 2 .t .frame 1440 16 2000)
  | 0x0536 => some (keyOne 4 .t .frame 0x8000 0x1000 0x10000)
  | 0x0537 => some (keyOne 1 .t .frame 0xF 1 0xF)
  | 0x0538 => some (keyOne 2 .t .frame 16 1 65535)
  | 0x0539 => some (keyOne 2 .t .frame 0xFFFF 0 0xFFFF)
  | _ => none

/-- Keys of 04_fretboard (R163); R138 gives the defaults of the first two. -/
def keys06 (id : Nat) : Option KeyDef :=
  if 0x0605 ≤ id ∧ id ≤ 0x0607 then some (keyArr 32 2 .t .frame 0x8000 1 0xFFFF) else
  match id with
  | 0x0600 => some (mkKey 3072 .t .sealed (genBytes 1536 2 (fun n => n / 16 / 3 * 16 + n % 16))
      [⟨0, 2, 2, 1536, false, 0, 32767⟩])
  | 0x0601 => some (keyOne 2 .t .sealed 512 0 32767)
  | 0x0602 => some (keyOne 1 .t .frame 1 0 1)
  | 0x0603 => some (keyOne 1 .t .frame 8 1 8)
  | 0x0604 => some (keyOne 1 .t .frame 50 0 100)
  | 0x0608 => some (keyOne 2 .t .frame 60 10 1440)
  | _ => none

/-- A coefficient of the default scaler kernels: tap set 0 holds 64 phases of 8 taps, tap set 1 of 6
(05_composition R189, R202). Kernel 1 is bilinear over the two middle taps, kernel 2 takes the nearest. -/
def kernelDefault (k i : Nat) : Nat :=
  let taps := if i < 512 then 8 else 6
  let j := if i < 512 then i else i - 512
  let ph := j / taps
  let tap := j % taps
  let mid := taps / 2 - 1
  match k with
  | 1 => if tap = mid then 4096 - 64 * ph else if tap = mid + 1 then 64 * ph else 0
  | 2 => if ph < 32 then (if tap = mid then 4096 else 0) else (if tap = mid + 1 then 4096 else 0)
  | _ => lanczosDefault (512 ≤ i) j

/-- Keys of 05_composition (R193, R202). -/
def keys07 (id : Nat) : Option KeyDef :=
  if 0x0710 ≤ id ∧ id ≤ 0x0713 then
    some (mkKey 4100 .s .latch (genBytes 1025 4 (fun i => 64 * i)) [⟨0, 4, 4, 1025, false, 0, 0xFFFFF⟩]) else
  if 0x0720 ≤ id ∧ id ≤ 0x0723 then
    some (mkKey 1792 .s .latch (genBytes 896 2 (kernelDefault (id - 0x0720))) []) else
  if 0x0730 ≤ id ∧ id ≤ 0x0737 then
    some (mkKey 60 .s .latch (genBytes 15 4 (fun i => if i = 0 ∨ i = 4 ∨ i = 8 then 0x10000 else 0))
      [⟨0, 4, 4, 9, true, -0x80000, 0x80000⟩]) else
  match id with
  | 0x0700 => some (mkKey 16 .s .sealed (gamutDefault.flatMap (leBytes 2)) [⟨0, 2, 2, 8, false, 1, 0xFFFF⟩])
  | 0x0701 => some (keyOne 2 .s .latch 203 48 1000)
  | 0x0702 => some (keyOne 2 .s .latch 1000 400 4000)
  | 0x0703 => some (keyOne 2 .s .latch 100 10 5000)
  | 0x0704 => some (keyOne 4 .s .sealed 2048 256 8192)
  | _ => none

/-- Keys of 06_scanout (R227). -/
def keys09 (id : Nat) : Option KeyDef :=
  if 0x0901 ≤ id ∧ id ≤ 0x0908 then some (keyOne 2 .s .latch 0xFFFF 0 0xFFFF) else
  match id with
  | 0x0900 => some (keyArr 8 1 .s .latch 0 0 7)
  | 0x0910 => some (keyOne 4 .s .sealed 20000 0 1000000)
  | 0x0911 => some (keyOne 1 .s .sealed 0 0 0xFF)
  | 0x0912 => some (keyOne 4 .s .sealed 2000000 200000 20000000)
  | 0x0913 => some (keyOne 4 .s .sealed 50000 0 1000000)
  | _ => none

/-- Keys of 10_jets_motion (R404). -/
def keys0A (id : Nat) : Option KeyDef :=
  if 0x0A10 ≤ id ∧ id ≤ 0x0A17 then
    some (mkKey 24 .b .sealed
      (leBytes 4 1000000 ++ leBytes 2 1000 ++ leBytes 2 2000 ++ leBytes 4 0x10000 ++ leBytes 4 0 ++
        leBytes 4 1000000 ++ leBytes 4 0)
      [⟨0, 4, 4, 1, false, 1, 5000000⟩, ⟨4, 2, 2, 1, false, 100, 10000⟩, ⟨6, 2, 2, 1, false, 100, 50000⟩,
       ⟨8, 4, 4, 1, false, 1, 0xFFFFFFFF⟩, ⟨12, 4, 4, 1, false, 0, 0x7FFFFFFF⟩,
       ⟨16, 4, 4, 1, false, 1, 0xFFFFFFFF⟩]) else
  match id with
  | 0x0A00 => some (keyOne 4 .b .live 1000000 100000 100000000)
  | 0x0A01 => some (keyOne 2 .b .arm 1365 0 32768)
  | 0x0A02 => some (keyOne 1 .b .arm 4 1 16)
  | 0x0A03 => some (keyOne 1 .b .arm 1 0 1)
  | 0x0A04 => some (keyOne 4 .b .live 10000000 100000 1000000000)
  | _ => none

/-- Keys of 11_heads_lasers (R439). -/
def keys0B (id : Nat) : Option KeyDef :=
  if 0x0B14 ≤ id ∧ id ≤ 0x0B1F then some (keyArr 33 2 .b .arm 0 0 65535) else
  if 0x0B20 ≤ id ∧ id ≤ 0x0B2B then some (keyArr 33 2 .b .arm 0x8000 0 0xFFFF) else
  match id with
  | 0x0B00 => some (keyArr 16 2 .b .live 0 0 20480)
  | 0x0B01 => some (keyArr 16 1 .b .sealed 1 0 1)
  | 0x0B02 => some (keyOne 2 .b .live 8192 2048 65535)
  | 0x0B03 => some (keyOne 1 .b .live 8 1 255)
  | 0x0B04 => some (keySArr 16 4 .b .live (-2048) (-1000000) 0)
  | 0x0B05 => some (keySArr 16 2 .b .live 0 (-2048) 2047)
  | 0x0B06 => some (keyOne 2 .b .arm 100 10 10000)
  | 0x0B07 => some (mkKey 192 .b .sealed (leBytes 192 0) [])
  | 0x0B10 => some (mkKey 12 .b .sealed (leBytes 12 0) [])
  | 0x0B11 => some (keyArr 12 4 .b .sealed 2000 100 1000000)
  | 0x0B12 => some (keyArr 12 4 .b .sealed 1000 1 100000)
  | 0x0B13 => some (keyArr 12 4 .b .arm 0 0 100000)
  | 0x0B30 => some (keyArr 12 1 .b .arm 0 0 4)
  | 0x0B31 => some (keySArr 1 2 .b .live 800 0 1920)
  | 0x0B32 => some (keySArr 1 2 .b .live 1040 16 2000)
  | 0x0B33 => some (keyOne 4 .b .live 0x8000 0x1000 0x10000)
  | 0x0B34 => some (keyOne 2 .b .live 64 1 65535)
  | 0x0B35 => some (keyArr 12 2 .b .sealed 12800 256 65535)
  | 0x0B36 => some (keyArr 12 2 .b .sealed 0 0 65535)
  | 0x0B37 => some (keySArr 12 2 .b .live 0 (-2048) 2047)
  | 0x0B38 => some (keyOne 2 .all .sealed 10 1 1000)
  | _ => none

/-- Keys of 12_loops (R477). -/
def keys0C : Nat → Option KeyDef
  | 0x0C00 => some (keyOne 4 .tb .live 5000000 20480 100000000)
  | 0x0C01 => some (mkKey 3072 .tb .live
      (leBytes 12 0 ++ leBytes 4 43 ++ leBytes 4 43 ++ leBytes 4 0 ++ repBytes 254 (leBytes 12 0)) [])
  | 0x0C02 => some (mkKey 2048 .b .arm (leBytes 2048 0) [])
  | 0x0C03 => some (keyOne 4 .tb .live 0 0 0xFFFFFFFF)
  | _ => none

/-- Default severities of the sources (14_spillway R537). -/
def severityDefault : Nat → Nat
  | 0 => 3 | 1 => 3 | 2 => 2 | 3 => 1 | 4 => 2 | 5 => 2 | 6 => 2 | 7 => 3 | 8 => 3 | 9 => 2
  | 10 => 2 | 11 => 2 | 12 => 2 | 13 => 1 | 14 => 1 | 15 => 2 | 16 => 2 | 17 => 1 | 18 => 1 | 19 => 2
  | 20 => 2 | 21 => 3 | 22 => 2 | 23 => 3 | 24 => 2 | 25 => 2 | 26 => 0 | 27 => 2 | 28 => 2 | 29 => 1
  | 30 => 2 | 31 => 3 | 32 => 2 | 33 => 3 | 34 => 2 | 35 => 1 | 36 => 1 | 37 => 2 | 38 => 1 | 39 => 1
  | 40 => 1 | 41 => 1 | 42 => 1 | 43 => 1 | 44 => 0 | 45 => 3 | _ => 0

/-- The sources whose severity is fixed (14_spillway R537: F). -/
def severityFixed (n : Nat) : Bool := n < 46 && severityDefault n == 3

/-- Keys of 14_spillway (R564). -/
def keys0D : Nat → Option KeyDef
  | 0x0D00 => some (mkKey 64 .all .live (genBytes 64 1 severityDefault) [])
  | 0x0D01 => some (keyOne 2 .all .live 100 10 10000)
  | 0x0D02 => some (keyOne 4 .all .live 1000 100 1000000)
  | _ => none

/-- Keys of 15_thermal_ageing (R596), SENSOR_ENABLE's default by role. -/
def keys0E (role : Role) : Nat → Option KeyDef
  | 0x0E00 => some (keyOne 4 .all .live (if role = .sender then 0x00FFFFFF else 0x0FFFFFFF) 0 0x0FFFFFFF)
  | 0x0E01 => some (mkKey 12 .all .sealed (repBytes 4 (b8 0 :: leBytes 2 3435)) [⟨0, 1, 3, 4, false, 0, 1⟩])
  | 0x0E02 => some (keyOne 2 .all .live 100 10 1000)
  | 0x0E03 => some (keyOne 2 .b .live 2000 100 60000)
  | 0x0E04 => some (keyOne 1 .all .sealed 1 0 1)
  | 0x0E05 => some (keyOne 2 .all .sealed 800 650 850)
  | 0x0E06 => some (keyOne 1 .all .sealed 6 2 20)
  | 0x0E07 => some (keyOne 2 .all .live 168 24 8760)
  | 0x0E08 => some (keyArr 5 1 .all .live 10 0 50)
  | _ => none

/-- Keys of 16_calibration (R616) and 17_redundancy (R646). -/
def keys0F : Nat → Option KeyDef
  | 0x0F00 => some (keyOne 4 .t .live 600 60 86400)
  | 0x0F01 => some (keyOne 4 .all .live 300 60 86400)
  | 0x0F02 => some (keyOne 4 .all .live 300 60 86400)
  | 0x0F03 => some (keyOne 4 .tb .live 60 10 86400)
  | 0x0F04 => some (keyOne 2 .all .live 30 10 100)
  | 0x0F80 => some (keyOne 1 .sb .sealed 0 0 1)
  | 0x0F81 => some (keyOne 1 .sb .sealed 0 0 1)
  | 0x0F82 => some (keyOne 1 .s .sealed 0 0 7)
  | 0x0F83 => some (keyOne 1 .s .sealed 0 0 0xFF)
  | 0x0F84 => some (mkKey 12 .sb .sealed (leBytes 12 0) [])
  | 0x0F85 => some (keyOne 1 .sb .live 7 0 7)
  | 0x0F86 => some (keyOne 1 .sb .live 0 0 1)
  | 0x0F87 => some (keyOne 2 .sb .sealed 1000 100 60000)
  | _ => none

/-- Keys of 18_startup_update (R680). -/
def keys10 : Nat → Option KeyDef
  | 0x1000 => some (keyOne 1 .all .live 0 0 1)
  | 0x1001 => some (keyOne 1 .t .live 32 1 64)
  | _ => none

/-- The definition of a key, by the high byte that names its chapter (00_scope R18). -/
def keyDef (role : Role) (id : Nat) : Option KeyDef :=
  match id / 256 with
  | 0x00 => keys00 id
  | 0x01 => keys01 id
  | 0x02 => keys02 id
  | 0x03 => keys03 id
  | 0x04 => keys04 id
  | 0x05 => keys05 id
  | 0x06 => keys06 id
  | 0x07 => keys07 id
  | 0x09 => keys09 id
  | 0x0A => keys0A id
  | 0x0B => keys0B id
  | 0x0C => keys0C id
  | 0x0D => keys0D id
  | 0x0E => keys0E role id
  | 0x0F => keys0F id
  | 0x10 => keys10 id
  | _ => none

/-- Whether a key belongs to a role (00_scope R11). -/
def keyInRole (k : KeyDef) : Role → Bool
  | .tile => k.tile
  | .sender => k.sender
  | .bed => k.bed
  | .factory => false

/-- The default value of a key in a role; empty where the key is not defined. -/
def keyDefault (role : Role) (id : Nat) : List Byte :=
  match keyDef role id with
  | some k => k.dflt
  | none => []

/-- Every key ID, ascending (14_spillway R560 takes the keys of the role in this order). -/
def keyIds : List Nat :=
  [0x0000, 0x0001, 0x0002, 0x0003] ++ [0x0100, 0x0101, 0x0102] ++ (List.range 9).map (0x0110 + ·) ++
  (List.range 8).map (0x0200 + ·) ++ (List.range 13).map (0x0300 + ·) ++ (List.range 12).map (0x0400 + ·) ++
  (List.range 16).map (0x0410 + ·) ++ [0x0420, 0x0421] ++ (List.range 9).map (0x0500 + ·) ++
  (List.range 8).map (0x0510 + ·) ++ (List.range 7).map (0x0520 + ·) ++ (List.range 10).map (0x0530 + ·) ++
  (List.range 9).map (0x0600 + ·) ++ (List.range 5).map (0x0700 + ·) ++ (List.range 4).map (0x0710 + ·) ++
  (List.range 4).map (0x0720 + ·) ++ (List.range 8).map (0x0730 + ·) ++ (List.range 9).map (0x0900 + ·) ++
  (List.range 4).map (0x0910 + ·) ++ (List.range 5).map (0x0A00 + ·) ++ (List.range 8).map (0x0A10 + ·) ++
  (List.range 8).map (0x0B00 + ·) ++ (List.range 28).map (0x0B10 + ·) ++ (List.range 9).map (0x0B30 + ·) ++
  (List.range 4).map (0x0C00 + ·) ++ (List.range 3).map (0x0D00 + ·) ++ (List.range 9).map (0x0E00 + ·) ++
  (List.range 5).map (0x0F00 + ·) ++ (List.range 8).map (0x0F80 + ·) ++ [0x1000, 0x1001]

/-- One field of a value lies within its range. -/
def fieldOk (v : List Byte) (f : KeyField) : Bool :=
  (List.range f.count).all fun i =>
    let raw := leAt v (f.off + i * f.stride) f.width
    let x : Int := if f.signed then sgn (8 * f.width) raw else (raw : Int)
    decide (f.lo ≤ x) && decide (x ≤ f.hi)

/-- Every field of a value lies within its stated range. -/
def rangeOk (k : KeyDef) (v : List Byte) : Bool := k.fields.all (fieldOk v)

end Sys2Proof.Machine
end

