-- ==== Sys2Proof/Parts/Loop.lean ====
section
/-! DEFINITION. Loop slots and Weirs (12_loops). -/

namespace Sys2Proof.Machine

/-- A Weir (R456): value in 2⁻³² LSB, slope in 2⁻³² LSB per tick, target, and the acceleration above ACCEL that a
target close ahead needs, 0 where ACCEL serves. -/
structure Weir where
  y : Int
  v : Int
  t : Int
  ae : Int
  arrived : Bool
  /-- WEIR_ARRIVED has been raised for this target (R457). -/
  raised : Bool
deriving DecidableEq, Repr

/-- A loop slot (R442–R472). -/
structure LoopSlot where
  /-- The 8 words of LOOP_DEFINE; none holds the definition of R469. -/
  defn : Option (List Nat)
  /-- Enabled or not by LOOP_ENABLE; none while the map in force decides (R469). -/
  en : Option Bool
  /-- A LOOP_ENABLE that waits for the slot's next update (R471). -/
  want : Option Bool
  /-- The slot was enabled at its last update. -/
  on : Bool
  gain : Option (List Int)
  staged : Option (List Int)
  commit : Bool
  integ : Int
  out : Int
  held : Int
  /-- The first update after enabling seeds I for this output (R466, R471). -/
  seed : Option Int
  weir : Weir
  over_ : Option Int
  notify : Bool
  /-- 0 closed, 1 open for a stale sample, 2 for frozen feedback (R450). -/
  opened : Nat
  openAt : Nat
  openTicks : Nat
  lost : Bool
  freshRun : Nat
  /-- The last FREEZE_N fresh samples (R449). -/
  last : List Int
  satTicks : Nat
  satDone : Bool
  inSat : Bool
  /-- LOCAL time of the last update; the slot boundary and the state's epoch it belongs to (R443, R466). -/
  lastAt : Nat
  seen : Nat
  epoch : Nat
  updates : Nat
  /-- The profile in force of a head slot (R460). -/
  profOn : Bool
  gainScale : Nat
  profTarget : Int
  /-- Ticks not yet counted as whole µs: open loop and clamped (R479). -/
  openRem : Nat
  clampRem : Nat
deriving DecidableEq, Repr

/-- The loop engine. -/
structure Loops where
  slots : Tab LoopSlot
  /-- Slots of the timeline ended, and the length of the last one (R443). -/
  ended : Nat
  endedLen : Nat
  /-- Changes of the device state (R466). -/
  epoch : Nat
deriving DecidableEq, Repr

def Weir.cold : Weir := { y := 0, v := 0, t := 0, ae := 0, arrived := false, raised := false }

/-- A slot after PORST_N or WRST_N (R469). -/
def LoopSlot.cold : LoopSlot :=
  { defn := none, en := none, want := none, on := false, gain := none, staged := none, commit := false, integ := 0, out := 0
    held := 0, seed := none, weir := Weir.cold, over_ := none, notify := false, opened := 0, openAt := 0, openTicks := 0, lost := false, freshRun := 0, last := []
    satTicks := 0, satDone := false, inSat := false, lastAt := 0, seen := 0, epoch := 0, updates := 0, profOn := false
    gainScale := 0x1000, profTarget := 0, openRem := 0, clampRem := 0 }

def Loops.cold : Loops := { slots := [], ended := 0, endedLen := 0, epoch := 0 }

end Sys2Proof.Machine
end

