-- ==== Sys2Proof/Parts/Bed.lean ====
section
/-! DEFINITION. A BED's build layer, heads, strings and auxiliary axes (10_jets_motion, 11_heads_lasers). Times
of the build are ticks of SYSTEM time less the steps it has made, so that a step moves none of them (09 R322). -/

namespace Sys2Proof.Machine

/-- A jet on its head's timeline (10 R369–R374). -/
structure Span where
  ix : Nat
  /-- The 8 words of the jet record. -/
  w : List Nat
  start : Int
  /-- Start and end of the motion; the span's end. -/
  motion : Int
  motionEnd : Int
  stop : Int
  /-- The list's point before the jet, its focus, and whether a jump reaches it. -/
  px : Int
  py : Int
  pz : Int
  pj : Bool
  /-- Where the head stands at the start: the run-up start or the jump's start; and the end of its motion. -/
  ax : Int
  ay : Int
  ex : Int
  ey : Int
  /-- Focus at the end. -/
  z1 : Int
deriving DecidableEq, Repr

/-- A motion outside the jets: a reference move in head coordinates, a return jump or a jump to park. -/
structure Move where
  headCoord : Bool
  start : Int
  dur : Int
  x0 : Int
  y0 : Int
  z0 : Int
  x1 : Int
  y1 : Int
  z1 : Int
deriving DecidableEq, Repr

/-- A run as decided (10 R384): its spans, its gate-open interval, and the flags and holds before it. -/
structure Run where
  spans : List Span
  gate : Option (Int × Int)
  flags : Nat
  hold : Nat
deriving DecidableEq, Repr

/-- A head's part of the build layer. -/
structure BList where
  addr : Nat
  count : Nat
  sum : Nat
  /-- Jets in the queue with their index, and the number read (R377). -/
  queue : List (Nat × List Nat)
  fetched : Nat
  /-- An invalid jet has been found: the index of its run's first jet and its own (R379). -/
  bad : Option (Nat × Nat)
  /-- Validation: start point of the next jet, last anchor, jets of its run and the run's first, the last jet. -/
  vx : Int
  vy : Int
  vAnchor : Option Nat
  vRun : Nat
  vRunFirst : Nat
  vPrev : List Nat
  vdx : Int
  vdy : Int
  next : Nat
  /-- The list's point before the next jet, its focus, and whether a jump reaches it. -/
  px : Int
  py : Int
  pz : Int
  pj : Bool
  span : Option Span
  rest : List Span
  /-- The run or unit in progress, and the one decided next. -/
  run : Option Run
  runNext : Option Run
  /-- Its edges have been sent: it begins even when a pause comes. -/
  commit : Bool
  /-- The gate-closed boundary where the head stands. -/
  at_ : Int
  /-- Planned start of the next run after holds (R384, R385), the holds' ticks and summary flags. -/
  planned : Option Int
  hold : Nat
  flags : Nat
  throttled : Bool
  starving : Bool
  /-- The head has stopped at its boundary; it has ended its list. -/
  stopped : Bool
  done : Bool
  pauseAfter : Bool
  park : Bool
  relax : Bool
  /-- Gate-open time of the previous run. -/
  lastOpen : Nat
  /-- The span that a freeze interrupted, for the resume (R391). -/
  cut : Option Span
  /-- Flags and holds of the present jet's summary; its loop corrections (R396). -/
  sFlags : Nat
  sHold : Nat
  sPeak : Int
  sSum : Int
  sN : Nat
  sSat : Nat
  summaries : List (Nat × List Byte)
deriving DecidableEq, Repr

/-- The build layer (10 R360). -/
structure Build where
  st : Nat
  layerId : Nat
  mask : Nat
  lists : Tab BList
  cause : Nat
  /-- Tags of BUILD_ARM, BUILD_START and BUILD_PAUSE in flight, plus 1. -/
  armTag : Nat
  startTag : Nat
  pauseTag : Nat
  armAt : Int
  /-- Start tick accepted and not reached. -/
  startAt : Option Int
  /-- Time at which the last head stopped (R388). -/
  stopAt : Int
  /-- The layer has been started. -/
  begun : Bool
  missed : Bool
  guard : List Nat
  plumeFired : Bool
  /-- STITCH jets entered: identifier, head, start and end point, anchor, T (R381). -/
  pairs : List (List Int)
  /-- Stitch identifiers that R382 takes out of R381. -/
  relaxed : List Nat
deriving DecidableEq, Repr

/-- An upstream frame as received (11 R415, R417). -/
structure UpFrame where
  f : Int
  seq : Nat
  /-- Availability of its fields (R417). -/
  ready : Int
  mp : List Nat
deriving DecidableEq, Repr

/-- A head (10 R363–R366; 11). -/
structure BHead where
  /-- The 20 words of HEAD_DEFINE; empty while UNDEFINED. -/
  defn : List Nat
  referenced : Bool
  frozen : Bool
  grid : Tab Int
  /-- Nodes written since the grid became invalid. -/
  written : Tab Bool
  /-- Present bed position and focus; the set-point sent last; the encoder. -/
  bx : Int
  bby : Int
  fz : Int
  hx : Int
  hy : Int
  hz : Int
  enc : Option (Int × Int × Int)
  /-- Set-points sent, newest first: frame instant, X, Y. -/
  hist : List (Int × Int × Int)
  /-- Jump motions, newest first: start and end. -/
  jumps : List (Int × Int)
  laser : Option Nat
  laserBad : Nat
  up : Bool
  downAt : Nat
  linkRecorded : Bool
  okRun : Nat
  missRun : Nat
  crcAt : List Nat
  crcFired : Bool
  /-- Echo latency of the last HEAD_LINK_UP, d_h and the value that waits for a boundary (12 R462). -/
  echo : Option Int
  d : Nat
  dPend : Option Nat
  /-- HEAD_LEAD that d_h was computed with. -/
  leadUsed : Nat
  rx : List UpFrame
  /-- Frames sent whose upstream frame is due: SEQ and instant. -/
  waiting : List (Nat × Int)
  devRun : Nat
  /-- Referencing: its tag, frames checked and frames beyond. -/
  ref : Option (Nat × Nat × Nat)
  move : Option Move
  power : Weir
  powerIx : Nat
  /-- The frame instant whose loop update has been made, its output, and whether the law ran clamped. -/
  loopAt : Option Int
  loopOut : Int
  loopClamped : Bool
  /-- The span whose profile and power have been taken. -/
  taken : Option Nat
  edges : List (Int × Bool)
  /-- Gate edges placed on LGATE and SHG and not yet reached. -/
  toPlace : List (Int × Bool)
  gate : Bool
  gateEn : Bool
  opens : List (Int × Option Int)
  lastClose : Int
  /-- A halt: LOCAL time of its first and last block. -/
  halt : Option (Nat × Nat)
  haltSeen : Bool
  ignRun : Bool
  sigN : Nat
  sigCrc : Nat
  drvCrc : Nat
  /-- POWER of the last frame. -/
  powerSent : Nat
deriving DecidableEq, Repr

/-- A head port's block coding (11 R407, R408): the scrambler's history; the headers counted towards block lock, and how many
of them were invalid; the frame on its way: the instant its block 0 leaves, the history before it and its blocks, each with its
sync header. -/
structure HeadPort where
  scr : Nat
  seen : Nat
  bad : Nat
  at_ : Int
  before : Nat
  blocks : List (Nat × List Byte)
deriving DecidableEq, Repr

/-- A string's factors and current reference (11 R429–R433). -/
structure StringRef where
  th : Nat
  k : Nat
  a : Nat
  q : Nat
  derating : Bool
  ref : Nat
  clamped : Bool
  /-- Target from which a ramp to 0 began. -/
  rampFrom : Nat
  shg : Bool
  sigCrc : Nat
deriving DecidableEq, Repr

/-- An auxiliary axis (10 R398–R403). `st`: 0 UNCERTAIN, 1 IDLE, 2 MOVING, 3 FOLLOWING, 4 HOMING. Times are LOCAL. -/
structure Axis where
  st : Nat
  homed : Bool
  pos : Int
  /-- Encoder count as aligned with the position, and the raw count it was taken from. -/
  enc : Int
  encRaw : Int
  forward : Bool
  dirAt : Int
  lastStep : Int
  /-- Opcode and tag of the move or homing in flight, and the tag of a deceleration, plus 1. -/
  op : Nat
  tag : Nat
  decTag : Nat
  /-- The motion: 0 trapezoid, 1 S-curve, 2 to V and on, 3 constant V; its start, distance, V, A, J; steps emitted. -/
  kind : Nat
  start : Int
  dist : Nat
  v : Nat
  a : Nat
  j : Nat
  emitted : Nat
  /-- Decelerating since, at A, with J where it is not 0. -/
  dec : Option (Int × Nat × Nat)
  /-- Following: input pair, target, last edge and the plan: start, steps, interval, emitted. -/
  input : Nat
  target : Int
  lastEdge : Option Int
  plan : Option (Int × Nat × Nat × Nat)
  ending : Bool
  /-- Homing: POSITION, and whether the Z edge has come. -/
  homePos : Int
  zSeen : Bool
deriving DecidableEq, Repr

/-- A BED. -/
structure Bed where
  build : Build
  heads : Tab BHead
  ports : Tab HeadPort
  strings : Tab StringRef
  axes : Tab Axis
  /-- The frame instant sent last, in build time. -/
  lastFrame : Option Int
  latchAt : Nat
deriving DecidableEq, Repr

def Build.cold : Build :=
  { st := 0, layerId := 0, mask := 0, lists := [], cause := 0, armTag := 0, startTag := 0, pauseTag := 0, armAt := 0
    startAt := none, stopAt := 0, begun := false, missed := false, guard := [0, 0, 0, 0, 0], plumeFired := false, pairs := [], relaxed := [] }

def BList.cold : BList :=
  { addr := 0, count := 0, sum := 0, queue := [], fetched := 0, bad := none, vx := 0, vy := 0, vAnchor := none, vRun := 0
    vRunFirst := 0, vPrev := [], vdx := 0, vdy := 0, next := 0, px := 0, py := 0, pz := 0, pj := false, span := none, rest := []
    run := none, runNext := none, commit := false, at_ := 0, planned := none, hold := 0, flags := 0, throttled := false
    starving := false, stopped := false, done := false, pauseAfter := false, park := false, relax := false, lastOpen := 0
    cut := none, sFlags := 0, sHold := 0, sPeak := 0, sSum := 0, sN := 0, sSat := 0, summaries := [] }

def BHead.cold : BHead :=
  { defn := [], referenced := false, frozen := false, grid := [], written := [], bx := 0, bby := 0, fz := 0, hx := 0, hy := 0, hz := 0
    enc := none, hist := [], jumps := [], laser := none, laserBad := 0, up := false, downAt := 0, linkRecorded := false, okRun := 0
    missRun := 0, crcAt := [], crcFired := false, echo := none, d := 1, dPend := none, leadUsed := 0, rx := [], waiting := [], devRun := 0, ref := none
    move := none, power := Weir.cold, powerIx := 0, loopAt := none, loopOut := 0, loopClamped := false, taken := none, edges := [], toPlace := [], gate := false, gateEn := false
    opens := [], lastClose := -1000000000000, halt := none, haltSeen := false, ignRun := false, sigN := 0, sigCrc := 0xFFFFFFFF
    drvCrc := 0xFFFFFFFF, powerSent := 0 }

/-- The scrambler's history at power-up is PRESUMED 0 (log 73). -/
def HeadPort.cold : HeadPort := { scr := 0, seen := 0, bad := 0, at_ := 0, before := 0, blocks := [] }

def StringRef.cold : StringRef :=
  { th := 0, k := 0x8000, a := 0x8000, q := 0x10000, derating := false, ref := 0, clamped := false, rampFrom := 0, shg := false
    sigCrc := 0xFFFFFFFF }

def Axis.cold : Axis :=
  { st := 0, homed := false, pos := 0, enc := 0, encRaw := 0, forward := true, dirAt := -1000000000000, lastStep := -1000000000000
    op := 0, tag := 0, decTag := 0, kind := 0, start := 0, dist := 0, v := 0, a := 0, j := 0, emitted := 0, dec := none
    input := 0, target := 0, lastEdge := none, plan := none, ending := false, homePos := 0, zSeen := false }

def Bed.cold : Bed := { build := Build.cold, heads := [], ports := [], strings := [], axes := [], lastFrame := none, latchAt := 0 }

end Sys2Proof.Machine
end

