-- ==== Sys2Proof/Parts/Cal.lean ====
section
/-! DEFINITION. Calibration: selections, tap tables, trims, offsets, steps and runs (16_calibration). -/

namespace Sys2Proof.Machine

/-- A step in progress: its domain and instance; started by a CAL_RUN, in SERVICE; the twin line has become active
(R603); its start, LOCAL. -/
structure CalStep where
  dom : Nat
  inst : Nat
  byRun : Bool
  service : Bool
  handed : Bool
  start : Nat
deriving DecidableEq, Repr

/-- A CAL_RUN (R609): its instance or 0xFFFF, the domains left, and of the first of them the instances left and
the counts so far. -/
structure CalRun where
  tag : Nat
  inst : Nat
  service : Bool
  domains : List Nat
  todo : List Nat
  done : Nat
  fails : Nat
deriving DecidableEq, Repr

/-- A domain's rotation and its record of completions (R607, R614, R615). -/
structure CalDom where
  next : Nat
  /-- Instances placed first by R614. -/
  prio : List Nat
  lastEnd : Nat
  count : Nat
  lastLocal : Nat
  /-- SYSTEM time in 2⁻³² tick. -/
  lastSys : Nat
  /-- Instances on factory or nominal values. -/
  fallback : List Nat
deriving DecidableEq, Repr

/-- A pair of delay lines: the active one and the tap tables of ticks 0 to 31 (R602). -/
structure DelayPair where
  activeB : Bool
  a : List Nat
  b : List Nat
deriving DecidableEq, Repr

/-- A working record: its SEQ and its body as numbers (R612). -/
structure CalRec where
  seq : Nat
  body : List Nat
deriving DecidableEq, Repr

/-- Calibration. -/
structure Cal where
  doms : Tab CalDom
  steps : List CalStep
  run : Option CalRun
  /-- Cells of sinks 0–1535 and, at 1536 + g, of the shadow sink of group g. -/
  sel : Tab Nat
  lines : Tab DelayPair
  /-- Trim and threshold, mV, of slicers 0–2 and the spare. -/
  slicers : Tab (List (Int × Int))
  /-- Applied offset of a stage's current-sense ADC, LSB. -/
  adc : Tab Int
  sref : Nat
  /-- LOCAL time plus 1 of a lane's last lock, until its first step (R604). -/
  lockAt : Tab Nat
deriving DecidableEq, Repr

def CalDom.cold : CalDom := { next := 0, prio := [], lastEnd := 0, count := 0, lastLocal := 0, lastSys := 0, fallback := [] }

/-- Nominal values (R614). -/
def selNominal : Nat := 0xFFFF
def tapsNominal : List Nat := (List.range 32).map (5 * ·)
def DelayPair.cold : DelayPair := { activeB := false, a := tapsNominal, b := tapsNominal }

/-- Calibration before the boot run. -/
def Cal.cold : Cal :=
  { doms := [], steps := [], run := none, sel := [], lines := [], slicers := [], adc := [], sref := 0, lockAt := [] }

end Sys2Proof.Machine
end

