-- ==== Sys2Proof/Parts/CoreReset.lean ====
section
/-! DEFINITION. The shared state's values at the release of PORST_N. -/

namespace Sys2Proof.Machine

/-- Registers of a ring at reset; `ctrl` holds the reset vector (13_mailbox R485). -/
def RingRegs.cold (vector : Nat) : RingRegs :=
  { baseLo := 0, baseHi := 0, size := 0, hostIx := 0, devIx := 0, ctrl := vector * 256
    badConfig := false, dmaError := false, running := false, effBase := 0, effSize := 0 }

/-- A mailbox at reset (13_mailbox R482). -/
def Mailbox.cold : Mailbox :=
  { cmd := [], resp := [], taken := [], tag := 0, hwAnswer := false, refused := false, done := false, busy := false }

/-- BAR0's own registers at reset (13_mailbox R481–R493). -/
def Regs.cold : Regs :=
  { bar2Lo := 0, bar2Hi := 0, mbx := [], cr := RingRegs.cold 1, eq := RingRegs.cold 2, eqDropped := 0
    irqStatus := 0, irqMask := 0x3FFF, timeSys := 0, timeLocal := 0 }

/-- Pins and straps at the release of PORST_N. The levels of EMIT_EN, of the straps and the link's
framing are pin levels the spec does not give: DESIGN CHOICE, log 2 and log 3. -/
def Sys.cold (role : Role) (tileId : Nat) : Sys :=
  { role := role, st := .boot, sealed := false, notReady := true, holdDark := false, warmAt := none, wrstAt := 0
    porstLow := false, wrstLow := false, emitEnA := true, emitEnB := true, emitDiffer := none
    dieFramed := true, emitEnabled := true, unassigned := role = .tile, deviceId := 0
    tileId := if role = .tile then tileId else 0
    dramTrained := false, dramFailed := false, dramRate := 0, dramMib := 0, pcieUp := false,
    pwrOffReq := false, bootHold := false, shutReport := false, tapInstr := 1, debugToken := false, stat6Until := 0
    configGen := 0, free := 0 }

/-- No commands (13_mailbox R483, R487, R526). -/
def Cmds.cold : Cmds :=
  { inFlight := [], responses := [], serviceCmds := [], cache := [], fetched := [], eventSeq := 0 }

/-- No events (13_mailbox R508). -/
def Evs.cold : Evs :=
  { pull := [], pullDropped := 0, held := [], coalesceUntil := none, notifyPending := false, svc := []
    upstream := [], upCredits := 0 }

/-- No first event (14_spillway R532). -/
def First.cold : First :=
  { valid := false, coincident := false, injected := false, merged := false, overflow := false, severity := 0
    source := 0, inst := 0, detail := 0, localT := 0, sysT := 0 }

/-- The Spillway with no bit set (14_spillway R531, 18_startup_update R664). -/
def Spill.cold : Spill :=
  { status := 0, first := First.cold, lines := [], reactEnd := 0, fences := [], injection := none, lastLog := [] }

/-- Keys at their defaults (13_mailbox, "Configuration keys"). -/
def Keys.cold : Keys := { committed := [], staged := [], eff := [], pendFrame := [], frameDue := [], pendLatch := [] }

/-- No capture (14_spillway R554). -/
def Capture.cold : Capture :=
  { state := 0, endCause := 0, startMode := 0, wrap := false, wrapped := false, lost := false, pixels := false
    stopOnFault := false, stopSev := 0, headMask := 0, ring := 0, ringMib := 0, postMs := 0, startTime := 0
    region := [], stopAt := none, bytes := 0, writeOff := 0, ckpts := [], originLocal := 0
    lastCkpt := 0, full := false, altered := false, onChip := [] }

/-- No replay (14_spillway R559). -/
def Replay.cold : Replay :=
  { st := 0, result := 0, src := 0, len := 0, startOff := 0, table := 0, entries := 0, fed := [], pos := 0
    records := 0, sigs := 0, mismatches := 0, stopOnMismatch := false, tag := 0, feeds := [], seen := [], raster := []
    clean := [] }

/-- A window never set (09_time R348). -/
def Window.cold : Window :=
  { enable := false, domain := 0, mark := false, trace := false, fsync := false, evClose := false, evOpen := false
    start := 0, stop := 0, period := 0, isOpen := false, next := 0 }

/-- A source port's PTP state before any message (09_time R342). -/
def PtpPort.cold : PtpPort :=
  { time := 0, ref := 0, valid := false, locked := false, goodRun := 0, badRun := 0, master := 0, rank := 0, syncT1 := 0
    syncT2 := 0, reqSeq := 0, reqSent := none
    pathDelay := 0, freq := 0, syncSeq := 0, syncRx := none }

/-- A port without exchanges (09_time R331). -/
def DelayPort.cold : DelayPort := { lastReq := 0, probe := 0, sent := none, past := [], raws := [], known := false, d := 0 }

/-- The time unit at the release of PORST_N (09_time R318, R328). -/
def Time.cold (role : Role) : Time :=
  { loc := 0, sys := 0, stepSum := 0, f := 0, s := 0, source := if role = .tile then 3 else 0, portSel := 0, peerPort := 0
    root := 0, locked := false, goodRun := 0, badRun := 0, sampled := false, firstPending := true, lastE := 0
    pathA := 0xFFFFFFFF, pathB := 0xFFFFFFFF, pendPath := none, holdover := false, holdSince := 0, holdCounted := 0
    lastCount := 0, limitFired := false, lastSample := 0, stepFlagUntil := 0, pendStep := none
    nextFlipUntested := false, resetAt := 0, portTick := 0, gapCounted := 0, process := 0, processFull := false, processRun := false, ports := [], delays := [], tsq := [], tsOver := []
    windows := [], fsyncLast := none, syncSent := [], hopLast := none, hopAt := 0, hops := [], pathSent := [], dev := [] }

end Sys2Proof.Machine
end

