-- ==== Sys2Proof/Parts/Image.lean ====
section
/-! DEFINITION. Image slots, sessions, activation and fallback (18_startup_update). -/

namespace Sys2Proof.Machine

/-- The header fields of an image that the block shows (18 R657). -/
structure ImgHdr where
  abi : Nat
  roles : Nat
  major : Nat
  minor : Nat
  patch : Nat
  build : Nat
  secVer : Nat
  keyIx : Nat
deriving DecidableEq, Repr

/-- An image slot: its state of R656, its header and its transfer's bytes. -/
structure ImgSlot where
  st : Nat
  hdr : ImgHdr
  data : List Byte
deriving DecidableEq, Repr

/-- An open session (18 R667). -/
structure ImgSession where
  id : Nat
  total : Nat
  got : List Byte
deriving DecidableEq, Repr

/-- An activation accepted and due (18 R673). -/
structure Activation where
  tag : Nat
  mode : Nat
  /-- SYSTEM time of the activation instant in ticks; none is acceptance. -/
  at_ : Option Int
deriving DecidableEq, Repr

/-- A forward to the neighbour (18 R670, R671). Stage: 0 IMAGE_BEGIN sent, 1 chunks, 2 IMAGE_END sent. -/
structure Forward where
  tag : Nat
  depth : Nat
  data : List Byte
  dest : Nat
  stage : Nat
  /-- Offset of the next chunk, and the offsets of chunks outstanding with their tags. -/
  next : Nat
  open_ : List (Nat × Nat)
  session : Nat
deriving DecidableEq, Repr

/-- The fallback record (18 R678): slot, cause, build, LOCAL time. -/
structure FbRecord where
  slot : Nat
  cause : Nat
  build : Nat
  at_ : Nat
deriving DecidableEq, Repr

/-- A boot control record as written into a copy (18 R656). -/
structure BootRec where
  seq : Nat
  active : Nat
  trialBoots : Nat
  stA : Nat
  stB : Nat
  floor : Nat
deriving DecidableEq, Repr

/-- The images. -/
structure Image where
  a : ImgSlot
  b : ImgSlot
  /-- The two copies of the boot control record in the flash; none was never written (18 R655). -/
  copies : Tab (Option BootRec)
  /-- The boot control record (18 R656). -/
  active : Nat
  trialBoots : Nat
  floor : Nat
  seq : Nat
  /-- The running slot; none while no slot could be started. -/
  running : Option Nat
  fallback : Bool
  /-- Fallback cause to be reported at entry to STANDBY; 0 none. -/
  report : Nat
  record : Option FbRecord
  session : Option ImgSession
  /-- Bytes of the inactive slot erased so far; an ERASE_ONLY is under way. -/
  erased : Nat
  eraseOnly : Bool
  /-- Tag of the IMAGE_END whose transfer is being verified. -/
  verifying : Option Nat
  act : Option Activation
  /-- LOCAL time at which a live restart began, and the Fretboard CRC then. -/
  pauseAt : Option Nat
  /-- A FATAL line was latched during the pause. -/
  selftest : Nat
  /-- LOCAL time at which the TRIAL image was started. -/
  trialAt : Option Nat
  forward : Option Forward
deriving DecidableEq, Repr

/-- A header that reads 0. -/
def ImgHdr.zero : ImgHdr := { abi := 0, roles := 0, major := 0, minor := 0, patch := 0, build := 0, secVer := 0, keyIx := 0 }

/-- The header of the image a part is delivered with: Config constants, for every role (log 19). -/
def ImgHdr.factory : ImgHdr :=
  { abi := Config.configAbi.toNat, roles := 7, major := Config.fwMajor.toNat, minor := Config.fwMinor.toNat
    patch := Config.fwPatch.toNat, build := Config.fwBuild.toNat, secVer := Config.securityVersion.toNat, keyIx := 0 }

/-- A slot as delivered: VALID, since no copy of the boot control record is presumed (R659 step 1; log 19). -/
def ImgSlot.factory : ImgSlot := { st := 2, hdr := ImgHdr.factory, data := [] }

/-- The images at the first release of PORST_N (log 19). -/
def Image.cold : Image :=
  { a := ImgSlot.factory, b := ImgSlot.factory, copies := [], active := 0, trialBoots := 0, floor := 0, seq := 0, running := some 0
    fallback := false, report := 0, record := none, session := none, erased := 0, eraseOnly := false, verifying := none, act := none
    pauseAt := none, selftest := 3, trialAt := none, forward := none }

end Sys2Proof.Machine
end

