-- ==== Sys2Proof/Parts/Lanes.lean ====
section
/-! DEFINITION. Serial lanes, eye scans and source ports (08_lanes). -/

namespace Sys2Proof.Machine

/-- A last-good snapshot of an equaliser (R293). -/
structure Snapshot where
  ctle : Nat
  vga : Int
  dfe : List Int
  snr : Int
deriving DecidableEq, Repr

/-- A lane. `st` holds the STATE codes of LANE_STATUS but 7, which a fence shows (R313). -/
structure Lane where
  st : Nat
  /-- 0 W0, 1 W1, 2 N10. -/
  mode : Nat
  los : Bool
  preTx : Bool
  preRx : Bool
  /-- Locked, or searching, by markers; the far end is asked for them; it has asked for them. -/
  markMode : Bool
  markReq : Bool
  markTx : Bool
  autoHold : Bool
  driftHold : Bool
  snr : Int
  eye : Nat
  ctle : Nat
  vga : Int
  dfe : List Int
  txffe : List Int
  snap : Option Snapshot
  snapAt : Nat
  /-- LOCAL time of the last distance check (R293), and of the last hourly scan plus 1 (R312). -/
  driftAt : Nat
  eyeAt : Nat
  /-- Adaptation is held until this LOCAL time after a revert (R293). -/
  holdUntil : Nat
  /-- LOCAL times of reverts within 60 s, and of losses of lock within 60 s. -/
  reverts : List Nat
  losses : List Nat
  /-- Uncorrectable codewords in the second that began at `secStart` (R306). -/
  secStart : Nat
  uncorr : Nat
  uncorrRun : Nat
  cleanRun : Nat
  attempts : Nat
  /-- The candidate found passes its single test next (R297 step 3). -/
  verify : Bool
  /-- Tests since the search was suspended; QUALITY and OFFSET of the last one (R300). -/
  tests : Nat
  quality : Nat
  offset : Nat
  /-- The alignment position of the receiver in the line's bits, modulo one codeword (R296–R298, R300). -/
  position : Nat
  /-- The effective EQ_TARGET of the present training, mV (R286). -/
  eqGoal : Nat
  trainAt : Nat
  failRun : Nat
  failSince : Option Nat
  /-- Alignment is found; the lock count runs (R297, R298). -/
  found : Bool
  /-- Marker hits of the last period, in bits, and the start of the hunt, LOCAL time (R298). -/
  hits : List Nat
  huntAt : Nat
  /-- The lane last locked by markers (R299); ALIGN_FALLBACK raised in this run. -/
  lastMark : Bool
  /-- The mode in which the lane last locked (R282). -/
  lockMode : Nat
  fallbackRaised : Bool
  /-- The one search without retraining is under way (R299). -/
  research : Bool
  dwellAt : Nat
  loop : Nat
  pattern : Nat
  patErr : Nat
deriving DecidableEq, Repr

/-- A lane powered down (R42). -/
def Lane.cold : Lane :=
  { st := 0, mode := 0, los := false, preTx := false, preRx := false, markMode := false, markReq := false
    markTx := false, autoHold := false, driftHold := false, snr := 0, eye := 0, ctle := 0, vga := 0, dfe := [], txffe := []
    snap := none, snapAt := 0, driftAt := 0, eyeAt := 0, holdUntil := 0, reverts := [], losses := [], secStart := 0, uncorr := 0, uncorrRun := 0
    cleanRun := 0, attempts := 0, verify := false, tests := 0, quality := 0, offset := 0, position := 0, eqGoal := 0, trainAt := 0, failRun := 0
    failSince := none, found := false, hits := [], huntAt := 0, lastMark := false, lockMode := 0, fallbackRaised := false, research := false
    dwellAt := 0, loop := 0, pattern := 0, patErr := 0 }

/-- An eye scan: its lane, its grid and what it found (R310–R312). -/
structure EyeScan where
  lane : Nat
  points : Nat
  running : Bool
  tag : Nat
  aborted : Bool
  codes : List Nat
deriving DecidableEq, Repr

/-- A source port (R301–R304). -/
structure SrcPort where
  mode : Nat
  up : Bool
  everUp : Bool
  downAt : Nat
  /-- SOURCE_PORT has been recorded for this time down (R304). -/
  recorded : Bool
  secStart : Nat
  uncorr : Nat
deriving DecidableEq, Repr

/-- A source port that is off. -/
def SrcPort.cold : SrcPort :=
  { mode := 0, up := false, everUp := false, downAt := 0, recorded := false, secStart := 0, uncorr := 0 }

/-- The lanes' state. -/
structure Lanes where
  lane : Tab Lane
  scans : Tab EyeScan
  src : Tab SrcPort
deriving DecidableEq, Repr

/-- A scan never made. -/
def EyeScan.cold : EyeScan := { lane := 0, points := 0, running := false, tag := 0, aborted := false, codes := [] }

/-- The lanes at the release of PORST_N. -/
def Lanes.cold : Lanes := { lane := [], scans := [], src := [] }

end Sys2Proof.Machine
end

