-- ==== Sys2Proof/Parts/Link.lean ====
section
/-! DEFINITION. The Wotor link: ports, a TILE's place in its Cascade, a SENDER's Cascades, relays and
reassembly (07_cascade_link). -/

namespace Sys2Proof.Machine

/-- A Wotor port: TILE 0 A and 1 B, SENDER cascade ports 0–7, BED 15 (07 R230–R234). -/
structure WPort where
  /-- LOCAL time at which the port last locked, while locked. -/
  lockedAt : Option Nat
  rate : Nat
  uncorrRun : Nat
  cleanRun : Nat
  /-- LOCAL time of the last FRAME_START delivered, and of the first of the present feeding (R266). -/
  lastStart : Option Nat
  feedSince : Nat
  /-- Failures counted in the second that began at `secStart` (R275). -/
  secStart : Nat
  checkFails : Nat
  reasmFails : Nat
  /-- The device behind a peer link, as its cells name it (R261; log 69). -/
  peer : Option Nat
  bundleUp : Bool
  bundleFell : Bool
  /-- SEQ and arrival, LOCAL, of the port's last two MARKs, the newest first (R273). -/
  marks : List (Nat × Nat)
  /-- A return port has locked since it last lost lock (R270). -/
  ringUp : Bool
  /-- SENDER return port: it sends its output's raster (R269), and the first TILE that reported loss. -/
  returnFeed : Bool
  takeoverPending : Bool
  takeoverFrom : Nat
  lostSeen : Bool
  /-- LOCAL time since which every TILE reports port A again (R270). -/
  allFedAt : Option Nat
  /-- Enabled by firmware: trained and kept (R257). -/
  enabled : Bool
deriving DecidableEq, Repr

/-- A TILE's place in its Cascade (07 R249, R254–R257, R266–R268). -/
structure TileLink where
  /-- 0 port A, 1 port B, 2 none. -/
  activeUp : Nat
  position : Nat
  epoch : Nat
  senderIx : Nat
  cascade : Nat
  geomKnown : Bool
  geomOk : Bool
  gx : Nat
  gy : Nat
  rw : Nat
  rh : Nat
  wc : Nat
  hc : Nat
  views : Nat
  geomEpoch : Nat
  portBOn : Bool
  portBSince : Nat
  tokenSentB : Bool
  /-- FULL of the TOKEN taken, passed on with the next one. -/
  tokenFull : Bool
  tailReported : Bool
  holding : Bool
  heldSince : Nat
  dark : Bool
  /-- A raster is being received: between FRAME_START and its last data cell (R238, R240). -/
  rxOn : Bool
  rxFrame : Nat
  rxCells : Nat
  /-- The last data cell of the frame has come (R240). -/
  rxDone : Bool
  /-- A flip time has passed since this raster's FRAME_START: its next cell is dropped and counted once (02 R56). -/
  rxStale : Bool
  /-- The frame of the last REPLY: one is sent per frame (R246). -/
  replied : Option Nat
  /-- GEOMETRY_MISMATCH has been raised in this run of frames (R240). -/
  geomRun : Bool
  /-- Ports taken as not feeding until their next FRAME_START (17 R632). -/
  suppressed : List Nat
  /-- The active upstream port feeds; HOLD_EXPIRED has been raised in this hold (R267, R268). -/
  fed : Bool
  expired : Bool
  /-- LOCAL time of the last HEART with UPSTREAM_LOST (R267). -/
  lossBeat : Nat
  /-- A position has been taken since the last reset (R256; 18 R665). -/
  placed : Bool
deriving DecidableEq, Repr

/-- A message under reassembly: port, SRC, TAG, KIND, next FRAG, bytes so far (07 R248). One that was discarded waits for its
LAST fragment with next FRAG 0. -/
structure Reasm where
  port : Nat
  src : Nat
  tag : Nat
  kind : Nat
  next : Nat
  data : List Byte
deriving DecidableEq, Repr

/-- A SENDER's topology entry of one position (07 R260). -/
structure TopoEntry where
  present : Bool
  ret : Bool
  tail : Bool
  geomOk : Bool
  dark : Bool
  holding : Bool
  fedReturn : Bool
  devId : Nat
  uniqueId : Nat
  fwMajor : Nat
  fwMinor : Nat
  straps : Nat
  epoch : Nat
  /-- Command credits left of 4 (R262). -/
  credits : Nat
deriving DecidableEq, Repr

/-- Enumeration of one Cascade (07 R257–R260). -/
structure Cascade where
  running : Bool
  ended : Bool
  full : Bool
  /-- The first TOKEN has left; it waits for the port's lock (R257). -/
  tokenSent : Bool
  epoch : Nat
  lastReport : Nat
  entries : Tab TopoEntry
  tag : Option Nat
deriving DecidableEq, Repr

/-- A command relayed to another device (07 R261–R263). -/
structure Relay where
  tag : Nat
  target : Nat
  path : Nat
  origin : Nat
  notify : Bool
  deadline : Nat
deriving DecidableEq, Repr

/-- The outstanding broadcast and its answers: device ID and status (07 R264). -/
structure Bcast where
  tag : Nat
  op : Nat
  path : Nat
  origin : Nat
  notify : Bool
  deadline : Nat
  waiting : List Nat
  answers : List (Nat × Nat)
deriving DecidableEq, Repr

/-- The link's state. -/
structure Link where
  ports : Tab WPort
  tile : TileLink
  casc : Tab Cascade
  reasm : List Reasm
  /-- Complete messages, oldest first. -/
  done : List Reasm
  /-- Records of events under way from other devices: device ID, records so far (R247, R508). -/
  evParts : Tab EvRec
  relays : List Relay
  bcast : Option Bcast
  /-- SEQ of this device's last HEART (R250). -/
  heartSeq : Nat
  /-- Devices to which the firmware's own command is out (log 18). -/
  ownAsk : List Nat
  /-- TILEs whose link on port B was up and is lost: breaks (R261; log 67). -/
  broken : List Nat
  /-- SENDER_INDEX, CASCADE_MODE and CASCADE_RATE at the last enumeration by R259. -/
  sealKeys : List Nat
deriving DecidableEq, Repr

/-- A port before its first lock. -/
def WPort.cold : WPort :=
  { lockedAt := none, rate := 0, uncorrRun := 0, cleanRun := 0, lastStart := none, feedSince := 0
    secStart := 0, checkFails := 0, reasmFails := 0, peer := none, bundleUp := false, bundleFell := false, marks := []
    ringUp := false, returnFeed := false, takeoverPending := false, takeoverFrom := 0, lostSeen := false
    allFedAt := none, enabled := false }

/-- A TILE without a position (07 R256). -/
def TileLink.cold : TileLink :=
  { activeUp := 2, position := 0, epoch := 0, senderIx := 0, cascade := 0, geomKnown := false
    geomOk := false, gx := 0, gy := 0, rw := 0, rh := 0, wc := 0, hc := 0, views := 0, geomEpoch := 0
    portBOn := false, portBSince := 0, tokenSentB := false, tokenFull := false, tailReported := false, holding := false, heldSince := 0
    dark := false, rxOn := false, rxFrame := 0, rxCells := 0, rxDone := false, rxStale := false, replied := none, geomRun := false, suppressed := []
    fed := false, expired := false, lossBeat := 0, placed := false }

/-- A position nothing holds. -/
def TopoEntry.cold : TopoEntry :=
  { present := false, ret := false, tail := false, geomOk := false, dark := false, holding := false
    fedReturn := false, devId := 0, uniqueId := 0, fwMajor := 0, fwMinor := 0, straps := 0, epoch := 0, credits := 4 }

/-- A Cascade never enumerated. -/
def Cascade.cold : Cascade :=
  { running := false, ended := false, full := false, tokenSent := false, epoch := 0, lastReport := 0, entries := [], tag := none }

/-- The link at the release of PORST_N. -/
def Link.cold : Link :=
  { ports := [], tile := TileLink.cold, casc := [], reasm := [], done := [], evParts := [], relays := [], bcast := none, heartSeq := 0
    ownAsk := [], broken := [], sealKeys := [] }

end Sys2Proof.Machine
end

