-- ==== Sys2Proof/Parts/Pair.lean ====
section
/-! DEFINITION. A unit of a redundant pair: activity, heartbeats, saved state and hand-over (17_redundancy). -/

namespace Sys2Proof.Machine

/-- A heartbeat path (R624, R625): LOCAL time of the last accepted edge, or cell, and whether it is silent. -/
structure BeatPath where
  last : Option Nat
  silent : Bool
deriving DecidableEq, Repr

/-- A unit of a pair. Times are LOCAL unless a comment says otherwise. -/
structure Pair where
  active : Bool
  /-- Heartbeats are sent: from entry to STANDBY to the next SAFE, BOOT or RESET (R624, R626). -/
  beating : Bool
  enteredAt : Nat
  /-- Time of the last change of activity, its cause (R647), and whether the unit was active then first (R639):
  the peer was heard active before this unit became active; the peer has been heard as standby since. -/
  changedAt : Nat
  cause : Nat
  peerFirst : Bool
  heardStandby : Bool
  /-- The unit has been in RUN since PORST_N; a RESUME has come since the last RUN (R631). -/
  ran : Bool
  leftSafe : Bool
  /-- Millisecond of the last heartbeat sent. -/
  beatMs : Nat
  hb : BeatPath
  lk : BeatPath
  heardAt : Option Nat
  activeAt : Option Nat
  peerActive : Bool
  peerState : Nat
  /-- Device ID of the peer as its HEART shows it, plus 1. -/
  peerDev : Nat
  /-- Since when the peer has been in READY, RUN or HOLD, plus 1 (R643). -/
  peerUpAt : Nat
  /-- FLAGS of the peer's last HELLO, and of the last one sent, plus 1; the link was up then. -/
  peerFlags : Nat
  helloSent : Nat
  helloUp : Bool
  /-- The switch-back after this LEFT_SAFE has been made (R643). -/
  backDone : Bool
  /-- SOURCE word of TIME_SOURCE_SET, in force while the unit is active (R623). -/
  setSource : Option (Nat × Nat × Nat)
  /-- Takeover notices: until when, and the last (R632). -/
  noticeEnd : Nat
  noticeAt : Nat
  /-- Paired outputs that this unit feeds: 1; 2 the frame in progress is its last (R633, R642). -/
  feed : Tab Nat
  /-- SYSTEM time in ticks from which latch points count for the feed. -/
  feedFrom : Int
  /-- A hand-over accepted: tag plus 1 or 0, cause, SYSTEM time in ticks from which its instants count (R642). -/
  hand : Option (Nat × Nat × Int)
  /-- Sequence of the peer's last record. -/
  rxSeq : Option Nat
  /-- Sequence of records sent; the snapshot sent or held, its time and its body; mirror records. -/
  seq : Nat
  snapSeq : Nat
  snapAt : Nat
  snapSys : Nat
  snapBody : List Byte
  /-- A valid snapshot is held; the half of PAIR_STATE_AREA that holds it (R627). -/
  snapValid : Bool
  snapHalf : Nat
  /-- Body of the newest snapshot that the standby acknowledged (R627). -/
  acked : Option (List Byte)
  mirrorSeq : Nat
  synced : Bool
  /-- Saved-state copies (R33): time of the last one plus 1. -/
  savedAt : Nat
  /-- Last progress record of each head: next jet index and PROCESS time (R629); build-layer state, LAYER_ID and
  descriptor address as mirrored (R628). -/
  progress : Tab (Nat × Nat)
  buildSt : Nat
  desc : Nat
  /-- Mirrored CRCs plus 1 of still buffers and of jet lists by head (R631). -/
  stillCrc : Tab Nat
  jetCrc : Tab Nat
  /-- Layer slots omitted for a still buffer that does not match (R633). -/
  omit_ : List Nat
  /-- Heads whose referencing starts with their first upstream frame (R636). -/
  refHeads : List Nat
deriving DecidableEq, Repr

def BeatPath.cold : BeatPath := { last := none, silent := false }

/-- No pair. -/
def Pair.cold : Pair :=
  { active := false, beating := false, enteredAt := 0, changedAt := 0, cause := 0, peerFirst := false, heardStandby := false
    ran := false, leftSafe := false, beatMs := 0, hb := BeatPath.cold, lk := BeatPath.cold, heardAt := none, activeAt := none
    peerActive := false, peerState := 0, peerDev := 0, peerUpAt := 0, peerFlags := 0, helloSent := 0, helloUp := false
    backDone := false, setSource := none, noticeEnd := 0, noticeAt := 0, feed := [], feedFrom := 0, hand := none, rxSeq := none, seq := 0
    snapSeq := 0, snapAt := 0, snapSys := 0, snapBody := [], snapValid := false, snapHalf := 0, acked := none, mirrorSeq := 0
    synced := false, savedAt := 0, progress := [], buildSt := 0, desc := 0, stillCrc := [], jetCrc := [], omit_ := []
    refHeads := [] }

end Sys2Proof.Machine
end

