-- ==== Sys2Proof/Parts/Sender.lean ====
section
/-! DEFINITION. A SENDER's streams, still buffers, layers, wall map and outputs (05_composition, 06_scanout). -/

namespace Sys2Proof.Machine

/-- A stream's binding (05 R169). -/
structure Binding where
  vid : Nat
  port : Nat
  dst : Nat
  src : Nat
  udp : Nat
  width : Nat
  height : Nat
  rateNum : Nat
  rateDen : Nat
  pt : Nat
  sampling : Nat
  depth : Nat
  colorimetry : Nat
  tcs : Nat
  full : Nat
  type : Nat
deriving DecidableEq, Repr

/-- A bound stream and its ring of 3 buffers (05 R172–R178). -/
structure Stream where
  bind : Binding
  /-- First byte of its ring in the stream area. -/
  base : Nat
  filling : Option Nat
  newest : Option Nat
  /-- Frames completed since it was bound. -/
  frames : Nat
  newestTaken : Bool
  /-- The buffers, the one completed longest ago first. -/
  order : List Nat
  ts : Nat
  /-- Timestamp being dropped for want of an IDLE buffer. -/
  dropTs : Option Nat
  marker : Bool
  markerAt : Nat
  /-- Pgroups written per line of the FILLING buffer, as a bit mask. -/
  fill : Tab Nat
  badPkt : Bool
  badRun : Nat
  mismatch : Bool
  seenWidth : Nat
  seenLines : Nat
  lost : Bool
  lastDone : Nat
  lastTs : Nat
deriving DecidableEq, Repr

/-- A registered still buffer (05 R180). -/
structure StillBuf where
  format : Nat
  addr : Nat
  width : Nat
  height : Nat
  pitch : Nat
deriving DecidableEq, Repr

/-- A layer slot: definitions as their 25 words (05 R185), and the stream buffer it took last. -/
structure LayerSlot where
  staged : Option (List Nat)
  pend : Option (List Nat)
  active : Option (List Nat)
  /-- The stream, the ring buffer and its frame's number as taken at the last latch point (05 R199). -/
  held : Option (Nat × Nat × Nat)
  /-- The layer is omitted or shows COLOUR_A for want of a stream: 0 no, 1 omit, 2 COLOUR_A. -/
  loss : Nat
deriving DecidableEq, Repr

/-- A check rectangle (06 R218–R221). -/
structure CrcRect where
  enable : Bool
  learn : Bool
  view : Nat
  x : Nat
  y : Nat
  w : Nat
  h : Nat
  expected : Option Nat
  crc : Nat
  frame : Nat
  mismatches : Nat
  valid : Bool
  match_ : Bool
  /-- No comparison has been made under this setting. -/
  first : Bool
deriving DecidableEq, Repr

/-- A frame in progress: what it holds and reads until its FRAME_DONE (05 R182, R199). -/
structure Prog where
  frame : Nat
  streams : List (Nat × Nat)
  buffers : List Nat
deriving DecidableEq, Repr

/-- An output (06_scanout). -/
structure Output where
  enable : Bool
  views : Nat
  width : Nat
  height : Nat
  num : Nat
  den : Nat
  vb : Nat
  phase : Nat
  latency : Nat
  /-- Wall map: position to (X, Y, W, H) (05 R194). -/
  map : Tab (Nat × Nat × Nat × Nat)
  /-- The output runs on its grid; a frame is in progress; the next frame has been latched. -/
  started : Bool
  inFrame : Bool
  latched : Bool
  frame : Nat
  start : Int
  activeLen : Nat
  nextNo : Nat
  next : Int
  /-- Length of the frame that is latched or starts next. -/
  nextLen : Nat
  line : Nat
  sent : Tab Nat
  underrun : Bool
  underLine : Nat
  underView : Nat
  matched : Bool
  done : Bool
  prog : List Prog
  /-- LAYER_COMMITs that wait for the next latch point: tag and COMMIT_LATE (05 R197, 06 R211). -/
  commits : List (Nat × Bool)
  /-- Flip times still to come: frame number and time (06 R222). -/
  flips : List (Nat × Int)
  /-- LOCAL time plus 1 at which the last FLIP (even key) or DECISION (odd) cell of a frame left: 2 × frame + kind (07 R244). -/
  sentAt : Tab Nat
  /-- A step of SYSTEM time has come since the grid was taken (06 R210). -/
  resync : Bool
  guardBroken : Bool
  groupBroken : Bool
  rects : Tab CrcRect
  /-- Settings latched for the frame that starts next, and those that wait for a latch point (06 R219, R220). -/
  nextRects : Tab CrcRect
  pendRects : Tab CrcRect
deriving DecidableEq, Repr

/-- The group's reports and decisions (06 R224, R225): frame numbers, with the first late TILE; the frames whose decision
is to come, with their flip times. -/
structure OutGroup where
  due : List (Nat × Int)
  late : Tab (Option Nat)
  decided : List (Nat × Bool)
deriving DecidableEq, Repr

/-- The SENDER's composition and scan-out. -/
structure Send where
  streams : Tab (Option Stream)
  bufs : Tab (Option StillBuf)
  layers : Tab LayerSlot
  outs : Tab Output
  group : OutGroup
  /-- Buffers whose first dropped write of the present frame has been logged (05 R184). -/
  pinLogged : List Nat
  /-- Units whose release waits for a latch point: kind and instance (05 R201, 07 R275). -/
  unfence : List (Nat × Nat)
deriving DecidableEq, Repr

/-- A slot with no definition. -/
def LayerSlot.cold : LayerSlot := { staged := none, pend := none, active := none, held := none, loss := 0 }

/-- A rectangle never set. -/
def CrcRect.cold : CrcRect :=
  { enable := false, learn := false, view := 0, x := 0, y := 0, w := 0, h := 0, expected := none, crc := 0, frame := 0
    mismatches := 0, valid := false, match_ := false, first := false }

/-- An output never defined. -/
def Output.cold : Output :=
  { enable := false, views := 0, width := 0, height := 0, num := 0, den := 0, vb := 0, phase := 0, latency := 0, map := []
    started := false, inFrame := false, latched := false, frame := 0, start := 0, activeLen := 0, nextNo := 0, next := 0
    nextLen := 0, line := 0, sent := [], underrun := false, underLine := 0, underView := 0, matched := false, done := false
    prog := [], commits := [], flips := [], sentAt := [], resync := false, guardBroken := false, groupBroken := false, rects := [], nextRects := [], pendRects := [] }

/-- Composition and scan-out at the release of PORST_N. -/
def Send.cold : Send := { streams := [], bufs := [], layers := [], outs := [], group := ⟨[], [], []⟩, pinLogged := [], unfence := [] }

end Sys2Proof.Machine
end

