-- ==== Sys2Proof/Parts/Tile.lean ====
section
/-! DEFINITION. The TILE's state: timeline and Basin (02), lamp drive and lamp health (03), Fretboard and
wear (04). -/

namespace Sys2Proof.Machine

/-- A flip time: frame number and SYSTEM time in ticks (02 R50, R51). -/
structure Flip where
  num : Nat
  at_ : Int
deriving DecidableEq, Repr

/-- An on-interval record (02 R84), in ticks from the slot's start. -/
structure OnRec where
  sink : Nat
  low : Bool
  stretch : Bool
  tOn : Nat
  tOff : Nat
deriving DecidableEq, Repr

/-- The slot now running (02 R46): its records are those of the sinks that are on. -/
structure Slot where
  k : Nat
  frame : Nat
  line : Nat
  sub : Nat
  start : Int
  len : Nat
  recs : List OnRec
  dark : Bool
  /-- Offset at which emission was removed within the slot, by EMIT_EN or a FATAL reaction. -/
  stop : Option Nat
  /-- Sink groups that are high-impedance, from an offset on (03 R90, R96, R115). -/
  cuts : List (Nat × Nat)
  /-- Sinks of SHORT lamps of the line: their pads are held at the clamp (03 R128). -/
  held : List Nat
  /-- Offset at which the scan control port stopped. -/
  scanStop : Option Nat
  emitted : Bool
deriving DecidableEq, Repr

/-- What the engine emits of a lamp in a view this frame (02 R67, 03 R121). -/
structure Plan where
  total : Nat
  pulses : Nat
  low : Bool
  stretch : Bool
deriving DecidableEq, Repr

/-- A lamp's health and its verification (03 R119–R129). Health: 0 OK, 1 SUSPECT, 2 OPEN, 3 SHORT. -/
structure LampH where
  health : Nat
  age : Nat
  /-- The lamp's previous open check or probe failed. -/
  prevFail : Bool
  /-- Consecutive failed short samples, and whether every one since entry to SUSPECT passed. -/
  shortRun : Nat
  shortsOk : Bool
  /-- The lamp came from this bad state (2 or 3); 0 none. -/
  cameFrom : Nat
  /-- Consecutive passed re-checks while SHORT. -/
  recheck : Nat
  overdue : Bool
  /-- A due check did not take place, or the lamp's group has returned: due in the next frame (R96, R123). -/
  lateDue : Bool
  /-- Due in the present frame and not yet verified. -/
  due : Bool
deriving DecidableEq, Repr

/-- A lamp at the release of PORST_N: OK, age STRETCH_AGE's default (03 R119). -/
def LampH.cold : LampH :=
  { health := 0, age := 192, prevFail := false, shortRun := 0, shortsOk := true, cameFrom := 0, recheck := 0
    overdue := false, lateDue := false, due := false }

/-- A sink group: its shadow sink and its return to service (03 R93–R96). -/
structure Group where
  /-- The sink of the group that the shadow sink permanently replaces. -/
  subst : Option Nat
  /-- A calibration holds the shadow sink. -/
  calHeld : Bool
  /-- The sink of the group, 0–15, whose pad the shadow sink carries for a calibration, the LOCAL time at which it took it
  over, and the next sink to be relieved (R93; 16_calibration R600). -/
  pad : Option Nat
  padAt : Nat
  padNext : Nat
  /-- Released: the group returns at the next flip time (R96). -/
  returning : Bool
deriving DecidableEq, Repr

/-- A group with its shadow sink free. -/
def Group.cold : Group := { subst := none, calHeld := false, pad := none, padAt := 0, padNext := 0, returning := false }

/-- A switching stage: TILE rails and BED strings (03 R107, R114; 11 R433). -/
structure Stage where
  /-- 0 off, 1 soft-start, 2 held, 3 regulating, 4 ramp-down (BED). -/
  mode : Nat
  /-- Reference code of the stage, 12 bits. -/
  code : Nat
  /-- LOCAL time at which the soft-start began. -/
  softAt : Nat
  /-- LOCAL time since which the rail stays at a limit: 1 minimum, 2 maximum; event raised (R114). -/
  limAt : Option Nat
  limSide : Nat
  limRaised : Bool
  /-- The slot's headroom report: code, or none for no demand (R108, R110). -/
  report : Option Nat
  railLow : Bool
deriving DecidableEq, Repr

/-- A stage switched off. -/
def Stage.cold : Stage :=
  { mode := 0, code := 0, softAt := 0, limAt := none, limSide := 0, limRaised := false, report := none, railLow := false }

/-- A FRETBOARD_COMMIT under way (04 R149, R150, R153). -/
structure FbCommit where
  persist : Bool
  discard : Bool
  tag : Nat
  earliest : Nat
deriving DecidableEq, Repr

/-- An image of the Fretboard in a flash area (04 R153). -/
structure FbArea where
  valid : Bool
  seq : Nat
  pix : Tab Nat
  lamp : Tab Nat
  curve : Tab (Option Nat)
  crc : Nat
deriving DecidableEq, Repr

/-- A wear save in a flash area with its CRC-32 check word (04 R159). -/
structure WearArea where
  valid : Bool
  check : Nat
  seq : Nat
  counters : Tab Nat
  comp : Tab Nat
  gen : Nat
  sysT : Nat
deriving DecidableEq, Repr

/-- Reception of a raster (02 R54–R56; 07 R238–R240). -/
structure Rx where
  active : Bool
  frame : Nat
  /-- Pixels written per view × 65 536 + row. -/
  fill : Tab Nat
  /-- The 16 bytes per pixel of an unfinished triplet: pixels so far as 256-bit cells. -/
  triplet : List Nat
  crc : Option (Nat × Nat)
deriving DecidableEq, Repr

/-- The emission timeline (02). -/
structure Timeline where
  /-- The Basin's 48-bit words: bank × 131 072 + view × 32 768 + word (R53). -/
  basin : Tab Nat
  flips : List Flip
  /-- FLIP cells already received, newest first: frame number and time (07 R245). -/
  seen : List Flip
  lastFlip : Option Flip
  accepted : List Nat
  active : Bool
  frameNo : Nat
  start : Int
  len : Nat
  nominal : Bool
  /-- The nominal grid has ended and the frame waits, dark, for its flip time (R52). -/
  waiting : Bool
  bank : Nat
  rx : Rx
  /-- Decisions received: frame → 1 ADVANCE, 2 REPEAT (R77). -/
  decisions : Tab Nat
  /-- The decision of the next flip: whether it swaps. -/
  decided : Option Bool
  decidedNum : Nat
  lateRun : Nat
  /-- Flags of the next REPLY about the previous flip (R74, R76). -/
  repeated : Bool
  crcBad : Bool
  /-- Flips held when emission began to wait: it waits for one accepted later (R79; 07 R268). -/
  early : List Flip
  emitting : Bool
  k0 : Nat
  k1 : Nat
  k2 : Nat
  q : Nat
  bright : Nat
  throttle : Nat
  derating : Bool
  carry : Tab Int
  /-- Range of the previous frame per lamp × 4 + view: 1 HIGH, 2 LOW (R66). -/
  range : Tab Nat
  plan : Tab Plan
  /-- Records computed for slot `ready`, to be taken at its boundary (R41). -/
  ready : Option Nat
  recs : List OnRec
  darkReady : Bool
  nextSlot : Nat
  /-- The running frame's slot views (15 dark), usable minimum after the pause, pause, stagger step and
  drive codes, and the lamps whose grey is 0 by their health since the decision instant (R128). -/
  slotView : List Nat
  uMin : Nat
  pause : Nat
  stagger : Nat
  drive : List Nat
  zeroed : Tab Nat
  slot : Option Slot
  sig : Nat
  /-- Emission was removed and resumes at a slot boundary (R81). -/
  gateOff : Bool
deriving DecidableEq, Repr

/-- Lamp drive (03). -/
structure Lamps where
  lamp : Tab LampH
  group : Tab Group
  /-- Consecutive failed checks per sink (R94). -/
  sinkFail : Tab Nat
  /-- Consecutive mismatches per colour × 4 + output (R102). -/
  scanBad : Tab Nat
  /-- Line the decoders hold (R98). -/
  lineSel : Nat
  stage : Tab Stage
  /-- Rail-low slots of the frame per stage × 64 + line, and the rail's total. -/
  lowLine : Tab Nat
  lowTotal : Tab Nat
  /-- Runs of frames with and without the dropout condition, and the lines in dropout (R130). -/
  dropRun : Tab Nat
  dropQuiet : Tab Nat
  dropped : Tab Nat
  /-- Rail minima of the frame as runs, newest first: stage, length, code (14_spillway R555). -/
  minima : List (Nat × Nat × Nat)
  /-- With one scan line, OE is held active (R101). -/
  oeHeld : Bool
deriving DecidableEq, Repr

/-- Fretboard and wear (04). -/
structure Fret where
  /-- Pixel entries: copy × 32 768 + entry. -/
  pix : Tab Nat
  /-- Lamp entries: copy × 131 072 + entry. -/
  lamp : Tab Nat
  /-- Curve entries: copy × 8192 + curve × 512 + entry; none is the default curve's entry. -/
  curve : Tab (Option Nat)
  active : Nat
  commit : Option FbCommit
  /-- The copy of R149 runs: the frame number its event carries. -/
  copying : Option Nat
  loadSince : Bool
  /-- Images that wait to be written into a Fretboard area, the one being written first, with the tags of their commits
  (R153). -/
  persist : List (FbArea × Nat)
  /-- Entries of the active copy that failed since the last frame began, as table × 2²⁰ + index: that frame takes their defaults
  (R155). -/
  failed : List Nat
  wear : Tab Nat
  acc : Tab Nat
  gen : Nat
  lastTransfer : Option Int
  transfers : Nat
  /-- A wear step waits for the next decision instant: targets of the lamps that have one, 12-bit. -/
  stepPending : Bool
  targets : Tab (Option Int)
  limitRaised : Tab Nat
  lastSave : Nat
deriving DecidableEq, Repr

/-- The identity pixel entry (04 R139). -/
def pixIdentity : Nat := 0x2000 * 2 ^ 94 + 0x2000 * 2 ^ 80 + 0x2000 * 2 ^ 66

/-- No raster. -/
def Rx.cold : Rx := { active := false, frame := 0, fill := [], triplet := [], crc := none }

/-- The timeline at the release of PORST_N. The Basin's bank is 0: DESIGN CHOICE, log 38. -/
def Timeline.cold : Timeline :=
  { basin := [], flips := [], seen := [], slotView := [], uMin := 0, pause := 0, stagger := 8, drive := [127, 127, 127]
    zeroed := [], lastFlip := none, accepted := [], active := false, frameNo := 0, start := 0, len := 0
    nominal := false, waiting := false, bank := 0, rx := Rx.cold, decisions := [], decided := none, decidedNum := 0
    lateRun := 0, repeated := false, crcBad := false, early := [], emitting := false, k0 := 0x8000
    k1 := 0x8000, k2 := 0x8000, q := 0x10000, bright := 0xFFFF, throttle := 0, derating := false, carry := []
    range := [], plan := [], ready := none, recs := [], darkReady := false, nextSlot := 0, slot := none
    sig := 0xFFFFFFFF, gateOff := false }

/-- Lamp drive at the release of PORST_N (03 R119). -/
def Lamps.cold : Lamps :=
  { lamp := [], group := [], sinkFail := [], scanBad := [], lineSel := 0, stage := [], lowLine := [], lowTotal := []
    dropRun := [], dropQuiet := [], dropped := [], minima := [], oeHeld := false }

/-- The Fretboard at the release of PORST_N (04 R145, R158). -/
def Fret.cold : Fret :=
  { pix := [], lamp := [], curve := [], active := 0, commit := none, copying := none, loadSince := false
    persist := [], failed := [], wear := [], acc := [], gen := 1, lastTransfer := none, transfers := 0, stepPending := false
    targets := [], limitRaised := [], lastSave := 0 }

/-- A flash area that holds nothing valid. -/
def FbArea.cold : FbArea := { valid := false, seq := 0, pix := [], lamp := [], curve := [], crc := 0 }
def WearArea.cold : WearArea := { valid := false, check := 0, seq := 0, counters := [], comp := [], gen := 1, sysT := 0 }

end Sys2Proof.Machine
end

