-- ==== Sys2Proof/Parts/Thermal.lean ====
section
/-! DEFINITION. The thermal unit, AVS and the ageing monitors (15_thermal_ageing), and the flash areas
and record-store entries that the other chapters keep (18_startup_update R655, 01_architecture R32). -/

namespace Sys2Proof.Machine

/-- An input of the temperature monitor (R568–R570, R573). Temperatures in 0.0625 °C. -/
structure Sensor where
  /-- The last 16 conversions, oldest first. -/
  hist : List Int
  rangeRun : Nat
  stuckRun : Nat
  disRun : Nat
  passRun : Nat
  failed : Bool
  /-- FENCE_RELEASE has been given and waits for 16 good conversions. -/
  releasing : Bool
  /-- Readings while valid without a break, newest first, at most 201. -/
  track : List Int
  /-- An external NTC input is forced with 5 µA, not 100 µA (19_pins_electrical R699). -/
  lowRange : Bool
deriving DecidableEq, Repr

/-- An input before its first conversion. -/
def Sensor.cold : Sensor :=
  { hist := [], rangeRun := 0, stuckRun := 0, disRun := 0, passRun := 0, failed := false, releasing := false, track := [], lowRange := false }

/-- The ageing histories and the increments a replan has applied (R590–R592). -/
structure Ageing where
  /-- Operating hours, and the hours of the last replan and of the last save. -/
  hours : Nat
  lastReplan : Nat
  savedAt : Nat
  /-- AVS_FLOOR, mV. -/
  avsFloor : Nat
  /-- Largest degradation of the last sample, ppm. -/
  dMax : Nat
  /-- Hourly LOGIC samples: hour, d of every pair, s_min least and most, voltage least and most. -/
  logic : List (List Nat)
  /-- Eye heights: hour, lane, mV. -/
  eyes : List (Nat × Nat × Nat)
  /-- Per lane: median eye height + 1 of the 24 h before the previous replan. -/
  eyeBase : Tab Nat
  /-- Per lane increment of R286, mV; per stage A of R112, mV. -/
  laneInc : Tab Nat
  railA : Tab Nat
  /-- Per stage: sink-current checks and those that deviate more than 2 %. -/
  railChecks : Tab Nat
  railDev : Tab Nat
  /-- Per stage: the least headroom code reported in the replan period, plus 1; 0 none (03 R111). -/
  railLeast : Tab Nat
  /-- Per string: A of R431, η₀, and the sum and number of η samples of the period. -/
  stringA : Tab Nat
  eta0 : Tab Nat
  etaSum : Tab Nat
  etaN : Tab Nat
  /-- Strings whose present replan period is not full, since their tables changed within it (R592). -/
  etaSkip : Tab Nat
  /-- LOCAL time at which the present operating hour began, and its part before a reset. -/
  hourAt : Nat
  hourPart : Nat
  /-- Domains whose margin lies below its floor. -/
  below : Tab Nat
deriving DecidableEq, Repr

/-- A device never aged. -/
def Ageing.cold : Ageing :=
  { hours := 0, lastReplan := 0, savedAt := 0, avsFloor := 650, dMax := 0, logic := [], eyes := [], eyeBase := []
    laneInc := [], railA := [], railChecks := [], railDev := [], railLeast := [], stringA := [], eta0 := [], etaSum := [], etaN := []
    etaSkip := [], hourAt := 0, hourPart := 0,
    below := [] }

/-- A replan that CAPO_SET keeps waiting (R591): mask, dry run, and the tag of its command. -/
structure Replan where
  mask : Nat
  dry : Bool
  tag : Option Nat
deriving DecidableEq, Repr

/-- The thermal unit. -/
structure Thermal where
  sensors : Tab Sensor
  warn : Bool
  throttle : Bool
  rise : Bool
  shutdown : Bool
  /-- Consecutive conversions toward a change of each state (R572). -/
  warnRun : Nat
  throttleRun : Nat
  riseRun : Nat
  shutRun : Nat
  limWarn : Nat
  limThrottle : Nat
  limShut : Nat
  limRise : Nat
  level : Nat
  floor : Nat
  /-- LOCAL time of the next change of level. -/
  nextStep : Nat
  /-- LOCAL time since which the level is 8 with THROTTLE in force (R580). -/
  stopSince : Option Nat
  stopMade : Bool
  lastConv : Option Nat
  /-- AVS: the commanded voltage, runs of R586, R588, R589. -/
  avsMv : Nat
  /-- The least voltage commanded before within 2 ms of the last command, and that command's LOCAL time (19_pins_electrical R693). -/
  avsOld : Nat
  avsAt : Option Nat
  slackRun : Nat
  lowRun : Nat
  busFails : Nat
  busStopped : Bool
  retryAt : Nat
  fixedDone : Bool
  vCore : Nat
  iCore : Nat
  age : Ageing
  pendReplan : Option Replan
deriving DecidableEq, Repr

/-- The thermal unit at the release of PORST_N (R568, R574, R586). -/
def Thermal.cold : Thermal :=
  { sensors := [], warn := false, throttle := false, rise := false, shutdown := false, warnRun := 0, throttleRun := 0
    riseRun := 0, shutRun := 0, limWarn := 1520, limThrottle := 1600, limShut := 1840, limRise := 80, level := 0
    floor := 0, nextStep := 0, stopSince := none, stopMade := false, lastConv := none, avsMv := 800, avsOld := 800, avsAt := none, slackRun := 0
    lowRun := 0, busFails := 0, busStopped := false, retryAt := 0, fixedDone := false, vCore := 0, iCore := 0
    age := Ageing.cold, pendReplan := none }

/-- What outlives a loss of power in the flash areas and the event records (18 R655; 01 R32). -/
structure Nv where
  /-- Shutdowns since manufacture and the shutdown record's 36 bytes, empty when none (R583). -/
  shutCount : Nat
  shutRec : List Byte
  /-- The two Fretboard areas, the two wear areas and the two ageing areas. -/
  fb : Tab FbArea
  wear : Tab WearArea
  age : Tab Ageing
  /-- The ageing area written last, plus 1. -/
  ageLast : Nat
  /-- Permanent sink substitutions in the working calibration records: sink + 1 by group (03 R95). -/
  subst : Tab Nat
  /-- Working-calibration records by DOMAIN × 4096 + INSTANCE, SINK_REF at 0xF000; none is a record as delivered (16 R612). -/
  cal : Tab (Option CalRec)
  /-- The 8 saved-state copies and the place of the one written last, plus 1 (01 R33; 17 R628). -/
  saved : Tab (List Byte)
  savedLast : Nat
deriving DecidableEq, Repr

/-- A part as made: no area holds anything. -/
def Nv.cold : Nv := { shutCount := 0, shutRec := [], fb := [], wear := [], age := [], ageLast := 0, subst := [], cal := [], saved := [], savedLast := 0 }

end Sys2Proof.Machine
end

