-- ==== Sys2Proof/Parts/Trace.lean ====
section
/-! DEFINITION. The trace unit of a BED (12_loops R473–R476). -/

namespace Sys2Proof.Machine

/-- A trace channel: what it records and what it holds, oldest sample first (R473, R474). -/
structure TraceChan where
  enable : Bool
  decim : Nat
  slot : Nat
  node : Nat
  /-- Updates of the slot since arming, modulo the decimation. -/
  phase : Nat
  samples : List Nat
  /-- Samples taken before the trigger, at most 16 384, and after it. -/
  before : Nat
  after : Nat
deriving DecidableEq, Repr

/-- The trace unit. `st`: 0 idle, 1 armed, 2 triggered, 3 done, 4 stopped by OP 2 (R476). -/
structure Trace where
  st : Nat
  trigSrc : Nat
  trigArg : Nat
  pre : Nat
  /-- The source that triggered, and LOCAL and SYSTEM time of the trigger. -/
  firedBy : Nat
  firedLocal : Nat
  firedSys : Nat
  chans : Tab TraceChan
deriving DecidableEq, Repr

/-- A channel not in use. -/
def TraceChan.cold : TraceChan :=
  { enable := false, decim := 1, slot := 0, node := 0, phase := 0, samples := [], before := 0, after := 0 }

/-- The trace unit at the release of PORST_N. -/
def Trace.cold : Trace :=
  { st := 0, trigSrc := 0, trigArg := 0, pre := 0, firedBy := 0, firedLocal := 0, firedSys := 0, chans := [] }

end Sys2Proof.Machine
end

