-- ==== Sys2Proof/Parts/Wire.lean ====
section
/-! DEFINITION. The transmit side of a Wotor port: its codeword count and the cells that wait (07_cascade_link R231–R235). -/

namespace Sys2Proof.Machine

/-- The transmitter of a Wotor port. -/
structure TxPort where
  /-- LOCAL time at which codeword 0 leaves, and the index of the next one (R234). -/
  base : Nat
  index : Nat
  /-- Control cells that wait, 32 bytes each, in the order they came. -/
  ctrl : List (List Byte)
  /-- What takes data positions, in order: data cells of 33 bytes, the flag first, and FRAME_START cells (R238). -/
  data : List (List Byte)
  /-- MARK cells sent (R250). -/
  marks : Nat
  /-- The last 58 scrambled bits sent, the latest lowest (R231). -/
  history : Nat
  /-- The last level sent, which the precoder takes up (08 R284). -/
  level : Nat
deriving DecidableEq, Repr

/-- A transmitter that has sent nothing. -/
def TxPort.cold : TxPort := { base := 0, index := 0, ctrl := [], data := [], marks := 0, history := 0, level := 0 }

end Sys2Proof.Machine
end

