-- ==== Sys2Proof/Machine/State.lean ====
section
/-! DEFINITION. The block's state, the reasons a step can stop, and the state after reset. -/

namespace Sys2Proof.Machine

/-- Faults of the model. None of the spec's steps stops the block: the block has no exception entry. -/
inductive Fault where
  /-- Raised by no meaning; kept because the host's outcome type asks for a fault type. Safe. -/
  | none
deriving DecidableEq, Repr

/-- Refusals of the model. -/
inductive Refusal where
  /-- A command with no meaning yet, by its mnemonic (raised by exec's arms only). Safe. -/
  | notModelled (mnemonic : String)
  /-- Any command while the role is factory test, whose behaviour the spec does not specify
  (00_scope R8). Raised by every meaning but the reset pins. Safe. -/
  | factoryTest
deriving DecidableEq, Repr

/-- The state of the block. -/
@[ext]
structure State where
  sys : Sys
  regs : Regs
  cmds : Cmds
  evs : Evs
  spill : Spill
  log : Log
  keys : Keys
  ctr : Tab Nat
  capo : List (Nat × Nat)
  cap : Capture
  rep : Replay
  time : Time
  link : Link
  wire : Tab TxPort
  lanes : Lanes
  tl : Timeline
  lamps : Lamps
  fret : Fret
  th : Thermal
  trace : Trace
  send : Send
  img : Image
  cal : Cal
  loops : Loops
  bed : Bed
  pair : Pair
  nv : Nv
  dram : Tab Byte
  out : List Out
  pending : List Instr
deriving DecidableEq, Repr

/-- The block right after the release of PORST_N with ROLE strapped 00 (TILE, log 2). -/
def State.reset : State :=
  { sys := Sys.cold .tile 0
    regs := Regs.cold
    cmds := Cmds.cold
    evs := Evs.cold
    spill := Spill.cold
    log := { entries := [], next := 0 }
    keys := Keys.cold
    ctr := []
    capo := []
    cap := Capture.cold
    rep := Replay.cold
    time := Time.cold .tile
    link := Link.cold
    wire := []
    lanes := Lanes.cold
    tl := Timeline.cold
    lamps := Lamps.cold
    fret := Fret.cold
    th := Thermal.cold
    trace := Trace.cold
    send := Send.cold
    img := Image.cold
    cal := Cal.cold
    loops := Loops.cold
    bed := Bed.cold
    pair := Pair.cold
    nv := Nv.cold
    dram := []
    out := []
    pending := [] }

end Sys2Proof.Machine
end

