-- ==== Sys2Proof/Machine/Wire.lean ====
section
/-! DEFINITION. Control cells of the Wotor link as 32 bytes (07_cascade_link R241–R251). -/

namespace Sys2Proof.Machine

/-- One bit step of the CRC-16 of R241. -/
def crc16Bits : Nat → Nat → Nat
  | 0, c => c
  | k + 1, c => crc16Bits k (if c / 0x8000 % 2 = 1 then Nat.xor (c * 2 % 0x10000) 0x1021 else c * 2 % 0x10000)

/-- CRC-16, polynomial 0x1021, initial value 0xFFFF, no reflection and no inversion (R241). -/
def crc16 (l : List Byte) : Nat := l.foldl (fun c b => crc16Bits 8 (Nat.xor c (b.toNat * 256))) 0xFFFF

/-- The 32 bytes of a control cell: TYPE, body padded with 0 to byte 29, CHECK (R241). -/
def ctrlCell (type : Nat) (body : List Byte) : List Byte :=
  let front := (b8 type :: body ++ List.replicate 29 (b8 0)).take 30
  front ++ leBytes 2 (crc16 front)

/-- A control cell's CHECK holds (R241). -/
def cellOk (cell : List Byte) : Bool := crc16 (cell.take 30) == leAt cell 30 2

/-- An MGMT cell of one fragment (R247). -/
def mgmtCell (kind frag : Nat) (last bc : Bool) (dest src tag : Nat) (data : List Byte) : List Byte :=
  ctrlCell 2 (b8 (kind * 64 + frag) :: leBytes 2 (flag last 15 + flag bc 14 + dest % 0x4000) ++
    leBytes 2 (src % 0x4000) ++ leBytes 2 (tag % 4096) ++ data)

/-- The MGMT cells of a message, 22 bytes each, LAST on the final one (R248). -/
def mgmtCells (kind : Nat) (bc : Bool) (dest src tag : Nat) : Nat → Nat → List Byte → List (List Byte)
  | 0, _, _ => []
  | fuel + 1, frag, data =>
    if data.length ≤ 22 then [mgmtCell kind frag true bc dest src tag data]
    else mgmtCell kind frag false bc dest src tag (data.take 22) ::
      mgmtCells kind bc dest src tag fuel (frag + 1) (data.drop 22)

/-- SECONDS and TICKS of a time value of a SYNC cell, 11 bytes (R243), from SYSTEM ticks. -/
def timeValue (ticks : Nat) : List Byte :=
  leBytes 6 (ticks / 10000000000) ++ leBytes 5 (ticks % 10000000000)

/-- A SYNC cell (R243). -/
def syncCell (subtype frame : Nat) (body : List Byte) : List Byte :=
  ctrlCell 1 (b8 subtype :: leBytes 2 frame ++ body)

/-- A HEART cell (R250). -/
def heartCell (src seq st flags : Nat) : List Byte :=
  ctrlCell 4 (b8 0 :: leBytes 2 src ++ leBytes 2 seq ++ [b8 st, b8 flags])

/-- A DELAY cell (R250, R251): stamps in 1/256 tick, LOCAL. -/
def delayCell (subtype probe t1 t2 t3 src port : Nat) : List Byte :=
  ctrlCell 5 (b8 subtype :: leBytes 2 probe ++ leBytes 7 t1 ++ leBytes 7 t2 ++ leBytes 7 t3 ++ leBytes 2 src ++ [b8 port])

/-- A TOKEN cell (R249). -/
def tokenCell (position sender cascade : Nat) (full : Bool) (epoch : Nat) : List Byte :=
  ctrlCell 3 (b8 0 :: b8 position :: b8 (sender % 8 + cascade % 8 * 8 + flag full 6) :: leBytes 2 epoch)

/-- A REPORT cell (R249). -/
def reportCell (position devId uid fwMajor fwMinor flags tileId epoch : Nat) : List Byte :=
  ctrlCell 3 (b8 1 :: b8 position :: leBytes 2 devId ++ leBytes 8 uid ++ [b8 fwMajor, b8 fwMinor, b8 flags] ++
    leBytes 2 tileId ++ leBytes 2 epoch)

/-- A GEOMETRY cell (R249). -/
def geometryCell (dest x y rw rh wc hc views epoch : Nat) : List Byte :=
  ctrlCell 3 (b8 2 :: leBytes 2 dest ++ leBytes 2 x ++ leBytes 2 y ++ leBytes 2 rw ++ leBytes 2 rh ++ leBytes 2 wc ++
    leBytes 2 hc ++ [b8 (views - 1)] ++ leBytes 2 epoch)

/-- A MARK cell (R250). -/
def markCell (lane seq width src : Nat) : List Byte :=
  ctrlCell 6 (b8 lane :: leBytes 4 seq ++ [b8 width] ++ leBytes 2 src)

end Sys2Proof.Machine
end

