-- ==== Sys2Proof/Machine/Ops.lean ====
section
/-! DEFINITION. Operations every chapter shares: key values, counters, time forms, interrupts, the log,
events, device state, free values and DRAM. -/

namespace Sys2Proof.Machine

/-- What only the release and the assertion of PORST_N change stays as it was in `s`: the role and the tile ID, sampled
at the release (00_scope R6; 18_startup_update R652), and the level of PORST_N. The queue is the block's
input and no command's effect. -/
def held (s t : State) : State :=
  { t with sys := { t.sys with role := s.sys.role, tileId := s.sys.tileId, porstLow := s.sys.porstLow }, pending := s.pending }

/-- A meaning that every role but factory test has (00_scope R8); a device in RESET does nothing (18_startup_update R653). -/
def live (s : State) (f : State → State) : Host.Outcome State Fault Refusal :=
  if s.sys.role = .factory then .refused .factoryTest else .next (if s.sys.st = .reset then s else held s (f s))

/-- The same for what acts while WRST_N is low as well: pins, the temperature and supply monitors, the TAP. -/
def liveAny (s : State) (f : State → State) : Host.Outcome State Fault Refusal :=
  if s.sys.role = .factory then .refused .factoryTest else .next (held s (f s))

/-! ### Keys -/

/-- The key ID of a key slot: latch keys have one slot per output (05_composition R202). -/
def slotId (slot : Nat) : Nat := slot % 65536

/-- The value of a slot in a table of values; the key's default where the table holds none. -/
def keyVal (role : Role) (t : Tab (Option (List Byte))) (slot : Nat) : List Byte :=
  match tabGet none t slot with
  | some v => v
  | none => keyDefault role (slotId slot)

/-- Store a value, nothing where it is the default. -/
def keyPut (role : Role) (t : Tab (Option (List Byte))) (slot : Nat) (v : List Byte) : Tab (Option (List Byte)) :=
  tabSet none t slot (if v = keyDefault role (slotId slot) then none else some v)

/-- The value of a key in effect. -/
def keyEff (s : State) (slot : Nat) : List Byte := keyVal s.sys.role s.keys.eff slot

/-- The committed value of a key. -/
def keyCommitted (s : State) (id : Nat) : List Byte := keyVal s.sys.role s.keys.committed id

/-- An unsigned field of a key in effect. -/
def keyU (s : State) (id off w : Nat) : Nat := leAt (keyEff s id) off w

/-- A signed field of a key in effect. -/
def keyS (s : State) (id off w : Nat) : Int := sgn (8 * w) (leAt (keyEff s id) off w)

/-- A latch key as output `o` took it at its last latch point (05_composition R202). -/
def keyOut (s : State) (o id : Nat) : List Byte := keyEff s (id + 65536 * (o + 1))

/-! ### Counters (13_mailbox R515, 02_emission_timeline R88) -/

/-- Table key of a counter. -/
def ctrKey (group inst ix : Nat) : Nat := (group * 256 + inst) * 256 + ix

/-- A counter's value. -/
def counter (s : State) (group inst ix : Nat) : Nat := tabGet 0 s.ctr (ctrKey group inst ix)

/-- Add `n` to a counter, saturating at 0xFFFF_FFFF (R88). -/
def bumpN (s : State) (group inst ix n : Nat) : State :=
  { s with ctr := tabSet 0 s.ctr (ctrKey group inst ix) (min 0xFFFFFFFF (counter s group inst ix + n)) }

/-- Add 1 to a counter. -/
def bump (s : State) (group inst ix : Nat) : State := bumpN s group inst ix 1

/-! ### Time (09_time) -/

/-- Ticks of one second. -/
def secTicks : Nat := 10000000000

/-- Ticks of one microsecond and of one millisecond. -/
def usTicks : Nat := 10000
def msTicks : Nat := 10000000

/-- SYSTEM time in whole ticks. -/
def sysTicks (s : State) : Nat := s.time.sys / 2 ^ 32

/-- The SHORT form of R319. -/
def shortForm (ticks : Nat) : Nat := ticks % 2 ^ 48

/-- The LONG-64 form of R319. -/
def long64 (ticks : Nat) : Nat := ticks / secTicks % 2 ^ 30 * 2 ^ 34 + ticks % secTicks

/-- SYSTEM time in the form TIME_FORMAT selects (R321). -/
def timeForm (s : State) (ticks : Nat) : Nat := if keyU s 0x0300 0 1 = 1 then long64 ticks else shortForm ticks

/-- The time record of R319, from a time in 2⁻³² tick: 3 words. -/
def timeRecord (t : Nat) : List Word :=
  let ticks := t / 2 ^ 32
  wordsOf (leBytes 6 (ticks / secTicks) ++ leBytes 5 (ticks % secTicks) ++ [b8 (t / 2 ^ 24)])

/-- `a - b` of two 48-bit times, read as a signed 48-bit number (R320). -/
def diff48 (a b : Nat) : Int := sgn 48 (uns 48 ((a : Int) - b))

/-- The time of the 48-bit SHORT value `v` nearest to `now` (R320). -/
def unshort (now v : Nat) : Int := (now : Int) + diff48 v (shortForm now)

/-- SYSTEM time of a past LOCAL stamp in ticks, at the present rate (R324). -/
def sysAtLocal (s : State) (loc : Nat) : Int := (sysTicks s : Int) + (loc : Int) - (s.time.loc : Int)

/-- Two words of a 64-bit value, lower first. -/
def two32 (v : Nat) : List Word := [w32 v, w32 (v / 2 ^ 32)]

/-! ### Outputs, free values -/

/-- Send something out. -/
def emit (s : State) (o : Out) : State := { s with out := o :: s.out }

/-- Send several things out, in order. -/
def emits (s : State) (os : List Out) : State := os.foldl emit s

/-- Hand control cells to a Wotor port: while it is locked they wait for its codewords (07 R233, R234). -/
def sendCells (s : State) (p : Nat) (l : List (List Byte)) : State :=
  let s1 := if (tabGet WPort.cold s.link.ports p).lockedAt.isSome then
      { s with wire := tabUpd TxPort.cold s.wire p fun w => { w with ctrl := w.ctrl ++ l } }
    else s
  emits s1 (l.map (Out.cell p))
def sendCell (s : State) (p : Nat) (c : List Byte) : State := sendCells s p [c]

/-- Put cells into the data positions of a locked Wotor port, in order (07 R234, R238). -/
def queueData (s : State) (p : Nat) (l : List (List Byte)) : State :=
  if (tabGet WPort.cold s.link.ports p).lockedAt.isSome then
    { s with wire := tabUpd TxPort.cold s.wire p fun w => { w with data := w.data ++ l } }
  else s

/-- Advance the free counter; its present value feeds a free value (log 7). -/
def nextFree (s : State) : State := { s with sys.free := s.sys.free + 1 }

/-! ### Registers and interrupts -/

/-- Mailbox `n`. -/
def mbox (s : State) (n : Nat) : Mailbox := tabGet Mailbox.cold s.regs.mbx n

/-- Replace mailbox `n`. -/
def setMbox (s : State) (n : Nat) (m : Mailbox) : State :=
  { s with regs.mbx := tabSet Mailbox.cold s.regs.mbx n m }

/-- Set IRQ_STATUS bits; a bit that becomes set while unmasked sends MSI-X vector 0, which a TILE, whose
PCIe endpoint is powered down (01 R21), does not (13_mailbox R491). -/
def irq (s : State) (mask : Nat) : State :=
  let new := Nat.land mask (Nat.xor 0x3FFF (Nat.land s.regs.irqStatus 0x3FFF))
  let s1 := { s with regs.irqStatus := Nat.lor s.regs.irqStatus mask }
  if Nat.land new (Nat.xor 0x3FFF s.regs.irqMask) ≠ 0 ∧ s.sys.role ≠ .tile then emit s1 (.msix 0) else s1

/-- ALERT_N is low while any unmasked bit is set (13_mailbox R491). -/
def alertLow (s : State) : Bool := Nat.land s.regs.irqStatus (Nat.xor 0x3FFF s.regs.irqMask) != 0

/-- IRQ_STATUS bits (R491). -/
def irqHostError : Nat := 2 ^ 13
def irqEqOverflow : Nat := 2 ^ 12
def irqEvent : Nat := 2 ^ 11
def irqSpill : Nat := 2 ^ 10
def irqState : Nat := 2 ^ 9
def irqFwReady : Nat := 2 ^ 8

/-! ### The log (14_spillway R549, R550) -/

/-- Append one entry of 8 words; the ring holds 4096. -/
def logPush (s : State) (e : List Word) : State :=
  { s with log := { entries := lastN 4096 (s.log.entries ++ [e]), next := (s.log.next + 1) % 2 ^ 32 } }

/-- Continuation entries: word 0 with CONT, then 28 argument bytes each. -/
def logCont (w0 : Nat) : Nat → List Byte → State → State
  | 0, _, s => s
  | fuel + 1, args, s =>
    if args.isEmpty then s else
    let more := flag (decide (28 < args.length)) 16
    logCont w0 fuel (args.drop 28)
      (logPush s (w32 (w0 + 2 ^ 17 + more) :: wordsN 7 (args.take 28)))

/-- Write a log entry: `w0` holds the code and flag bits 18–25. -/
def logAdd (s : State) (w0 : Nat) (args : List Byte) : State :=
  let more := flag (decide (12 < args.length)) 16
  let first := w32 (w0 + more) :: two32 s.time.loc ++ two32 (timeForm s (sysTicks s)) ++ wordsN 3 (args.take 12)
  logCont w0 8 (args.drop 12) (logPush s first)

/-! ### Events (13_mailbox R508, R509) -/

/-- Continuation records: 12 argument bytes each, MORE on all but the last. -/
def evCont (code dev : Nat) : Nat → List Byte → EvRec
  | 0, _ => []
  | fuel + 1, args =>
    if args.isEmpty then [] else
    let more := flag (decide (12 < args.length)) 31
    (w32 (code + dev % 0x4000 * 65536 + 2 ^ 30 + more) :: wordsN 3 (args.take 12)) :: evCont code dev fuel (args.drop 12)

/-- The records of an event: 4 argument bytes in the first, 12 in each continuation (R508). -/
def evRecords (code dev time : Nat) (args : List Byte) : EvRec :=
  (w32 (code + dev % 0x4000 * 65536 + flag (decide (4 < args.length)) 31) :: two32 time ++ wordsN 1 (args.take 4)) ::
    evCont code dev 16 (args.drop 4)

/-- The event queue can take a record: it runs and is not full (R485). -/
def eqRoom (s : State) : Bool :=
  s.regs.eq.running && decide ((s.regs.eq.devIx + 1) % s.regs.eq.effSize ≠ s.regs.eq.hostIx % s.regs.eq.effSize)

/-- Records held in the pull store. -/
def pullCount (s : State) : Nat := (s.evs.pull.map List.length).sum

/-- EQ_CTRL.ENABLE. -/
def eqEnabled (s : State) : Bool := bit s.regs.eq.ctrl 0

/-- Deliver an event's records to the event queue, to SERVICE_EVENT_DEST or to the pull store
(R489, R508, R525); what does not fit is dropped whole and counted. -/
def deliver (s : State) (r : EvRec) : State :=
  if eqEnabled s then
    if eqRoom s = false ∧ 256 < s.evs.held.length + r.length then
      let s1 := { s with regs.eqDropped := min 0xFFFF (s.regs.eqDropped + 1) }
      let s2 := irq (bump s1 0 0 5) irqEqOverflow
      if s.regs.eqDropped = 0 then logAdd s2 0x0004 (leBytes 4 1) else s2
    else { s with evs.held := s.evs.held ++ r }
  else if keyU s 0x0002 0 4 ≠ 0 then { s with evs.svc := s.evs.svc ++ [r] }
  else if 1024 < pullCount s + r.length then
    bump { s with evs.pullDropped := min 0xFF (s.evs.pullDropped + 1) } 0 0 5
  else
    let s1 := { s with evs.pull := s.evs.pull ++ [r] }
    if s.evs.pull.isEmpty then irq s1 irqEvent else s1

/-- The device ID of the TILE's SENDER (07 R256). -/
def senderId (s : State) : Nat := s.sys.deviceId / 2048 * 2048

/-- The MGMT event cells of an event: one message per record (07 R247, R265). -/
def eventCells (s : State) (r : EvRec) : List (List Byte) :=
  r.flatMap fun rec_ => mgmtCells 2 false (senderId s) s.sys.deviceId 0 12 0 (bytesOf rec_)

/-- A fence of a kind and instance stands (14 R541). -/
def fenced (s : State) (kind inst : Nat) : Bool := s.spill.fences.any fun f => f.kind == kind && f.inst == inst

/-- A TILE inserts events toward its active upstream port: it has a position and a port, which is not fenced, and no live
restart is under way (07 R256, R265, R275; 18 R674). -/
def upOpen (s : State) : Bool :=
  !s.sys.unassigned && decide (s.link.tile.activeUp < 2) && !fenced s 2 s.link.tile.activeUp && !s.img.pauseAt.isSome

/-- A live restart is under way (18_startup_update R674). -/
def pausing (s : State) : Bool := s.img.pauseAt.isSome

/-- A TILE sends its event upstream, queues it until it holds a credit and may insert it, or drops it (07 R265). -/
def sendUpstream (s : State) (r : EvRec) : State :=
  if s.sys.role ≠ .tile then s
  else if 0 < s.evs.upCredits ∧ s.evs.upstream.isEmpty ∧ upOpen s then
    sendCells { s with evs.upCredits := s.evs.upCredits - 1 } s.link.tile.activeUp (eventCells s r)
  else if s.evs.upstream.length < 64 then { s with evs.upstream := s.evs.upstream ++ [r] }
  else bump s 2 (if s.link.tile.activeUp < 2 then s.link.tile.activeUp else 0) 5

/-- Raise an event that its chapter does not log. EVENT_ENABLE gates delivery only (R511). -/
def raiseQuiet (s : State) (code : Nat) (args : List Byte) : State :=
  if bit (keyU s 0x0003 0 4) (code / 256) then
    let r := evRecords code s.sys.deviceId (timeForm s (sysTicks s)) args
    sendUpstream (deliver s r) r
  else s

/-- Raise an event that its chapter logs. -/
def raise (s : State) (code : Nat) (args : List Byte) : State := raiseQuiet (logAdd s code args) code args

/-- Argument bytes: a list of (width, value). -/
def args (l : List (Nat × Nat)) : List Byte := l.flatMap fun p => leBytes p.1 p.2

/-- End a tag's flight (R495). -/
def dropTag (s : State) (tag : Nat) : State :=
  { s with cmds.inFlight := s.cmds.inFlight.filter fun f => f.tag != tag }

/-- CMD_DONE of an accepted command with a status code: the tag leaves flight and the event is raised (R495, R528). What a
mirror record or a takeover has started has no tag: 4096 stands for it (17 R629, R636). -/
def cmdEnds (s : State) (tag op code : Nat) : State := if 4096 ≤ tag then s else raise (dropTag s tag) 0x0001 (args [(2, tag), (1, code), (1, op)])

/-! ### Device state (13_mailbox R502, R504) -/

/-- The code of a device state. -/
def stateCode : DevState → Nat
  | .reset => 1 | .boot => 1 | .standby => 2 | .ready => 3 | .run => 4 | .hold => 5 | .safe => 6 | .service => 7

/-- At least one fence is in force (14_spillway R539). -/
def degraded (s : State) : Bool := !s.spill.fences.isEmpty

/-- The time of a holdover counts in READY, RUN and HOLD (09_time R337). -/
def counted (st : DevState) : Bool := st == .ready || st == .run || st == .hold

/-- Holdover time counted so far. -/
def holdTime (s : State) : Nat :=
  s.time.holdCounted + (if counted s.sys.st then s.time.loc - s.time.lastCount else 0)

/-- Change the device state: STATE_CHANGED and IRQ_STATUS.STATE (R504). -/
def setState (s : State) (new : DevState) (cause : Nat) : State :=
  if s.sys.st = new then s else
  let s := { s with time.holdCounted := holdTime s, time.lastCount := s.time.loc, loops.epoch := s.loops.epoch + 1 }
  irq (raise { s with sys.st := new } 0x0002 (args [(1, stateCode s.sys.st), (1, stateCode new), (2, cause)])) irqState

/-- An adaptive policy's instance is held by CAPO_SET (13_mailbox R516). -/
def capoHeld (s : State) (policy inst : Nat) : Bool := s.capo.contains (policy, inst)

/-- Emission outputs may be on: both EMIT_EN inputs high, the dies framed and re-enabled, and the device
neither in SAFE nor in reset (01 R23, R24, R38; 11 R435); EXTEST and CLAMP hold the pins in RESET (19 R708). -/
def emissionOn (s : State) : Bool :=
  s.sys.emitEnA && s.sys.emitEnB && s.sys.dieFramed && s.sys.emitEnabled && s.sys.tapInstr != 3 && s.sys.tapInstr != 4 &&
    s.sys.st != .safe && s.sys.st != .reset && s.sys.st != .boot && s.sys.st != .service

/-! ### The running image (18_startup_update R657, R659) -/

/-- Slot `k`: 0 A, 1 B. -/
def imgSlot (s : State) (k : Nat) : ImgSlot := if k = 0 then s.img.a else s.img.b
def setImgSlot (s : State) (k : Nat) (x : ImgSlot) : State :=
  if k = 0 then { s with img.a := x } else { s with img.b := x }

/-- The header of the running image; 0 where no slot runs. -/
def runHdr (s : State) : ImgHdr :=
  match s.img.running with
  | some k => (imgSlot s k).hdr
  | none => ImgHdr.zero

/-! ### DRAM (01_architecture R34) -/

/-- The top of DRAM in bytes; 0 until the DRAM has trained. -/
def dramTop (s : State) : Nat := s.sys.dramMib * 2 ^ 20

/-- A byte of DRAM; a byte that nothing has written reads 0 (DESIGN CHOICE, log 4). -/
def rdByte (s : State) (a : Nat) : Byte := tabGet 0 s.dram a

/-- `n` bytes of DRAM. -/
def rdBytes (s : State) (a n : Nat) : List Byte := tabGetList 0 s.dram a n

/-- A little-endian value of `n` bytes of DRAM. -/
def rdLe (s : State) (a n : Nat) : Nat := leNat (rdBytes s a n)

/-- Write bytes into DRAM. -/
def wrBytes (s : State) (a : Nat) (l : List Byte) : State :=
  { s with
    dram := tabSetList 0 s.dram a l
    cap.altered := s.cap.altered || (decide (a < s.cap.ring + s.cap.ringMib * 2 ^ 20) && decide (s.cap.ring < a + l.length)) }

end Sys2Proof.Machine
end

