-- ==== Sys2Proof/Machine/CalOps.lean ====
section
/-! DEFINITION. Steps of calibration that other events end (16_calibration R610). -/

namespace Sys2Proof.Machine

/-- A domain's rotation. -/
def calDom (s : State) (d : Nat) : CalDom := tabGet CalDom.cold s.cal.doms d
def setCalDom (s : State) (d : Nat) (x : CalDom) : State := { s with cal.doms := tabSet CalDom.cold s.cal.doms d x }

/-- A step of the instance is in progress. -/
def calBusy (s : State) (d inst : Nat) : Bool := s.cal.steps.any fun t => t.dom == d && t.inst == inst

/-- A step leaves: the shadow sink of a group is free again, and gives back the pad it carries at tick 0 of a slot (03 R93); the domain's period runs from now (R607). -/
def calLeave (s : State) (d inst : Nat) : State :=
  let s1 := setCalDom { s with cal.steps := s.cal.steps.filter fun t => !(t.dom == d && t.inst == inst) } d
    { calDom s d with lastEnd := s.time.loc }
  if d = 0 then { s1 with lamps.group := tabUpd Group.cold s1.lamps.group inst fun g => { g with calHeld := false } } else s1

/-- CAL_ABANDONED (R610): causes 1 sink failure, 2 fence, 3 no quiet instant, 4 state change, 5 lock lost, 6 too few
shadow sinks. -/
def calAbandon (s : State) (d inst cause : Nat) : State :=
  if calBusy s d inst then
    raise (bump (calLeave s d inst) 0x0F d 2) 0x0F02 (args [(1, d), (2, inst), (1, cause)])
  else s

/-- Entry to SAFE abandons every step, and shadow sinks hand back at once (R610). -/
def calAbandonAll (s : State) : State :=
  let s1 := s.cal.steps.foldl (fun t x => calAbandon t x.dom x.inst 4) s
  { s1 with lamps.group := tabMap Group.cold (fun g => { g with pad := none }) s1.lamps.group }

/-- The fence unit of an instance (R599, R610): lanes, sink groups, heads, stages and axes. -/
def calUnit (role : Role) (d inst : Nat) : Nat × Nat :=
  match d with
  | 0 => (8, inst)
  | 1 =>
    if inst < 16 then (1, inst)
    else if role = .tile then (8, inst - 16)
    else if inst < 32 then (6, inst - 16)
    else if inst < 44 then (9, inst - 32)
    else (10, inst - 44)
  | 2 => (1, inst)
  | _ => (9, inst)

/-- A fence abandons the steps of its unit (R610). -/
def calFence (s : State) (kind inst : Nat) : State :=
  s.cal.steps.foldl (fun t x => if calUnit t.sys.role x.dom x.inst = (kind, inst) then calAbandon t x.dom x.inst 2 else t) s

/-! ### Working records (R612–R614) -/

/-- A line pair, a lane's slicers. -/
def calLines (s : State) (i : Nat) : DelayPair := tabGet DelayPair.cold s.cal.lines i
def slicerNominal : List (Int × Int) := (List.range 4).map fun k => (0, Config.midLevel k)
def calSlicers (s : State) (l : Nat) : List (Int × Int) :=
  let x := tabGet [] s.cal.slicers l
  if x.isEmpty then slicerNominal else x

/-- Key of a record. -/
def calKey (d inst : Nat) : Nat := d * 4096 + inst

/-- The body of an instance's values, as numbers (R612): words of a SINK record, the bytes of the tables of a DELAY
record after its word, trims and thresholds in turn, the offset. -/
def calBody (s : State) (d inst : Nat) : List Nat :=
  match d with
  | 0 =>
    let sub := tabGet 0 s.nv.subst inst
    let sh := tabGet selNominal s.cal.sel (1536 + inst)
    ((List.range 16).map fun i => tabGet selNominal s.cal.sel (16 * inst + i)) ++
      [if sub = 0 then sh else sh + 2 ^ 28 + (sub - 1) % 16 * 2 ^ 24]
  | 1 =>
    let x := calLines s inst
    b2n x.activeB :: x.a ++ x.b
  | 2 => (calSlicers s inst).flatMap fun p => [uns 8 p.1, uns 16 p.2]
  | 15 => [s.cal.sref]
  | _ => [uns 32 (tabGet 0 s.cal.adc inst)]

/-- The bytes of a body. -/
def calBodyBytes (d : Nat) (body : List Nat) : List Byte :=
  match d with
  | 1 => leBytes 4 (body.headD 0) ++ body.tail.map b8
  | 2 => (List.range 4).flatMap fun k => [b8 (body.getD (2 * k) 0), 0] ++ leBytes 2 (body.getD (2 * k + 1) 0)
  | _ => body.flatMap (leBytes 4)

/-- A whole record (R612). -/
def calRecBytes (d inst seq : Nat) (body : List Nat) : List Byte :=
  let front := leBytes 4 (d * 2 ^ 24 + 2 ^ 16 + inst) ++ leBytes 4 seq ++ calBodyBytes d body
  front ++ leBytes 4 (crc32 front)

/-- Write an instance's record in place, SEQ increased by 1 (R613). -/
def calWrite (s : State) (d inst : Nat) : State :=
  let body := calBody s d inst
  let seq := (match tabGet none s.nv.cal (calKey d inst) with
    | some r => r.seq
    | none => 0) + 1
  let s1 := { s with nv.cal := tabSet none s.nv.cal (calKey d inst) (some ⟨seq, body⟩) }
  bump (emit s1 (.record 1 (calKey d inst) (calRecBytes d inst seq body))) 0x0F (if d = 15 then 0 else d) 3

end Sys2Proof.Machine
end

