-- ==== Sys2Proof/Machine/CaptureOps.lean ====
section
/-! DEFINITION. Writing records into the capture ring (14_spillway R555, R557). -/

namespace Sys2Proof.Machine

/-- Bytes of the capture ring: RING_MIB of DRAM, or the TILE's on-chip ring (01 R29). -/
def capSize (s : State) : Nat := if s.sys.role = .tile then 245760 else s.cap.ringMib * 2 ^ 20

/-- Records are written now: the capture runs. -/
def capRuns (s : State) : Bool := s.cap.state == 2 || s.cap.state == 3

/-- Put bytes into the ring from an offset, wrapping at its end. -/
def capPut (s : State) : Nat → List Byte → State
  | _, [] => s
  | off, b :: r =>
    let o := off % capSize s
    let s1 := if s.sys.role = .tile then { s with cap.onChip := tabSet 0 s.cap.onChip o b }
      else { s with dram := tabSet 0 s.dram (s.cap.ring + o) b }
    capPut s1 (o + 1) r

/-- The bytes of a record: 16-byte header and the body padded to a multiple of 8 (R555). -/
def capBytes (type subtick inst flags loc : Nat) (body : List Byte) : List Byte :=
  let pad := body ++ List.replicate ((8 - body.length % 8) % 8) (b8 0)
  [b8 type, b8 subtick] ++ leBytes 2 inst ++ leBytes 3 (16 + pad.length) ++ [b8 flags] ++ leBytes 8 loc ++ pad

/-- Bytes kept free for the END record that closes a capture (DESIGN CHOICE, log 9). -/
def capReserve : Nat := 24

/-- A ring without WRAP has no room for `n` more bytes. -/
def capFull (s : State) (n : Nat) : Bool := !s.cap.wrap && decide (capSize s < s.cap.writeOff + n + capReserve)

/-- Append a record's bytes; what does not fit a ring without WRAP is not written. -/
def capAppend (s : State) (l : List Byte) : State :=
  let s1 := capPut s s.cap.writeOff l
  let off := s.cap.writeOff + l.length
  { s1 with
    cap.writeOff := off % capSize s
    cap.wrapped := s.cap.wrapped || decide (capSize s ≤ off)
    cap.bytes := (s.cap.bytes + l.length) % 2 ^ 64 }

/-- Write a record stamped now while the capture runs. -/
def capRec (s : State) (type inst flags : Nat) (body : List Byte) : State :=
  if capRuns s then
    let l := capBytes type 0 inst flags s.time.loc body
    if s.cap.full || capFull s l.length then { s with cap.full := true } else capAppend s l
  else s

/-- Write a signature record (R556): kind, the unit as INSTANCE, the index of its interval, CRC. -/
def capSignature (s : State) (kind inst index crc : Nat) : State :=
  capRec s 0x0C inst 0 (leBytes 4 kind ++ leBytes 4 index ++ leBytes 4 crc)

/-- Write a CELL record: a SYNC or MGMT cell consumed, with its port and arrival stamp (R555). -/
def capCell (s : State) (port stamp : Nat) (cell : List Byte) : State :=
  capRec s 0x03 port 0 (leBytes 4 port ++ leBytes 8 stamp ++ cell)

/-- Write a HEAD_UP record of a head that HEAD_MASK asks for, 0 being all (R553, R555). -/
def capHead (s : State) (h flags : Nat) (body : List Byte) : State :=
  if s.cap.headMask = 0 ∨ bit s.cap.headMask h then capRec s 0x06 h flags body else s

/-- Write a MARK record for a window (09_time R348). -/
def capMark (s : State) (window : Nat) : State := capRec s 0x0E window 0 (leBytes 4 window)

end Sys2Proof.Machine
end

