-- ==== Sys2Proof/Machine/Trace.lean ====
section
/-! DEFINITION. The trace unit's trigger and recording (12_loops R473–R476). -/

namespace Sys2Proof.Machine

/-- A trace channel. -/
def tchan (s : State) (c : Nat) : TraceChan := tabGet TraceChan.cold s.trace.chans c
def setTchan (s : State) (c : Nat) (x : TraceChan) : State :=
  { s with trace.chans := tabSet TraceChan.cold s.trace.chans c x }

/-- Whether the argument of a trigger is the one asked for (R474). -/
def traceArgOk (src want got : Nat) : Bool :=
  match src with
  | 2 => want % 64 == got
  | 3 => want % 32 == got
  | 4 => want % 32 == got
  | 5 => want / 2 ^ 28 == got / 2 ^ 28 && want % 2 ^ 24 == got % 2 ^ 24
  | _ => true

/-- At the trigger a channel keeps its last PRE samples (R473). -/
def traceTrim (pre : Nat) (x : TraceChan) : TraceChan :=
  { x with samples := lastN pre x.samples, before := min pre x.before }

/-- Every enabled channel has stopped: TRACE_DONE (R473). -/
def traceDone (s : State) : State :=
  if s.trace.st = 2 ∧ (List.range 8).all (fun c => !(tchan s c).enable || decide (16384 - s.trace.pre ≤ (tchan s c).after)) then
    raise { s with trace.st := 3 } 0x0C05 (args [(4, s.trace.firedBy), (8, shortForm s.trace.firedSys)])
  else s

/-- Take the trigger of an armed unit; a second one is ignored (R473). -/
def traceFire (s : State) (src : Nat) : State :=
  if s.trace.st ≠ 1 then s else
  traceDone { s with
    trace.st := 2
    trace.firedBy := src
    trace.firedLocal := s.time.loc
    trace.firedSys := sysTicks s
    trace.chans := s.trace.chans.map fun p => (p.1, traceTrim s.trace.pre p.2) }

/-- A trigger source acts (R474). -/
def traceTrigger (s : State) (src arg : Nat) : State :=
  if s.trace.trigSrc = src ∧ traceArgOk src s.trace.trigArg arg then traceFire s src else s

/-- One update of a slot, seen by a channel: every DECIM-th is recorded. -/
def traceSample (s : State) (c : Nat) (v : Nat) : State :=
  let x := tchan s c
  let x1 := { x with phase := (x.phase + 1) % max 1 x.decim }
  if x.phase ≠ 0 then setTchan s c x1
  else if s.trace.st = 1 then
    setTchan s c { x1 with samples := lastN 16384 (x.samples ++ [v]), before := min 16384 (x.before + 1) }
  else if s.trace.st = 2 ∧ x.after < 16384 - s.trace.pre then
    setTchan s c { x1 with samples := lastN 16384 (x.samples ++ [v]), after := x.after + 1 }
  else setTchan s c x1

/-- Record an update of slot `slot`, whose nodes are `node 0 … node 8` (R473, R474). -/
def traceUpdate (s : State) (slot : Nat) (node : Nat → Int) : State :=
  if s.trace.st = 1 ∨ s.trace.st = 2 then
    traceDone ((List.range 8).foldl (fun t c =>
      let x := tchan t c
      if x.enable && x.slot == slot then traceSample t c (uns 32 (node x.node)) else t) s)
  else s

end Sys2Proof.Machine
end

