-- ==== Sys2Proof/Machine/TimeStep.lean ====
section
/-! DEFINITION. Steps of SYSTEM time and the time windows they carry along (09_time R326, R327, R347–R349). -/

namespace Sys2Proof.Machine

/-- SYSTEM time in ticks as an integer. -/
def nowSys (s : State) : Int := (sysTicks s : Int)

/-! ### Windows (R347–R349) -/

/-- Window `i`. -/
def window (s : State) (i : Nat) : Window := tabGet Window.cold s.time.windows i
def setWindow (s : State) (i : Nat) (w : Window) : State :=
  { s with time.windows := tabSet Window.cold s.time.windows i w }

/-- The present value of a window's domain: 0 SYSTEM, 1 LOCAL, 2 PROCESS. -/
def domainNow (s : State) (d : Nat) : Int :=
  match d with
  | 0 => nowSys s
  | 1 => (s.time.loc : Int)
  | _ => (s.time.process : Int)

/-- A window's domain moves: PROCESS time stands still while stopped (R349). -/
def domainRuns (s : State) (d : Nat) : Bool := d != 2 || s.time.processRun

/-- FSYNC_OUT: the OR of all open windows with FSYNC (R349). -/
def fsyncOut (s : State) : Bool := (List.range 16).any fun i => (window s i).isOpen && (window s i).fsync

/-- The end of the instance that is open or opens next. -/
def instanceEnd (w : Window) : Int := w.next + (w.stop - w.start)

/-- The window after its present instance: the next one, or none. -/
def afterInstance (w : Window) : Window :=
  if w.period = 0 then { w with isOpen := false, enable := false } else { w with isOpen := false, next := w.next + w.period }

/-- An instance closes (R348). -/
def closeWindow (s : State) (i : Nat) : State :=
  let w := window s i
  let s1 := setWindow s i (afterInstance w)
  if w.evClose then raiseQuiet s1 0x030B (args [(4, i)]) else s1

/-- An instance opens and performs its actions (R348). -/
def openWindow (s : State) (i : Nat) : State :=
  let w := window s i
  let s1 := setWindow s i { w with isOpen := true }
  let s2 := if w.evOpen then raiseQuiet s1 0x030A (args [(4, i), (8, uns 48 w.next)]) else s1
  let s3 := if w.mark then capMark s2 i else s2
  if w.trace then traceTrigger s3 1 0 else s3

/-- Instances whose end the domain has passed without being open are not acted on (R349). -/
def skipInstances (now : Int) (w : Window) : Window :=
  if w.isOpen ∨ now < instanceEnd w then w
  else if w.period = 0 then { w with enable := false }
  else { w with next := w.next + ((now - instanceEnd w) / w.period + 1) * w.period }

/-- The window closes now. -/
def closesNow (s : State) (i : Nat) : Bool :=
  let w := window s i
  w.enable && w.isOpen && domainRuns s w.domain && decide (instanceEnd w ≤ domainNow s w.domain)

/-- The window opens now. -/
def opensNow (s : State) (i : Nat) : Bool :=
  let w := window s i
  w.enable && !w.isOpen && domainRuns s w.domain && decide (w.next ≤ domainNow s w.domain) &&
    decide (domainNow s w.domain < instanceEnd w)

/-- Skip past instances of one window. -/
def skipWindow (s : State) (i : Nat) : State :=
  let w := window s i
  if w.enable && domainRuns s w.domain then setWindow s i (skipInstances (domainNow s w.domain) w) else s

/-- FSYNC_OUT follows where the OR changes: no gap when windows abut (R349). -/
def driveFsync (before : Bool) (s : State) : State :=
  if fsyncOut s = before then s else emit s (.pin 2 (b2n (fsyncOut s)))

/-- Every closing action, then every opening action, in ascending window number (R349). -/
def windowsAct (s : State) : State :=
  let s1 := (List.range 16).foldl (fun t i => if closesNow t i then closeWindow t i else t) s
  let s2 := (List.range 16).foldl skipWindow s1
  driveFsync (fsyncOut s) ((List.range 16).foldl (fun t i => if opensNow t i then openWindow t i else t) s2)

/-! ### Steps (R326, R327) -/

/-- A step of SYSTEM time by `e`, 1/256 tick: the whole error in one cycle, TIME_STEPPED, and what it does
to SYSTEM windows (R326, R349). -/
def stepSystem (s : State) (e : Int) : State :=
  let t := uns 128 ((s.time.sys : Int) + e * 2 ^ 24)
  -- A SENDER's outputs complete their active areas in the new count and then take its grid (06 R210).
  let s1 := { s with
    time.sys := t, time.stepSum := s.time.stepSum + e * 2 ^ 24, time.stepFlagUntil := s.time.loc + secTicks
    send.outs := s.send.outs.map fun p =>
      (p.1, if p.2.started then { p.2 with start := p.2.start + Int.tdiv e 256, resync := true, flips := [] } else p.2) }
  windowsAct (raise (bump s1 3 0 7) 0x0303 (args [(8, uns 64 (Int.tdiv e 256)), (8, shortForm (t / 2 ^ 32))]))

/-- Apply a TILE's pending step: stored flip times and the present grid are translated (R327). -/
def applyPendStep (s : State) : State :=
  match s.time.pendStep with
  | none => s
  | some e =>
    let d := Int.tdiv e 256
    let s1 := { s with
      time.pendStep := none
      time.nextFlipUntested := true
      tl.flips := s.tl.flips.map fun f => { f with at_ := f.at_ + d }
      tl.lastFlip := s.tl.lastFlip.map fun f => { f with at_ := f.at_ + d }
      tl.start := s.tl.start + d
      tl.slot := s.tl.slot.map fun x => { x with start := x.start + d }
      fret.lastTransfer := s.fret.lastTransfer.map fun x => x + d }
    stepSystem s1 e

end Sys2Proof.Machine
end

