-- ==== Sys2Proof/Machine/TileStop.lean ====
section
/-! DEFINITION. What a TILE stops on leaving its displaying states (02 R78, R81; 03 R114; 04 R149). -/

namespace Sys2Proof.Machine

/-! ### Switching stages -/

/-- A switching stage. -/
def stage (s : State) (n : Nat) : Stage := tabGet Stage.cold s.lamps.stage n
def setStage (s : State) (n : Nat) (x : Stage) : State := { s with lamps.stage := tabSet Stage.cold s.lamps.stage n x }

/-- Switch a stage off (R114, R115). -/
def stopStage (s : State) (n : Nat) : State := setStage s n { stage s n with mode := 0, code := 0, limAt := none }

/-- Every stage switched off. -/
def stopStages (s : State) : State := (List.range 12).foldl stopStage s

/-- A stage feeds a rail, and that rail's colour and zone (R106). -/
def stageOn (s : State) (n : Nat) : Bool := bit (keyU s 0x0501 n 1) 7
def stageColour (s : State) (n : Nat) : Nat := keyU s 0x0501 n 1 % 4
def stageZone (s : State) (n : Nat) : Nat := keyU s 0x0501 n 1 / 4 % 4
def stagesOn (s : State) : List Nat := (List.range 12).filter (stageOn s)

/-- The colour and the zone of a sink group; colour 3 is unused (R89, R90). -/
def groupColour (s : State) (g : Nat) : Nat := keyU s 0x0500 g 1 % 4
def groupZone (s : State) (g : Nat) : Nat := keyU s 0x0500 g 1 / 4 % 4

/-- The stage of a group's rail. -/
def groupStage (s : State) (g : Nat) : Option Nat :=
  (stagesOn s).find? fun n => stageColour s n == groupColour s g && stageZone s n == groupZone s g

/-! ### The scan control port (R97–R101) -/

/-- The port runs: the emitter die drives it (01_architecture R23; 18 R653; 19 R708). -/
def scanOn (s : State) : Bool :=
  s.sys.role == .tile && s.sys.dieFramed && s.sys.emitEnabled && s.sys.tapInstr != 3 && s.sys.tapInstr != 4 &&
    s.sys.st != .reset && s.sys.st != .boot

/-- The pin level of output `n` (0 CLK, 1 DATA, 2 LATCH, 3 OE) for an active or inactive output (R100). -/
def scanLevel (s : State) (n : Nat) (active : Bool) : Bool := active != bit (keyU s 0x0508 0 1) n

/-- Drive output `n` of all three groups, which carry the same (R100). -/
def driveScan (s : State) (n : Nat) (active : Bool) (at_ : Int) : State :=
  emits s ((List.range 3).map fun g => Out.scan g n (scanLevel s n active) at_)

/-- With one scan line, OE is held active, or let go (R101). -/
def holdOe (s : State) (on : Bool) : State :=
  if s.lamps.oeHeld = on then s else driveScan { s with lamps.oeHeld := on } 3 on (nowSys s)

/-- Every scan output is driven low: the port stops (01 R23; for the end of the timeline, log 62). -/
def scanLow (s : State) : State :=
  let s1 := emits { s with lamps.oeHeld := false }
    ((List.range 3).flatMap fun g => (List.range 4).map fun n => Out.scan g n false (nowSys s))
  match s.tl.slot with
  | some sl => if sl.scanStop.isSome then s1 else
      { s1 with tl.slot := some { sl with scanStop := some (nowSys s - sl.start).toNat } }
  | none => s1

/-! ### The running slot and the timeline -/

/-- Emission is removed within the running slot (R81; 01_architecture R23, R24, R38). -/
def darkenSlot (s : State) : State :=
  let s1 := holdOe s false
  match s1.tl.slot with
  | some sl => if sl.stop.isSome then s1 else
      { s1 with tl.slot := some { sl with stop := some (nowSys s - sl.start).toNat } }
  | none => s1

/-- Sink groups go high-impedance within the running slot (R96, R115). -/
def cutGroups (s : State) (gs : List Nat) : State :=
  match s.tl.slot with
  | some sl =>
    let x := (nowSys s - sl.start).toNat
    let new := gs.filter fun g => !sl.cuts.any fun p => p.1 == g
    { s with tl.slot := some { sl with cuts := sl.cuts ++ new.map fun g => (g, x) } }
  | none => s

/-- The groups that a stage's rail feeds. -/
def railGroups (s : State) (n : Nat) : List Nat := (List.range 96).filter fun g => groupStage s g == some n

/-- The timeline stops in STANDBY, SAFE and SERVICE (R78): the frame in progress writes no signature, and the interval
test of R51 begins anew (DESIGN CHOICE, logs 51 and 53). Frame keys taken for a frame that does not come wait again. -/
def timelineStop (s : State) : State :=
  let s1 := darkenSlot s
  let s2 := if s1.tl.active && scanOn s1 then scanLow s1 else s1
  { s2 with tl.flips := [], tl.active := false, tl.waiting := false, tl.decided := none, tl.ready := none, tl.recs := []
            link.tile.replied := none, link.tile.rxStale := false, tl.rx := Rx.cold, tl.emitting := false, tl.decisions := [], tl.lastFlip := none, tl.early := []
            keys.pendFrame := s2.keys.frameDue ++ s2.keys.pendFrame, keys.frameDue := [] }

/-! ### Fretboard commits -/

/-- The copies exchange roles and the copy begins (R149): the commit has taken effect, and no load stands since (R155, R165). -/
def fbExchange (s : State) (frame : Nat) : State :=
  bump { s with fret.active := 1 - s.fret.active, fret.copying := some frame, fret.loadSince := false } 6 0 0

/-- A commit still pending at entry to STANDBY or SAFE takes effect there (R149). -/
def fretEntry (s : State) : State :=
  match s.fret.commit with
  | some _ => if s.fret.copying.isNone then fbExchange s 0xFFFF else s
  | none => s

/-- Entry of a TILE to STANDBY, SAFE or SERVICE: sinks off, no flips, stages off, a pending step of
SYSTEM time applied (02 R78; 03 R114; 09_time R327). -/
def tileStop (s : State) : State := applyPendStep (stopStages (timelineStop s))

end Sys2Proof.Machine
end

