-- ==== Sys2Proof/Machine/LaneOps.lean ====
section
/-! DEFINITION. Lanes, Wotor ports and source ports: their functions by role, powering, training, locking and
unlocking, as fences and every chapter use them (08_lanes; 07_cascade_link). -/

namespace Sys2Proof.Machine

/-! ### The link's tables -/

/-- Cascade `n`, and the topology entry of a position. -/
def casc (s : State) (n : Nat) : Cascade := tabGet Cascade.cold s.link.casc n
def setCasc (s : State) (n : Nat) (c : Cascade) : State :=
  { s with link.casc := tabSet Cascade.cold s.link.casc n c }
def topo (s : State) (n pos : Nat) : TopoEntry := tabGet TopoEntry.cold (casc s n).entries pos
def setTopo (s : State) (n pos : Nat) (e : TopoEntry) : State :=
  setCasc s n { casc s n with entries := tabSet TopoEntry.cold (casc s n).entries pos e }

/-- A Wotor port of the link. -/
def wport (s : State) (p : Nat) : WPort := tabGet WPort.cold s.link.ports p
def setWport (s : State) (p : Nat) (w : WPort) : State :=
  { s with link.ports := tabSet WPort.cold s.link.ports p w }

/-- A port is locked (07 R233). -/
def portLocked (s : State) (p : Nat) : Bool := (wport s p).lockedAt.isSome

/-- MODE, RETURN_OF and WIDTH of a cascade port (07 R276). -/
def portMode (s : State) (p : Nat) : Nat := keyU s 0x0201 p 1 % 4
def returnOf (s : State) (p : Nat) : Nat := bits (keyU s 0x0201 p 1) 2 3
def bundleWidth (s : State) (p : Nat) : Nat :=
  match bits (keyU s 0x0201 p 1) 5 2 with
  | 0 => 1
  | 1 => 2
  | _ => 4

/-- Ports of a role: 0 and 1 in TILE role, 0 to 7 in SENDER role, 15 in BED role. -/
def portExists (s : State) (p : Nat) : Bool :=
  match s.sys.role with
  | .tile => decide (p < 2)
  | .sender => decide (p < 8)
  | .bed => p == 15
  | .factory => false

/-- The ports of the bundle that begins at `first` (07 R272). -/
def bundlePorts (s : State) (first : Nat) : List Nat := (List.range (bundleWidth s first)).map (first + ·)

/-- The first port of a port's bundle. -/
def bundleFirst (s : State) (p : Nat) : Nat := p / bundleWidth s p * bundleWidth s p

/-- The peer link that begins at port `p` carries traffic: its lanes are locked, and a bundle of several is up (07 R273). -/
def linkOk (s : State) (p : Nat) : Bool := (bundlePorts s p).all (portLocked s) && (bundleWidth s p == 1 || (wport s p).bundleUp)

/-- The SOURCE of a cell on a peer port names the SENDER behind the link (07 R250, R261). -/
def learnPeer (s : State) (p src : Nat) : State :=
  if portMode s p = 3 then setWport s (bundleFirst s p) { wport s (bundleFirst s p) with peer := some (src % 0x4000) } else s

/-- A codeword period in 1/100 tick by rate code (07 R230). -/
def codeword100 (rate : Nat) : Nat :=
  match rate with
  | 0 => 102400
  | 1 => 204800
  | _ => 527515

/-! ### Lanes -/

/-- The lane of a Wotor port: TILE A 0 and B 1, SENDER cascade ports from lane 8, BED lane 15 (01 R42). -/
def portLane (s : State) (p : Nat) : Nat :=
  match s.sys.role with
  | .tile => p
  | .sender => 8 + p
  | _ => 15

/-- A lane of the block. -/
def lane (s : State) (l : Nat) : Lane := tabGet Lane.cold s.lanes.lane l
def setLane (s : State) (l : Nat) (x : Lane) : State := { s with lanes.lane := tabSet Lane.cold s.lanes.lane l x }

/-- A source port; it is enabled and not fenced. -/
def srcPort (s : State) (p : Nat) : SrcPort := tabGet SrcPort.cold s.lanes.src p
def setSrcPort (s : State) (p : Nat) (x : SrcPort) : State := { s with lanes.src := tabSet SrcPort.cold s.lanes.src p x }
def portOn (s : State) (p : Nat) : Bool := s.sys.role == .sender && keyU s 0x0100 p 1 != 0 && !fenced s 3 p

/-- What a lane does in the role (01 R42; 08 R301): nothing, a Wotor port, a source port or a head port. -/
inductive LaneUse where
  | none | wotor (port : Nat) | source (port : Nat) | head (port : Nat)
deriving DecidableEq, Repr

/-- BED lane 15 is the peer link while PAIR_MODE is 1 (01 R42; 17 R619). -/
def peerLane (s : State) : Bool := s.sys.role == .bed && keyU s 0x0F80 0 1 == 1

/-- The function of a lane. -/
def laneUse (s : State) (l : Nat) : LaneUse :=
  match s.sys.role with
  | .tile => if l < 2 then .wotor l else .none
  | .sender =>
    if l < 8 then
      let m := keyU s 0x0100 (l / 2) 1
      if m ≠ 0 ∧ (l % 2 = 0 ∨ m ≤ 3) then .source (l / 2) else .none
    else if l < 16 ∧ portMode s (l - 8) ≠ 0 then .wotor (l - 8) else .none
  | .bed => if l = 15 ∧ peerLane s then .wotor 15 else if l < 16 then .head l else .none
  | .factory => .none

/-- A lane's mode by configuration (R280, R281); a TILE's lanes run in the mode port A searches (R282). -/
def laneModeOf (s : State) (l : Nat) : Nat :=
  match s.sys.role with
  | .tile => (lane s 0).mode
  | .sender => if l < 8 then 0 else keyU s 0x0202 (l - 8) 1
  | _ => 2

/-- A lane of a peer bundle always aligns by markers (R298; 07 R273). -/
def bundleLane (s : State) (l : Nat) : Bool :=
  match laneUse s l with
  | .wotor p => s.sys.role == .sender && portMode s p == 3 && decide (1 < bundleWidth s p)
  | _ => false

/-- The lane trains when it comes up (R285, R301; 11 R407). -/
def laneTrains (s : State) (l : Nat) : Bool :=
  match laneUse s l with
  | .wotor _ => true
  | .source p => keyU s 0x0100 p 1 != 3
  | .head h => keyU s 0x0B01 h 1 == 1
  | .none => false

/-- The effective EQ_TARGET of a lane, mV (R286; 15 R594). -/
def eqTarget (s : State) (l : Nat) : Nat := min 100 (keyU s 0x0115 0 1 + tabGet 0 s.th.age.laneInc l)

/-- Link training begins, with the effective EQ_TARGET of this instant (R286); CAPO_DRIFT is cleared (R285, R294). Lanes that do not train acquire lock at once, and
send with c(0) at its largest code, 127 of a signed byte, and the other taps at 0 (11 R407; DEDUCED, log 73). -/
def startTraining (s : State) (l : Nat) (mark : Bool) : State :=
  let x := lane s l
  setLane s l { x with
    st := if laneTrains s l then 2 else 3
    txffe := if laneTrains s l then x.txffe else [0, 0, 127, 0]
    mode := laneModeOf s l, eqGoal := eqTarget s l, driftHold := false, markReq := mark, markMode := mark, trainAt := s.time.loc, dwellAt := s.time.loc
    found := false, verify := false, hits := [], attempts := 0, research := false, cleanRun := 0, uncorrRun := 0 }

/-- A lane is powered up: it waits for signal, which it lacks until it sees some (R295; log 22). -/
def powerLane (s : State) (l : Nat) : State :=
  if (lane s l).st ≠ 0 ∨ fenced s 1 l ∨ laneUse s l = .none then s else
  setLane s l { lane s l with st := 1, los := true, mode := laneModeOf s l, failRun := 0, failSince := none }

/-- A Wotor port is no longer locked (07 R233); the outstanding DELAY request and the cells that wait are lost, and what
the far end has asked for ends (08 R285). -/
def unlockPort (s : State) (p : Nat) : State :=
  { setLane (setWport s p { wport s p with lockedAt := none, marks := [], peer := none }) (portLane s p)
      { lane s (portLane s p) with markTx := false } with
    time.delays := tabUpd DelayPort.cold s.time.delays p fun d => { d with sent := none }
    wire := tabSet TxPort.cold s.wire p TxPort.cold }

/-- What ends with a lane's lock: its port's lock, and a scan, which aborts (R233, R311). -/
def endLock (s0 : State) (l : Nat) : State :=
  let s := calAbandon { s0 with cal.lockAt := tabSet 0 s0.cal.lockAt l 0 } 2 l 5
  let s1 := { s with lanes.scans := tabUpd EyeScan.cold s.lanes.scans l fun e => if e.running then { e with aborted := true } else e }
  match laneUse s1 l with
  | .wotor p => unlockPort s1 p
  | _ => s1

/-- A locked lane loses lock: LOCK_LOSS and LANE_LOST (R299, R306, R315). -/
def loseLock (s : State) (l cause : Nat) : State :=
  let x := lane s l
  if x.st ≠ 5 then s else
  let keep := (x.losses.filter fun t => decide (s.time.loc < t + 60 * secTicks)) ++ [s.time.loc]
  endLock (raise (bump (setLane s l { x with st := 3, losses := keep, found := false, verify := false, attempts := 0 }) 1 l 2) 0x0102
    (args [(4, l), (4, cause)])) l

/-- A lane becomes locked: LANE_LOCKED (R233, R315). -/
def gainLock (s : State) (l : Nat) : State :=
  let x := lane s l
  let y := { x with
    st := 5, research := false, lastMark := x.markMode, lockMode := x.mode, fallbackRaised := false, uncorrRun := 0, secStart := s.time.loc, uncorr := 0 }
  raise (setLane { s with cal.lockAt := tabSet 0 s.cal.lockAt l (s.time.loc + 1) } l y)
    0x0101 (args [(4, l), (4, x.mode), (4, b2n x.preTx), (4, b2n x.preRx), (4, b2n x.markMode)])

/-- One codeword of a lane by its FEC result: 0 clean, 1 corrected, 2 uncorrectable (R233, R306, R316).
Before alignment is found the decoder tells nothing. -/
def laneCodeword (s : State) (l fec : Nat) : State :=
  let x := lane s l
  if x.st ≠ 5 ∧ x.found = false then s else
  let new := decide (x.secStart + secTicks ≤ s.time.loc)
  let n := if new then 0 else x.uncorr
  let x1 := { x with secStart := if new then s.time.loc else x.secStart }
  if fec = 2 then
    setLane (bump s 1 l 1) l { x1 with uncorr := n + 1, uncorrRun := x.uncorrRun + 1, cleanRun := 0 }
  else
    setLane (if fec = 1 then bump s 1 l 0 else s) l { x1 with uncorr := n, uncorrRun := 0, cleanRun := x.cleanRun + 1 }

/-- A lane becomes electrically idle (R306; 07 R257): it holds no lock and searches no more. -/
def idleLane (s : State) (l : Nat) : State :=
  endLock (setLane s l { lane s l with st := 0, los := false, loop := 0, pattern := 0, found := false, verify := false, research := false }) l

/-- The PTP state of a source port (09_time R342). -/
def ptp (s : State) (p : Nat) : PtpPort := tabGet PtpPort.cold s.time.ports p
def setPtp (s : State) (p : Nat) (x : PtpPort) : State :=
  { s with time.ports := tabSet PtpPort.cold s.time.ports p x }

/-- PORT_TIME_UNLOCKED (09_time R342): cause 0 offset, 1 Announce timeout, 2 port down (R354). -/
def portUnlock (s : State) (p cause : Nat) : State :=
  if (ptp s p).locked then
    raise (setPtp s p { ptp s p with locked := false, goodRun := 0, badRun := 0 }) 0x0309 (args [(4, p), (4, cause)])
  else s

/-- A source port goes down: SOURCE_PORT_DOWN (R304; cause 0 lock, 1 fence, 2 LANE fence), and its PTP unlocks (09_time R342). -/
def downSource (s : State) (p cause : Nat) : State :=
  let x := srcPort s p
  if x.up = false then s else
  portUnlock (raise (setSrcPort s p { x with up := false, downAt := s.time.loc, recorded := cause != 0 }) 0x0107
    (args [(4, p), (4, cause)])) p 2

/-- A fenced lane is electrically idle and takes part in no function; a source port goes down with it (R306). -/
def fenceLane (s : State) (l : Nat) : State :=
  let s1 := idleLane s l
  match laneUse s l with
  | .source p => downSource s1 p 2
  | _ => s1

/-- The lanes of a source port (R301). -/
def sourceLanes (s : State) (p : Nat) : List Nat := [2 * p, 2 * p + 1].filter fun l => decide (laneUse s l = .source p)

/-- The fence of a source port holds it down (R304). -/
def fenceSource (s : State) (p : Nat) : State := downSource ((sourceLanes s p).foldl idleLane s) p 1

end Sys2Proof.Machine
end

