-- ==== Sys2Proof/Machine/Motion.lean ====
section
/-! DEFINITION. The arithmetic of jets: lengths and durations, the binary64 jump profile, interpolation,
the field-correction grid and turns of direction (10_jets_motion R368–R374, R384). -/

namespace Sys2Proof.Machine

/-- Integer square root, for numbers below 2¹⁶⁰. -/
def isqrt (n : Nat) : Nat := searchLe (fun q => decide (q * q ≤ n)) 80 0

/-! ### IEEE 754 binary64 on exact rationals (R370); no value of a profile leaves its normal range -/

/-- Round a quotient to nearest, ties to even. -/
def roundEven (n d : Nat) : Nat :=
  let q := n / d
  let r := n % d
  if 2 * r < d then q else if 2 * r = d then q + q % 2 else q + 1

/-- The power of two that puts a positive quotient into [2⁵², 2⁵³). -/
def binShift (n d : Nat) : Int :=
  let j : Int := 52 - (Nat.log2 n : Int) + Nat.log2 d
  if n * 2 ^ j.toNat < 2 ^ 52 * (d * 2 ^ (-j).toNat) then j + 1 else j

/-- A number scaled by a power of two. -/
def scaleBy (q : Rat) (j : Int) : Rat := q * mkRat (2 ^ j.toNat) (2 ^ (-j).toNat)

/-- The binary64 value nearest to a rational. -/
def fl (q : Rat) : Rat :=
  if q.num = 0 then 0 else
  let j := binShift q.num.natAbs q.den
  let m := roundEven (q.num.natAbs * 2 ^ j.toNat) (q.den * 2 ^ (-j).toNat)
  scaleBy (mkRat (q.num.sign * m) 1) (-j)

/-- binary64 operations, each correctly rounded. -/
def fAdd (a b : Rat) : Rat := fl (a + b)
def fMul (a b : Rat) : Rat := fl (a * b)
def fDiv (a b : Rat) : Rat := if b = 0 then 0 else fl (a / b)

/-- The `k`-th root of a positive rational, correctly rounded to 53 bits; for `k = 3` PRESUMED (log 28). -/
def fRoot (k : Nat) (q : Rat) : Rat :=
  if q.num ≤ 0 then 0 else
  let e : Int := (Nat.log2 q.num.natAbs : Int) - Nat.log2 q.den
  let j : Int := 53 - e / k
  let x := scaleBy q (j * k)
  let m := searchLe (fun r => decide ((r ^ k : Rat) ≤ x)) 56 0
  -- `m` has 53 or 54 bits and a fraction behind it: round with a sticky bit.
  fl (scaleBy (if (m ^ k : Rat) = x then mkRat m 1 else mkRat (4 * m + 1) 4) (-j))
def fSqrt (q : Rat) : Rat := fRoot 2 q
def fCbrt (q : Rat) : Rat := fRoot 3 q

/-- Round a rational to nearest, ties away from zero. -/
def ratRound (q : Rat) : Int := rdiv q.num q.den

/-! ### The jump profile (R370) -/

/-- A rest-to-rest profile: distance, peak speed, peak acceleration, jerk (none for a trapezoid), distance of the
acceleration, and time. -/
structure Profile where
  d : Rat
  v : Rat
  a1 : Rat
  j : Option Rat
  dacc : Rat
  t : Rat

/-- The S-curve of R370, in the order written. -/
def sCurve (v a j d : Rat) : Profile :=
  let a1 := min a (fSqrt (fMul v j))
  let dacc := fDiv (fMul v (fAdd (fDiv v a1) (fDiv a1 j))) 2
  let p : Rat × Rat × Rat :=
    if 2 * dacc > d then
      let v1 := fCbrt (fDiv (fMul (fMul d d) j) 4)
      let v2 := if v1 > fDiv (fMul a a) j then
          fDiv (fAdd (fDiv (fMul (-a) a) j)
            (fSqrt (fAdd (fDiv (fMul (fMul (fMul a a) a) a) (fMul j j)) (fMul (fMul 4 a) d)))) 2
        else v1
      (v2, min a (fSqrt (fMul v2 j)), fDiv d 2)
    else (v, a1, dacc)
  let v := p.1
  let a1 := p.2.1
  let dacc := p.2.2
  let t := fAdd (fMul 2 (fAdd (fDiv v a1) (fDiv a1 j))) (fDiv (fAdd d (-(fMul 2 dacc))) v)
  { d := d, v := v, a1 := a1, j := some j, dacc := dacc, t := t }

/-- The trapezoid of R399: the terms in j vanish. -/
def trapezoid (v a d : Rat) : Profile :=
  let dacc := fDiv (fMul v (fDiv v a)) 2
  let p : Rat × Rat := if 2 * dacc > d then (fSqrt (fMul a d), fDiv d 2) else (v, dacc)
  { d := d, v := p.1, a1 := a, j := none, dacc := p.2
    t := fAdd (fMul 2 (fDiv p.1 a)) (fDiv (fAdd d (-(fMul 2 p.2))) p.1) }

/-- Distance in the acceleration after `t` seconds; its two jerk phases are symmetric. -/
def accDist (p : Profile) (t : Rat) : Rat :=
  match p.j with
  | none => p.a1 * t * t / 2
  | some j =>
    let tj := p.a1 / j
    let ta := p.v / p.a1
    if t ≤ tj then j * t * t * t / 6
    else if t ≤ ta then j * tj * tj * tj / 6 + j * tj * tj / 2 * (t - tj) + p.a1 * (t - tj) * (t - tj) / 2
    else
      let u := ta + tj - t
      p.dacc - p.v * u + j * u * u * u / 6

/-- Time of the acceleration. -/
def accTime (p : Profile) : Rat := p.v / p.a1 + (match p.j with | some j => p.a1 / j | none => 0)

/-- Distance in the first half of the profile. -/
def halfDist (p : Profile) (t : Rat) : Rat := if t ≤ accTime p then accDist p t else p.dacc + p.v * (t - accTime p)

/-- The profile's distance function s, between 0 and d (DEDUCED from the profile's shape, log 28). -/
def profDist (p : Profile) (t : Rat) : Rat :=
  max 0 (min p.d (if 2 * t ≤ p.t then halfDist p t else p.d - halfDist p (p.t - t)))

/-- TJ of a profile (R370). -/
def profTicks (p : Profile) : Nat := max (ratRound (fMul p.t 10000000000)).toNat 20000

/-- The jump of `d` bed units under JUMP_V mm/s, JUMP_A mm/s² and JUMP_J m/s³. -/
def jumpProfile (d jv ja jj : Nat) : Profile :=
  let milli := fl (1 / 1000)
  sCurve (fMul jv milli) (fMul ja milli) jj (fMul d (fl (1 / 100000000)))

/-- Ticks of a jump: a jump of no length is a hold of 20 000 ticks. -/
def jumpTicks (d jv ja jj : Nat) : Nat := if d = 0 then 20000 else profTicks (jumpProfile d jv ja jj)

/-- The fraction of a jump's distance covered `tau` ticks after its start. -/
def jumpFrac (d jv ja jj : Nat) (tau : Int) : Rat :=
  let tj := jumpTicks d jv ja jj
  if (tj : Int) ≤ tau then 1 else if tau ≤ 0 then 0
  else if d = 0 then mkRat tau tj
  else
    let p := jumpProfile d jv ja jj
    profDist p (tau * p.t / tj) / p.d

/-! ### Points -/

/-- Length of a segment (R369). -/
def segLength (dx dy : Int) : Nat := isqrt (dx * dx + dy * dy).toNat

/-- Duration of `l` bed units at `v` µm/s (R369). -/
def markTicks (l v : Nat) : Nat := if v = 0 then 0 else (l * 100000000 + v / 2) / v

/-- A coordinate after `tau` of `t` ticks at constant speed (R369). -/
def lerp (x0 x1 tau t : Int) : Int := if t ≤ 0 ∨ t ≤ tau then x1 else x0 + rdiv ((x1 - x0) * max 0 tau) t

/-- A coordinate at a fraction of the way (R370, R371). -/
def lerpFrac (x0 x1 : Int) (q : Rat) : Int := x0 + ratRound ((x1 - x0) * q)

/-- The run-up start before (x, y) on a segment of length `l` (R373). -/
def runUpStart (x y dx dy : Int) (l r : Nat) : Int × Int := (x - rdiv (r * dx) l, y - rdiv (r * dy) l)

/-- A head coordinate of a bed point from a grid: origin, pitch and nodes by index (R368). -/
def gridValue (node : Nat → Int) (x0 y0 : Int) (p : Nat) (x y : Int) : Int :=
  let u := (x - x0).toNat
  let v := (y - y0).toNat
  let i := min (u / p) 63
  let j := min (v / p) 63
  let fx : Int := (u : Int) - i * p
  let fy : Int := (v : Int) - j * p
  let n := fun a b => node (b * 65 + a)
  rdiv (n i j * (p - fx) * (p - fy) + n (i + 1) j * fx * (p - fy) + n i (j + 1) * (p - fx) * fy + n (i + 1) (j + 1) * fx * fy)
    ((p : Int) * p)

/-! ### Turns and directions (R374, R384) -/

/-- π in 2⁻¹²⁸. -/
def piFix : Int := 1069028584064966747859680373161870783301

/-- Terms of the cosine series from x² in 2⁻¹²⁸: the sum from the present term on. -/
def cosSeries (x2 : Int) : Nat → Int → Int → Int
  | 0, _, _ => 0
  | fuel + 1, term, n => term + cosSeries x2 fuel (-(term * x2 / 2 ^ 128) / ((2 * n + 1) * (2 * n + 2))) (n + 1)

/-- cos(2πk / 65 536) in 2⁻¹²⁸; exact at the quarter turns (PRESUMED in the last bits, log 28). -/
def cosFix (k : Int) : Int :=
  let r := k % 65536
  let m := if r > 32768 then 65536 - r else r
  if m = 0 then 2 ^ 128 else if m = 16384 then 0 else if m = 32768 then -(2 ^ 128)
  else
    let x := piFix * m / 32768
    cosSeries (x * x / 2 ^ 128) 48 (2 ^ 128) 0

/-- The direction components of FLOW_ANGLE: round(32 767 × cos) and its sine (R384). -/
def flowX (angle : Nat) : Int := rdiv (32767 * cosFix angle) (2 ^ 128)
def flowY (angle : Nat) : Int := rdiv (32767 * cosFix ((angle : Int) - 16384)) (2 ^ 128)

/-- A signed square. -/
def signSq (x : Int) : Int := if x < 0 then -(x * x) else x * x

/-- The direction turns from (ax, ay) to (bx, by) by more than `angle` 2⁻¹⁶ turns: the cosine of the turn lies below
that of the angle. A segment of no length has no direction (DEDUCED, log 28). -/
def turnsMore (ax ay bx by_ : Int) (angle : Nat) : Bool :=
  let dot := ax * bx + ay * by_
  let aa := (ax * ax + ay * ay) * (bx * bx + by_ * by_)
  decide (aa ≠ 0) && decide (signSq dot * 2 ^ 256 < signSq (cosFix angle) * aa)

end Sys2Proof.Machine
end

