-- ==== Sys2Proof/Machine/BedOps.lean ====
section
/-! DEFINITION. Heads, strings, axes and the build layer as tables, and what stops them (10_jets_motion R387–R393, R400). -/

namespace Sys2Proof.Machine

/-! ### Tables -/

def bhead (s : State) (h : Nat) : BHead := tabGet BHead.cold s.bed.heads h
def setHead (s : State) (h : Nat) (x : BHead) : State := { s with bed.heads := tabSet BHead.cold s.bed.heads h x }
def blist (s : State) (h : Nat) : BList := tabGet BList.cold s.bed.build.lists h
def setList (s : State) (h : Nat) (x : BList) : State := { s with bed.build.lists := tabSet BList.cold s.bed.build.lists h x }
def stringRef (s : State) (n : Nat) : StringRef := tabGet StringRef.cold s.bed.strings n
def setString (s : State) (n : Nat) (x : StringRef) : State := { s with bed.strings := tabSet StringRef.cold s.bed.strings n x }
def axis (s : State) (a : Nat) : Axis := tabGet Axis.cold s.bed.axes a
def setAxis (s : State) (a : Nat) (x : Axis) : State := { s with bed.axes := tabSet Axis.cold s.bed.axes a x }

/-! ### Times of the build -/

/-- SYSTEM time less its steps, in ticks (09 R322). -/
def buildNow (s : State) : Int := ((s.time.sys : Int) - s.time.stepSum) / 2 ^ 32

/-- PROCESS time at a time of the build, and the time of the build at a PROCESS time. -/
def processAt (s : State) (t : Int) : Int := (s.time.process : Int) + (t - buildNow s)
def atProcess (s : State) (p : Int) : Int := buildNow s + (p - s.time.process)

/-- SYSTEM time at a time of the build, in the present count, and back. -/
def sysOfBuild (s : State) (t : Int) : Int := nowSys s + (t - buildNow s)
def buildAt (s : State) (t : Int) : Int := buildNow s + (t - nowSys s)

/-- The frame instants are the multiples of 2048 ticks of SYSTEM time: an even second holds 9 765 625 of them
(11 R410). The first one at or after a time of the build. -/
def frameAtOrAfter (s : State) (t : Int) : Int := buildAt s (-(-(sysOfBuild s t) / 2048) * 2048)

/-- Frame number of the instant at a time of the build (11 R410). -/
def frameNumber (s : State) (t : Int) : Nat := uns 16 (sysOfBuild s t / 2048)

/-! ### Heads (R363, R365) -/

/-- Word `i` of the head's definition, unsigned and signed. -/
def hw (x : BHead) (i : Nat) : Nat := x.defn.getD i 0
def hwS (x : BHead) (i : Nat) : Int := sgn 32 (hw x i)

/-- The head is defined. -/
def headDefined (s : State) (h : Nat) : Bool := !(bhead s h).defn.isEmpty

/-- Every node has been written since the grid became invalid (R367). -/
def gridValid (x : BHead) : Bool := x.written.length == 4225

/-- The head's state: 0 UNDEFINED, 1 UNREFERENCED, 2 REFERENCED, 3 FENCED (R365). -/
def headState (s : State) (h : Nat) : Nat :=
  if !headDefined s h then 0 else if fenced s 6 h then 3 else if (bhead s h).referenced then 2 else 1

/-- Enabled strings of a head (11 R426). -/
def stringOn (s : State) (n : Nat) : Bool := bit (keyU s 0x0B10 n 1) 7
def stringHead (s : State) (n : Nat) : Nat := keyU s 0x0B10 n 1 % 16
def stringsOf (s : State) (h : Nat) : List Nat := (List.range 12).filter fun n => stringOn s n && stringHead s n == h

/-- Heads of the layer. -/
def layerHeads (s : State) : List Nat := (List.range 16).filter fun h => bit s.bed.build.mask h && headDefined s h

/-- The head is in a build layer from ARMING to PAUSED (R364). -/
def inLayer (s : State) (h : Nat) : Bool :=
  decide (2 ≤ s.bed.build.st) && decide (s.bed.build.st ≤ 6) && bit s.bed.build.mask h

/-- The Spillway source of a unit's fence: DETAIL of FAULT_ACTIVE (13 R496). -/
def fencedBy (s : State) (kind inst : Nat) : Nat :=
  match s.spill.fences.find? fun f => f.kind == kind && f.inst == inst with
  | some f => f.source
  | none => 0

/-! ### Gates (11 R424, R428) -/

/-- Drive a shunt gate. -/
def driveShunt (s : State) (n : Nat) (on : Bool) (t : Int) : State :=
  if (stringRef s n).shg = on then s
  else emit (setString s n { stringRef s n with shg := on }) (.gate 1 n on (uns 64 t))

/-- Drive LGATE of a head. -/
def driveLgate (s : State) (h : Nat) (on : Bool) (t : Int) : State :=
  if (bhead s h).gate = on then s else emit (setHead s h { bhead s h with gate := on }) (.gate 0 h on (uns 64 t))

/-- Drive a head's LGATE and the shunts of its strings low, now; the open interval ends. -/
def cutGate (s : State) (h : Nat) : State :=
  let x := bhead s h
  let now := buildNow s
  let s1 := setHead s h { x with
    edges := [], toPlace := [], gateEn := false
    opens := x.opens.map fun p => (p.1, match p.2 with | some c => some (min c now) | none => some now) }
  (stringsOf s1 h).foldl (fun t n => driveShunt t n false (nowSys t)) (driveLgate s1 h false (nowSys s1))

/-- Every LGATE and shunt low (11 R435). -/
def cutAllGates (s : State) : State :=
  (List.range 12).foldl (fun t n => driveShunt t n false (nowSys t)) ((List.range 16).foldl (fun t h => cutGate t h) s)

/-! ### Summaries (R394, R396) -/

/-- The summary record of a span that ends at `stop`: 8 words. -/
def summaryWords (s : State) (h : Nat) (b : BList) (sp : Span) (stop : Int) (interrupted : Bool) : List Nat :=
  let st := uns 48 (processAt s sp.start)
  let mean := if b.sN = 0 then 0 else Int.tdiv b.sSum b.sN
  [sp.ix, sp.w.getD 7 0, st % 2 ^ 32,
   (flag interrupted 0 + b.sFlags) % 256 * 2 ^ 24 + h * 65536 + st / 2 ^ 32,
   uns 32 (stop - sp.start), uns 16 (satS 16 b.sPeak) * 65536 + uns 16 (satS 16 mean), b.sSat % 2 ^ 32, b.sHold % 2 ^ 32]

/-- Put a jet's summary in line for DRAM, where SUMMARY_EN asks for it. -/
def queueSummary (s : State) (h : Nat) (b : BList) (sp : Span) (stop : Int) (interrupted : Bool) : BList :=
  let b1 := { b with sFlags := 0, sHold := 0, sPeak := 0, sSum := 0, sN := 0, sSat := 0 }
  if keyU s 0x0A03 0 1 = 0 then b1
  else { b1 with summaries := b.summaries ++
    [(b.sum + 32 * sp.ix, (summaryWords s h b sp stop interrupted).flatMap (leBytes 4))] }

/-! ### Pause, freeze and abort (R376, R387, R388) -/

/-- A pause of the build layer with its cause: only a running one pauses. A head that stands at a boundary with
nothing sent ahead has stopped. -/
def pauseBuild (s : State) (cause : Nat) : State :=
  if s.bed.build.st ≠ 4 then s else
  (layerHeads s).foldl (fun t h =>
    let b := blist t h
    if b.span.isNone && !b.commit && b.bad.isNone then
      setList t h { b with stopped := true, starving := false, runNext := none, planned := none, throttled := false, hold := 0, flags := 0 }
    else t) { s with bed.build.st := 5, bed.build.cause := cause, bed.build.stopAt := buildNow s }

/-- The part of a freeze that concerns the layer: the span in progress is interrupted, with its summary (R391, R394). -/
def freezeList (s : State) (h : Nat) : State :=
  if !inLayer s h then s else
  let b := blist s h
  let now := buildNow s
  let b1 := match b.span with
    | some sp =>
      if sp.start ≤ now then { queueSummary s h b sp now true with cut := some sp, next := sp.ix }
      else { b with next := sp.ix, px := sp.px, py := sp.py, pz := sp.pz, pj := sp.pj }
    | none => b
  setList { s with bed.build.stopAt := max s.bed.build.stopAt now } h { b1 with
    span := none, rest := [], run := none, runNext := none, commit := false, planned := none, hold := 0, flags := 0, throttled := false
    starving := false, stopped := true, pauseAfter := false, park := false }

/-- Freeze a head (R387): set-points stay as last sent, the gate closes, UNREFERENCED, HEAD_STOPPED; a referencing in
progress ends. -/
def freezeHead (s : State) (h cause : Nat) : State :=
  let x := bhead s h
  if x.defn.isEmpty ∨ x.frozen then s else
  let s1 := cutGate (freezeList s h) h
  let s2 := setHead s1 h { bhead s1 h with frozen := true, referenced := false, move := none, ref := none, devRun := 0 }
  let s3 := match x.ref with
    | some (tag, _) => cmdEnds s2 tag 0x5A 0x60
    | none => s2
  raise s3 0x0A0A (args [(4, h), (4, cause), (4, (blist s3 h).next)])

/-- End a build command in flight with a status. -/
def endBuildTag (s : State) (tag op code : Nat) : State := if tag = 0 then s else cmdEnds s (tag - 1) op code

/-- Entry to DONE or ABORTED: the strings of the layer ramp to 0 (11 R433). -/
def rampStrings (s : State) : State :=
  (List.range 12).foldl (fun t n =>
    let g := stage t n
    if stringOn t n ∧ bit t.bed.build.mask (stringHead t n) ∧ 1 ≤ g.mode ∧ g.mode ≤ 3 then
      setStage (driveShunt (setString t n { stringRef t n with rampFrom := (stringRef t n).ref }) n false (nowSys t)) n
        { g with mode := 4, softAt := t.time.loc }
    else t) s

/-- BUILD_ABORT or a FATAL reaction (R387, R388, R393): heads freeze, queues are discarded, PROCESS time stops,
strings ramp down. A layer not yet ARMING freezes no head (DEDUCED, log 29). -/
def abortBuild (s : State) (cause : Nat) : State :=
  let b := s.bed.build
  if b.st = 0 ∨ 7 ≤ b.st then s else
  let s1 := if 2 ≤ b.st then (layerHeads s).foldl (fun t h => freezeHead t h cause) s else s
  let s2 := { s1 with
    bed.build.st := 8, bed.build.armTag := 0, bed.build.startTag := 0, bed.build.pauseTag := 0, bed.build.startAt := none
    bed.build.lists := s1.bed.build.lists.map fun p => (p.1, { p.2 with queue := [], cut := none })
    time.processRun := false }
  let s3 := raise s2 0x0A07 (args [(4, cause)])
  let s4 := endBuildTag (endBuildTag (endBuildTag s3 b.armTag 0x53 0x20) b.startTag 0x54 0x20) b.pauseTag 0x55 0x20
  rampStrings s4

/-! ### Axes (R400) -/

/-- The axis moves: MOVING, FOLLOWING or HOMING. -/
def axisMoves (x : Axis) : Bool := decide (2 ≤ x.st)

/-- End the commands of an axis with a status. -/
def endAxisTags (s : State) (a code decCode : Nat) : State :=
  let x := axis s a
  let s1 := setAxis s a { x with tag := 0, decTag := 0 }
  let s2 := if x.tag = 0 then s1 else cmdEnds s1 (x.tag - 1) x.op code
  if x.decTag = 0 then s2 else cmdEnds s2 (x.decTag - 1) 0x57 decCode

/-- A stop at once: the axis becomes UNCERTAIN, AXIS_STOPPED; causes 0 OP 5, 1 stall, 2 FATAL, 3 no Z edge. -/
def stopAxis (s : State) (a cause : Nat) : State :=
  let code := if cause = 1 then 0x60 else if cause = 3 then 0x31 else 0x20
  let s1 := setAxis s a { axis s a with st := 0, homed := false, dec := none, plan := none, lastEdge := none, ending := false, zSeen := false }
  endAxisTags (raise s1 0x0A10 (args [(4, a), (4, cause)])) a code code

/-- What a BED's fences do: a head freezes and the layer pauses; a stage goes off, its string dark; an axis stops. -/
def bedFence (s : State) (kind inst : Nat) : State :=
  match kind with
  | 6 => pauseBuild (freezeHead s inst 5) 5
  | 9 => driveShunt (stopStage s inst) inst false (nowSys s)
  | 10 => pauseBuild (if axisMoves (axis s inst) then stopAxis s inst 1 else s) 6
  | _ => s

/-- What a FATAL reaction does in BED role (R387): the layer aborts, every head freezes, moving axes stop, stages off. -/
def bedStop (s : State) : State :=
  let s1 := abortBuild s 10
  let s2 := (List.range 16).foldl (fun t h => freezeHead t h 10) s1
  let s3 := (List.range 8).foldl (fun t a => if axisMoves (axis t a) then stopAxis t a 2 else t) s2
  cutAllGates (stopStages s3)

end Sys2Proof.Machine
end

