-- ==== Sys2Proof/Machine/PairOps.lean ====
section
/-! DEFINITION. What the rest of the block asks of the pair: activity, pair-state commands, mirror and progress
records, mutes (17_redundancy). -/

namespace Sys2Proof.Machine

/-- The unit belongs to a pair (R619); it is its active unit; its standby. TILE role has no pair (R646). -/
def paired (s : State) : Bool := (s.sys.role == .sender || s.sys.role == .bed) && keyU s 0x0F80 0 1 == 1
def pairActive (s : State) : Bool := paired s && s.pair.active && s.pair.beating
def pairStandby (s : State) : Bool := paired s && !s.pair.active

/-- PAIR_PREFERRED is 1: the preferred standby. -/
def preferredStandby (s : State) : Bool := keyU s 0x0F81 0 1 == 1

/-- Cascade port `n` is one of the pair's (R620). -/
def pairPort (s : State) (n : Nat) : Bool := s.sys.role == .sender && paired s && bit (keyU s 0x0F83 0 1) n

/-- The SENDER_INDEX that the unit's own key gives; the wall index of the pair, which is the preferred primary's, as
its HEART shows it (R621; DEDUCED, log 33). -/
def senderIndex (s : State) : Nat := keyU s 0x0200 0 1
def wallIndex (s : State) (n : Nat) : Nat :=
  if pairPort s n && preferredStandby s && s.pair.peerDev != 0 then (s.pair.peerDev - 1) / 2048 else senderIndex s

/-- Output `o` is not fed: its latched frames leave from the peer; `cut` adds its last frame (R622, R633, R642). -/
def pairMuted (s : State) (o : Nat) : Bool := pairPort s o && tabGet 0 s.pair.feed o == 0
def pairCut (s : State) (o : Nat) : Bool := pairPort s o && tabGet 0 s.pair.feed o != 1

/-- The port of the peer link: PAIR_PEER_PORT's bundle by its lowest port; a BED's lane 15 (R619). All its lanes are locked. -/
def linkPort (s : State) : Nat :=
  if s.sys.role = .bed then 15 else keyU s 0x0F82 0 1 / bundleWidth s (keyU s 0x0F82 0 1) * bundleWidth s (keyU s 0x0F82 0 1)
def pairLinkUp (s : State) : Bool :=
  if s.sys.role = .bed then portLocked s 15
  else linkOk s (linkPort s)

/-- A standby's time follows the peer link, with neither a step nor a cleared lock; what was set comes back with activity
or with the end of the pair (R623). -/
def pairStandbyTime (s : State) : State :=
  { s with
    pair.setSource := some (s.pair.setSource.getD (s.time.source, s.time.portSel, s.time.peerPort))
    time.source := 2, time.peerPort := if s.sys.role = .bed then 7 else linkPort s }
def pairActiveTime (s : State) : State :=
  match s.pair.setSource with
  | none => s
  | some (src, sel, port) =>
    if src = 0 then { s with
      time.source := 0, time.portSel := sel, time.peerPort := port, time.holdover := false, time.sampled := false, time.f := 0, time.s := 0 }
    else { s with time.source := src, time.portSel := sel, time.peerPort := port }

/-- An opcode of a command that changes the pair state (R627). CFG_WRITE and CFG_COMMIT do for keys of the pair range. -/
def pairOpcode (role : Role) (op : Nat) : Bool :=
  match role with
  | .sender => (0x30 ≤ op && op ≤ 0x36) || op == 0x38 || op == 0x39
  | .bed => (0x50 ≤ op && op ≤ 0x56) || op == 0x59 || op == 0x60 || op == 0x61
  | _ => false

/-- A key of the pair state (R627). -/
def pairKey (role : Role) (id : Nat) : Bool :=
  match role with
  | .sender => 0x0700 ≤ id && id ≤ 0x09FF
  | .bed => 0x0A00 ≤ id && id ≤ 0x0CFF
  | _ => false

/-- The command changes the pair state or writes one of its keys. -/
def changesPair (s : State) (op : Nat) (key : Nat) : Bool :=
  pairOpcode s.sys.role op || (op == 0x10 && pairKey s.sys.role key)

/-- A record of R631: its header, the body and the CRC-32; the length is a whole number of cells of 32 bytes. -/
def pairRecordBytes (type flags seq arg : Nat) (body : List Byte) : List Byte :=
  let cells := 1 + cdiv (body.length - 16) 32
  let tail := body.drop 16
  let pad := fun (n : Nat) (l : List Byte) => l ++ List.replicate (n - l.length) 0
  let head := fun (crc : Nat) => [b8 type, b8 flags] ++ leBytes 2 cells ++ leBytes 4 seq ++ leBytes 4 arg ++ pad 16 (body.take 16) ++ leBytes 4 crc
  let rest := pad (32 * (cells - 1)) tail
  head (crc32 (head 0 ++ rest)) ++ rest

/-- The data cells of a record, 32 bytes each behind the flag (R631; 07 R232, R274). -/
def recordCells : Nat → List Byte → List (List Byte)
  | 0, _ => []
  | n + 1, l => if l.isEmpty then [] else (b8 1 :: l.take 32) :: recordCells n (l.drop 32)

/-- Send a record over the peer link, with the next sequence number (R629–R631). A link that is down or fenced carries no
bulk data (07 R273, R275): the record is lost, and its number is the gap by which the standby knows. -/
def pairSend (s : State) (type flags arg : Nat) (body : List Byte) : State :=
  let seq := (s.pair.seq + 1) % 2 ^ 32
  let s1 := { s with pair.seq := seq }
  if pairLinkUp s = false ∨ fenced s 2 (linkPort s) then s1 else
  let b := pairRecordBytes type flags seq arg body
  emit (queueData s1 (linkPort s) (recordCells 0x10000 b)) (.peer type (wordsOf b))

/-- The mirror record of a command that the active unit has accepted (R629): the command's words; `arg` is its output
frame number or frame instant, 0 where it takes effect at once. -/
def pairMirror (s : State) (arg : Nat) (words : List Word) : State :=
  if pairActive s = false then s else
  let s1 := pairSend s 2 0 arg (bytesOf words)
  { bump s1 0x0F 4 3 with pair.mirrorSeq := s1.pair.seq }

/-- A progress record at a head's gate-closed boundary (R629). -/
def pairProgress (s : State) (h next process : Nat) : State :=
  if pairActive s = false then s else
  let s1 := pairSend { s with pair.progress := tabSet (0, 0) s.pair.progress h (next, process) } 3 0 0
    (leBytes 4 h ++ leBytes 4 next ++ leBytes 8 process)
  { bump s1 0x0F 4 3 with pair.mirrorSeq := s1.pair.seq }

/-- FLAGS of this unit's HELLO (R631). -/
def helloFlags (s : State) : Nat :=
  flag (preferredStandby s) 0 + flag s.sys.sealed 1 + flag s.pair.ran 2 + flag s.pair.leftSafe 3 + flag (!s.pair.active && s.pair.synced) 4

/-- A HELLO leaves when the peer link has come up, or a flag has changed (R631). -/
def pairHello (s : State) (up : Bool) : State :=
  if paired s = false then s
  else if up = false then { s with pair.helloUp := false }
  else if s.pair.helloUp ∧ s.pair.helloSent = helloFlags s + 1 then s
  else pairSend { s with pair.helloUp := true, pair.helloSent := helloFlags s + 1 } 4 (helloFlags s) 0 []

/-- A change of the HELLO flags while the link is up. -/
def pairFlags (s : State) : State := if s.pair.helloUp then pairHello s true else s

/-- Entry to SAFE, BOOT or RESET stops the heartbeats within the reaction; HB_OUT is held low (R626). The unit becomes
standby at its next entry to STANDBY (R644). -/
def pairQuiet (s : State) : State :=
  if s.pair.beating then emit { s with pair.beating := false } (.pin 1 0) else s

end Sys2Proof.Machine
end

