-- ==== Sys2Proof/Machine/ReplayOps.lean ====
section
/-! DEFINITION. The records of a replayed capture and how replay consumes them (14_spillway R559–R563). -/

namespace Sys2Proof.Machine

/-- A record as replay reads it. -/
structure RepRec where
  type : Nat
  inst : Nat
  len : Nat
  body : List Byte
deriving DecidableEq, Repr

/-- Bytes from the start point that replay can read now: all of a capture in DRAM, or what has been fed. -/
def repAvail (s : State) : Nat := if s.sys.role = .tile then s.rep.fed.length - s.rep.startOff else s.rep.len

/-- `n` bytes from offset `off` after the start point; a ring that wrapped goes on at its first byte. -/
def replayBytes (s : State) (off n : Nat) : List Byte :=
  if s.sys.role = .tile then (s.rep.fed.drop (s.rep.startOff + off)).take n
  else (List.range n).map fun i => rdByte s (s.rep.src + (s.rep.startOff + off + i) % max 1 s.rep.len)

/-- The record at an offset, where it is whole. -/
def repRecord (s : State) (off : Nat) : Option RepRec :=
  if repAvail s < off + 16 then none else
  let h := replayBytes s off 16
  let len := leAt h 4 3
  if len < 16 ∨ len % 8 ≠ 0 ∨ repAvail s < off + len then none
  else some { type := leAt h 0 1, inst := leAt h 2 2, len := len, body := replayBytes s (off + 16) (len - 16) }

/-- Replay ends (R563): REPLAY_DONE, and CMD_DONE of the run; what was fed is given up. Codes of the run: OK at the end of
the capture and at a first mismatch asked for (DESIGN CHOICE, log 35). -/
def replayEnd (s : State) (cause : Nat) : State :=
  if s.rep.st ≠ 3 then s else
  let r := s.rep
  let code := match cause with
    | 1 => 0x20 | 2 => 0x12 | 5 => 0x60 | _ => 0
  let s1 := raise { s with rep := { Replay.cold with records := r.records, sigs := r.sigs, mismatches := r.mismatches } } 0x0D0A
    (args [(4, r.records), (4, r.sigs), (4, r.mismatches), (1, cause)])
  cmdEnds (r.feeds.foldl (fun t f => cmdEnds t f.2 0x85 0x20) s1) r.tag 0x85 code

/-- The feeds whose bytes have been consumed are complete (R559). -/
def feedsDone (s : State) : State :=
  let done := s.rep.feeds.filter fun f => decide (f.1 ≤ s.rep.startOff + s.rep.pos)
  done.foldl (fun t f => cmdEnds t f.2 0x85 0) { s with rep.feeds := s.rep.feeds.filter fun f => !decide (f.1 ≤ s.rep.startOff + s.rep.pos) }

/-- CONTENT is matched (R561): its CRC is that of an entry of the content table, or of the RASTER words fed before it. -/
def contentFound (s : State) (crc : Nat) : Bool :=
  if s.sys.role = .tile then crc32 s.rep.raster == crc
  else (List.range s.rep.entries).any fun i => rdLe s (s.rep.table + 16 * i) 4 == crc

/-- The capture is this device's own and stands as it was written (R562; DEDUCED, log 35). -/
def ownIntact (s : State) : Bool :=
  s.rep.result == 0 && s.cap.state == 4 && !s.cap.lost &&
    (if s.sys.role = .tile then tabGetList 0 s.cap.onChip s.rep.startOff s.rep.clean.length == s.rep.clean
     else s.rep.src == s.cap.ring && s.rep.len == min s.cap.bytes (capSize s) && !s.cap.altered)

/-- The signature that the engines compute: the captured one where R562 says so, else a free value. -/
def computedCrc (s : State) (captured : Nat) : Nat :=
  if ownIntact s then captured else (Config.replayCrc s.sys.free).toNat

/-- Compare a signature whose interval lies after the start point: one of its kind and unit has come before (R561). -/
def compareSignature (s : State) (r : RepRec) : State :=
  let kind := leAt r.body 0 4
  let index := leAt r.body 4 4
  let captured := leAt r.body 8 4
  if s.rep.seen.contains (kind, r.inst) = false then { s with rep.seen := s.rep.seen ++ [(kind, r.inst)] } else
  let crc := computedCrc s captured
  let s1 := nextFree { s with rep.sigs := s.rep.sigs + 1 }
  if crc = captured then s1 else
  let s2 := raise (bump { s1 with rep.mismatches := s1.rep.mismatches + 1 } 0x0D 0 9) 0x0D09
    (args [(1, kind), (2, r.inst), (4, index), (4, captured), (4, crc)])
  if s2.rep.stopOnMismatch then replayEnd s2 3 else s2

/-- The Basin words of a RASTER record, 6 bytes of each 8 (R555; DEDUCED, log 35). -/
def rasterBytes : Nat → List Byte → List Byte
  | 0, _ => []
  | n + 1, l => l.take 6 ++ rasterBytes n (l.drop 8)

/-- Consume one record (R561). Records of the other types are inputs of the engines, whose state in replay is the
firmware's: what they do shows in signatures only. -/
def consume (s : State) (r : RepRec) : State :=
  let own := replayBytes s s.rep.pos r.len
  let s1 := { s with
    rep.pos := s.rep.pos + r.len, rep.records := s.rep.records + 1
    rep.clean := if r.type = 0x0F then s.rep.clean else if s.sys.role = .tile then s.rep.clean ++ own else [] }
  match r.type with
  | 0x04 => if contentFound s1 (leAt r.body 8 4) then { s1 with rep.raster := [] } else replayEnd s1 2
  | 0x0C => compareSignature s1 r
  | 0x0F => { s1 with rep.raster := s1.rep.raster ++ rasterBytes ((r.body.length - 8) / 8) (r.body.drop 8) }
  | 0x10 => replayEnd s1 0
  | _ => s1

/-- Consume up to `n` records. Where none is left, a capture in DRAM has ended; a TILE waits for more. -/
def replayRun : Nat → State → State
  | 0, s => s
  | n + 1, s =>
    if s.rep.st ≠ 3 then s else
    match repRecord s s.rep.pos with
    | some r => replayRun n (consume s r)
    | none => if s.sys.role = .tile then s else replayEnd s 0

/-- End replay early (R563): how far it has come is free (log 35). -/
def replayStop (s : State) (cause : Nat) : State :=
  if s.rep.st = 3 then
    let n := if s.sys.role = .tile then 0 else Config.free s.sys.free 14 % (repAvail s / 16 + 1)
    replayEnd (replayRun n (nextFree s)) cause
  else
    let s1 := s.rep.feeds.foldl (fun t f => cmdEnds t f.2 0x85 0x20) { s with rep := Replay.cold }
    if s.rep.st = 1 then cmdEnds s1 s.rep.tag 0x85 0x20 else s1

end Sys2Proof.Machine
end

