-- ==== Sys2Proof/Machine/SendOps.lean ====
section
/-! DEFINITION. A SENDER's outputs, layers, still buffers and streams as tables, the frame grid, and the stop of
the outputs (05_composition, 06_scanout). -/

namespace Sys2Proof.Machine

/-- An output. -/
def outp (s : State) (o : Nat) : Output := tabGet Output.cold s.send.outs o
def setOutp (s : State) (o : Nat) (x : Output) : State := { s with send.outs := tabSet Output.cold s.send.outs o x }

/-- A layer slot, a still buffer, a stream. -/
def layer (s : State) (i : Nat) : LayerSlot := tabGet LayerSlot.cold s.send.layers i
def setLayer (s : State) (i : Nat) (x : LayerSlot) : State := { s with send.layers := tabSet LayerSlot.cold s.send.layers i x }
def stillBuf (s : State) (i : Nat) : Option StillBuf := tabGet none s.send.bufs i
def stream (s : State) (i : Nat) : Option Stream := tabGet none s.send.streams i
def setStream (s : State) (i : Nat) (x : Option Stream) : State := { s with send.streams := tabSet none s.send.streams i x }

/-! ### Fields of a layer definition (05 R185) -/

/-- Word `i` of a definition. -/
def dw (d : List Nat) (i : Nat) : Nat := d.getD i 0

def dEnable (d : List Nat) : Bool := bit (dw d 0) 23
def dOutput (d : List Nat) : Nat := bits (dw d 0) 20 3
def dZ (d : List Nat) : Nat := bits (dw d 0) 16 4
def dViews (d : List Nat) : Nat := bits (dw d 0) 12 4
def dType (d : List Nat) : Nat := bits (dw d 0) 10 2
def dRotate (d : List Nat) : Nat := bits (dw d 0) 8 2
def dKernel (d : List Nat) : Nat := bits (dw d 0) 6 2
def dLoss (d : List Nat) : Nat := bits (dw d 0) 4 2
def dPremult (d : List Nat) : Bool := bit (dw d 0) 3
def dAutoGamut (d : List Nat) : Bool := bit (dw d 0) 2
def dAutoMatrix (d : List Nat) : Bool := bit (dw d 0) 1
def dAlpha (d : List Nat) : Nat := dw d 1 / 65536
def dTransfer (d : List Nat) : Nat := bits (dw d 1) 10 4
def dSource (d : List Nat) : Nat := dw d 1 % 1024
def dCropX (d : List Nat) : Nat := dw d 2 % 65536
def dCropY (d : List Nat) : Nat := dw d 2 / 65536
def dCropW (d : List Nat) : Nat := dw d 3 % 65536
def dCropH (d : List Nat) : Nat := dw d 3 / 65536
def dDestX (d : List Nat) : Int := sgn 16 (dw d 4)
def dDestY (d : List Nat) : Int := sgn 16 (dw d 4 / 65536)
def dDestW (d : List Nat) : Nat := dw d 5 % 65536
def dDestH (d : List Nat) : Nat := dw d 5 / 65536
def dStep (d : List Nat) : Nat := bits (dw d 6) 24 8
/-- Component `c` of COLOUR_A and COLOUR_B. -/
def dColourA (d : List Nat) (c : Nat) : Nat := dw d (6 + c) % 2 ^ 20
def dColourB (d : List Nat) (c : Nat) : Nat := dw d (9 + c) % 2 ^ 20
/-- Coefficient `k` of nine packed two a word from word `at_`; offset `c`. -/
def dPair (d : List Nat) (at_ k : Nat) : Int := sgn 16 (dw d (at_ + k / 2) / 65536 ^ (k % 2))
def dOff (d : List Nat) (c : Nat) : Int := sgn 32 (dw d (17 + c))

/-- The definition that a slot's next latch point shows: the pending one where there is one. -/
def nextDef (x : LayerSlot) : Option (List Nat) :=
  match x.pend with
  | some d => some d
  | none => x.active

/-- Active layers of an output with their slots, less those omitted after a takeover (17 R633). -/
def activeLayers (s : State) (o : Nat) : List (Nat × List Nat) :=
  s.send.layers.filterMap fun p => match p.2.active with
    | some d => if dOutput d = o ∧ s.pair.omit_.contains p.1 = false then some (p.1, d) else none
    | none => none

/-! ### Still buffers (05 R182) -/

/-- A definition names a still buffer, a stream. -/
def namesBuf (d : Option (List Nat)) (id : Nat) : Bool :=
  match d with
  | some w => dType w == 1 && dSource w == id
  | none => false
def namesStream (d : Option (List Nat)) (id : Nat) : Bool :=
  match d with
  | some w => dType w == 0 && dSource w == id
  | none => false

/-- A frame in progress read the buffer. -/
def readInProgress (s : State) (id : Nat) : Bool :=
  s.send.outs.any fun p => p.2.prog.any fun f => f.buffers.contains id

/-- The state of a registered buffer: 0 FREE, 1 ACTIVE, 2 RETIRING (R182). -/
def bufState (s : State) (id : Nat) : Nat :=
  if s.send.layers.any fun p => namesBuf p.2.pend id || namesBuf p.2.active id then 1
  else if readInProgress s id then 2 else 0

/-- BUFFER_RETIRED for every buffer that a change has set FREE (R182). -/
def raiseRetired (old s : State) : State :=
  s.send.bufs.foldl (fun t p => if bufState old p.1 ≠ 0 ∧ bufState s p.1 = 0 then raise t 0x0704 (args [(4, p.1)]) else t) s

/-- A change of definitions or of frames in progress, with its retirements. -/
def withRetire (f : State → State) (s : State) : State := raiseRetired s (f s)

/-! ### The frame grid (06 R207, R208) -/

/-- SYSTEM time in ticks of grid frame `g`, counted from second 0. -/
def gridTime (x : Output) (g : Nat) : Int :=
  let n := max 1 x.num
  ((g / n * (x.den * secTicks) + x.phase + g % n * x.den * secTicks / n : Nat) : Int)

/-- The first grid frame that starts at or after `t`. -/
def gridFirst (x : Output) (t : Int) : Nat :=
  let g := ((t - x.phase) * x.num / (max 1 (x.den * secTicks) : Nat)).toNat
  if t ≤ gridTime x g then g else g + 1

/-- The output's next frame is grid frame `g`. -/
def takeGrid (x : Output) (g : Nat) : Output :=
  { x with nextNo := g % 65536, next := gridTime x g, nextLen := (gridTime x (g + 1) - gridTime x g).toNat }

/-- The output begins on its grid with the first latch point at or after `t` (06 R216, R541; 18 R674). -/
def startOutput (t : Int) (s : State) (o : Nat) : State :=
  let x := outp s o
  if x.enable = false ∨ fenced s 5 o then s else
  setOutp s o { takeGrid x (gridFirst x (t + x.vb)) with
    started := true, inFrame := false, latched := false, prog := [], flips := [], resync := false, done := false, activeLen := 0 }

/-- Entry to READY starts every enabled output (R216). -/
def outputsStart (s : State) : State :=
  (List.range 8).foldl (fun t o => if (outp t o).started then t else startOutput (nowSys s) t o) s

/-- The settings latched for the next frame govern from its start on (06 R219, R220). -/
def rectsStart (x : Output) : Output :=
  { x with rects := x.nextRects.foldl (fun t p => tabSet CrcRect.cold t p.1 p.2) x.rects, nextRects := [] }

/-- An output stops at once: no raster, no flip times, no frame in progress (R216, R541). -/
def stopOutput (s : State) (o : Nat) : State :=
  let x := rectsStart (outp s o)
  setOutp s o { x with started := false, inFrame := false, latched := false, prog := [], flips := [], resync := false, done := false }

/-- Layers whose release waited for a latch point return with the outputs' stop. -/
def forgetHeld (s : State) : State := { s with send.layers := s.send.layers.map fun p => (p.1, { p.2 with held := none, loss := 0 }) }

/-- Entry to STANDBY, SAFE or SERVICE: the outputs stop (R216). -/
def outputsStop (s : State) : State :=
  withRetire (fun t => forgetHeld { (List.range 8).foldl stopOutput t with send.group := ⟨[], [], []⟩ }) s

end Sys2Proof.Machine
end

