-- ==== Sys2Proof/Machine/Reactions.lean ====
section
/-! DEFINITION. What a fence and a FATAL reaction do to the units of each role. -/

namespace Sys2Proof.Machine

/-- The owning chapter's effect when a unit becomes fenced (14_spillway R539). -/
def onFence (s : State) (kind inst : Nat) : State :=
  let s1 := calFence s kind inst
  match kind with
  | 1 => fenceLane s1 inst
  | 3 => fenceSource s1 inst
  | _ => match s.sys.role with
    | .tile => if kind = 9 then cutGroups (stopStage s1 inst) (railGroups s1 inst) else if kind = 8 then cutGroups s1 [inst] else s1
    | .bed => bedFence s1 kind inst
    | _ => s1

/-- The role's effects of a FATAL reaction beside SAFE (01 R38). -/
def onFatal (s : State) : State :=
  let s1 := replayStop (pairQuiet (calAbandonAll s)) 5
  match s.sys.role with
  | .tile => fretEntry (tileStop s1)
  | .sender => outputsStop s1
  | .bed => bedStop s1
  | .factory => s1

end Sys2Proof.Machine
end

