-- ==== Sys2Proof/Machine/Spill.lean ====
section
/-! DEFINITION. Firings of the Spillway, their reactions, and fences (14_spillway R530–R546). -/

namespace Sys2Proof.Machine

/-- One firing: source, instance, detail, and whether it is an injected one. -/
structure Firing where
  source : Nat
  inst : Nat
  detail : Nat
  injected : Bool
  noReaction : Bool
deriving DecidableEq, Repr

/-- The configured severity of a firing (R535, R538). -/
def severity (s : State) (src detail : Nat) : Nat :=
  if severityFixed src then severityDefault src
  else if src = 41 ∧ detail = 2 then 2
  else keyU s 0x0D00 src 1

/-- A unit of a kind exists in the role (R540). -/
def unitExists (role : Role) (kind inst : Nat) : Bool :=
  match kind, role with
  | 1, _ => decide (inst < 16)
  | 2, .sender => decide (inst < 8)
  | 2, .tile => decide (inst < 2)
  | 3, .sender => decide (inst < 4)
  | 4, .sender => decide (inst < 64)
  | 5, .sender => decide (inst < 8)
  | 6, .bed => decide (inst < 16)
  | 7, .tile => decide (inst < 12)
  | 7, .bed => decide (inst < 28)
  | 8, .tile => decide (inst < 96)
  | 9, .tile => decide (inst < 12)
  | 9, .bed => decide (inst < 12)
  | 10, .bed => decide (inst < 8)
  | 11, _ => decide (inst < 28)
  | _, _ => false

/-- The fence unit that a source and instance name (R537, R711); `none` for a record fence. -/
def fenceUnit (src inst : Nat) : Option (Nat × Nat) :=
  match src with
  | 9 => some (1, inst)
  | 10 => some (2, inst)
  | 12 => some (4, inst)
  | 13 => some (5, inst)
  | 16 => some (8, inst)
  | 17 => some (8, inst)
  | 18 => some (8, inst)
  | 20 => some (9, inst)
  | 22 => some (6, inst)
  | 24 => some (6, inst)
  | 25 => some (10, inst)
  | 27 => some (7, inst)
  | 28 => some (7, inst)
  | 32 => some (11, inst)
  | 43 => some (3, inst)
  | 2 => if inst / 4096 = 0 then none else some (inst / 4096, inst % 4096)
  | 4 => if inst / 4096 = 0 then none else some (inst / 4096, inst % 4096)
  | 11 => if inst / 4096 = 0 then none else some (inst / 4096, inst % 4096)
  | 14 => if inst / 4096 = 0 then none else some (inst / 4096, inst % 4096)
  | _ => none

/-- Sink groups of a colour (03_lamp_drive R90). -/
def groupsOfColour (s : State) (c : Nat) : List Nat :=
  (List.range 96).filter fun g => keyU s 0x0500 g 1 % 4 == c

/-- Put one fence in force (R539): nothing where the unit is fenced already. -/
def fenceOne (s : State) (src kind inst : Nat) : State :=
  if fenced s kind inst then s else
  let s1 := { s with spill.fences := s.spill.fences ++ [{ kind := kind, inst := inst, source := src }] }
  let s2 := raise (bump s1 0x0D 0 6) 0x0D01 (args [(1, kind), (2, inst), (1, src)])
  let s3 := if s.spill.fences.isEmpty then irq s2 irqState else s2
  onFence s3 kind inst

/-- Fence a unit; the fence of a BED's stage fences the head of its string too (11 R434). -/
def addFence (s : State) (src kind inst : Nat) : State :=
  let s1 := fenceOne s src kind inst
  if s.sys.role = .bed ∧ kind = 9 ∧ stringOn s inst then fenceOne s1 src 6 (stringHead s inst) else s1

/-- The SEVERE reaction of a firing (R536, R539): SCAN_PORT fences every sink group of its colour,
a quad PLL fault all four lanes of its quad (08 R306). -/
def severeReaction (s : State) (src inst detail : Nat) : State :=
  if src = 9 ∧ detail = 1 then (List.range 4).foldl (fun t i => addFence t src 1 (inst / 4 * 4 + i)) s
  else if src = 19 ∧ s.sys.role = .tile then (groupsOfColour s inst).foldl (fun t g => addFence t src 8 g) s else
  match fenceUnit src inst with
  | some (k, i) => if unitExists s.sys.role k i then addFence s src k i else addFence s src 0 src
  | none => addFence s src 0 src

/-- The FATAL reaction (R536, 01 R38): SAFE with emission off, except in BOOT, where it stays latched. -/
def fatalReaction (s : State) : State :=
  match s.sys.st with
  | .reset => s
  | .boot => s
  | .safe => s
  | _ => onFatal (setState s .safe 2)

/-- The reaction of a severity. -/
def reaction (s : State) (sev src inst detail : Nat) : State :=
  if sev = 3 then fatalReaction s else if sev = 2 then severeReaction s src inst detail else s

/-- End of the reaction interval of a first event latched now (R534): free within the limit (log 10). -/
def reactionEnd (s : State) (sev : Nat) : Nat :=
  let cyc := s.time.loc / 16 * 16 + 16
  let t := Config.reactionTicks s.sys.free
  if sev = 3 then max cyc (s.time.loc + min t 20000)
  else if sev = 2 then max cyc (s.time.loc + min t 1000000)
  else cyc

/-- A firing outranks the first event latched in the same CORE_CLK cycle (R533): of higher severity, or of equal severity and
lower index. -/
def outranks (s : State) (f : Firing) (sev : Nat) : Bool :=
  s.spill.first.valid && s.spill.first.localT == s.time.loc - s.time.loc % 16 &&
    (decide (s.spill.first.severity < sev) || (s.spill.first.severity == sev && decide (f.source < s.spill.first.source)))

/-- The log entry of a firing that another outranks in its cycle is no longer the first event's but a merged one (R550). -/
def demoteLog (l : List (List Word)) : List (List Word) :=
  match l with
  | [] => []
  | e :: r => match e with
    | w :: rest => if bit w.toNat 19 then (w32 (w.toNat - 2 ^ 19 + (if bit w.toNat 20 then 0 else 2 ^ 20)) :: rest) :: r else e :: demoteLog r
    | [] => e :: demoteLog r

/-- Record the firing as the first event, or set MERGED or OVERFLOW (R532, R534); of the firings of one cycle the one that
R533 ranks highest is the first event. -/
def latchFirst (s : State) (f : Firing) (sev : Nat) : State :=
  if s.spill.first.valid = false then
    let back := s.time.loc % 16
    irq (nextFree { s with
      spill.first := { valid := true, coincident := false, injected := f.injected, merged := false, overflow := false
                       severity := sev, source := f.source, inst := f.inst, detail := f.detail
                       localT := s.time.loc - back, sysT := s.time.sys - back * 2 ^ 32 }
      spill.reactEnd := reactionEnd s sev }) irqSpill
  else if outranks s f sev then
    bump { s with
      spill.first := { s.spill.first with merged := true, injected := f.injected, severity := sev, source := f.source
                                          inst := f.inst, detail := f.detail }
      spill.reactEnd := reactionEnd s sev
      log.entries := (demoteLog s.log.entries.reverse).reverse } 0x0D 0 2
  else if s.time.loc < s.spill.reactEnd then bump { s with spill.first.merged := true } 0x0D 0 2
  else bump { s with spill.first.overflow := true } 0x0D 0 3

/-- A real firing meets an injection of the same source (R546). -/
def isCoincident (s : State) (f : Firing) : Bool :=
  match s.spill.injection with
  | some j => !f.injected && j.source == f.source && decide (s.time.loc < j.endAt)
  | none => false

/-- The flags R546 changes. -/
def markCoincident (s : State) (f : Firing) : State :=
  if isCoincident s f then
    let s1 := bump { s with spill.injection := s.spill.injection.map fun j => { j with coincident := true } } 0x0D 0 5
    if s.spill.first.valid ∧ s.spill.first.injected ∧ s.spill.first.source = f.source then
      { s1 with spill.first := { s1.spill.first with injected := false, coincident := true } }
    else s1
  else s

/-- The log flags of a firing (R550), from the state before it. -/
def firingFlags (s : State) (f : Firing) (sev : Nat) : Nat :=
  let first := !s.spill.first.valid || outranks s f sev
  let merged := !first && decide (s.time.loc < s.spill.reactEnd)
  let ovf := !first && !decide (s.time.loc < s.spill.reactEnd)
  0x0D80 + f.source + 2 ^ 18 + flag first 19 + flag merged 20 + flag ovf 21 + flag f.injected 22 +
    flag (isCoincident s f) 23 + sev * 2 ^ 24

/-- Log table key of a source and instance. -/
def logKey (f : Firing) : Nat := f.source * 65536 + f.inst % 65536

/-- The firing repeats one logged within LOG_REPEAT_WINDOW (R551). -/
def isRepeat (s : State) (f : Firing) : Bool :=
  let last := tabGet 0 s.spill.lastLog (logKey f)
  s.spill.first.valid && !f.injected && !isCoincident s f && decide (last ≠ 0) &&
    decide (s.time.loc < last - 1 + keyU s 0x0D02 0 4 * usTicks)

/-- Log a firing and raise its event, or count it as a repeat (R549–R551). -/
def logFiring (s s0 : State) (f : Firing) (sev : Nat) : State :=
  if isRepeat s0 f then bump s 0x0D f.source 1
  else
    let a := args [(2, f.inst), (4, f.detail)]
    let s1 := { s with spill.lastLog := tabSet 0 s.spill.lastLog (logKey f) (s.time.loc + 1) }
    raiseQuiet (logAdd s1 (firingFlags s0 f sev) a) (0x0D80 + f.source) a

/-- The stop trigger of a capture: the first firing of at least STOP_SEVERITY (R553, R557). -/
def stopTrigger (s : State) (sev : Nat) : State :=
  if s.cap.state = 2 ∧ s.cap.stopOnFault ∧ s.cap.stopSev ≤ sev then
    { s with cap.state := 3, cap.stopAt := some (s.time.loc + s.cap.postMs * msTicks) }
  else s

/-- One firing (R531): status bit, first event, log, capture and reaction. -/
def fireOne (s : State) (f : Firing) : State :=
  let sev := severity s f.source f.detail
  let s1 := bump { s with spill.status := putBit s.spill.status f.source true } 0x0D f.source 0
  let s2 := markCoincident (latchFirst s1 f sev) f
  let s3 := traceTrigger (logFiring s2 s f sev) 2 f.source
  let s4 := stopTrigger (capRec s3 0x08 f.inst 0
    (leBytes 2 f.source ++ leBytes 2 f.inst ++ leBytes 4 f.detail ++ leBytes 4 (b2n f.injected))) sev
  if f.noReaction then s4 else reaction s4 sev f.source f.inst f.detail

/-- A real firing of one source. -/
def fire (s : State) (src inst detail : Nat) : State :=
  fireOne s { source := src, inst := inst % 65536, detail := detail % 2 ^ 32, injected := false, noReaction := false }

/-- Assert a line that stays asserted: it fires once (R530). -/
def assertLine (s : State) (src inst detail : Nat) : State :=
  if s.spill.lines.contains (src, inst) then s
  else fire { s with spill.lines := s.spill.lines ++ [(src, inst)] } src inst detail

/-- Release a line (R530). -/
def releaseLine (s : State) (src inst : Nat) : State :=
  { s with spill.lines := s.spill.lines.filter fun l => l != (src, inst) }

/-- A fault injection drives the line of a source now (R545). -/
def injected (s : State) (src : Nat) : Bool :=
  match s.spill.injection with
  | some j => j.source == src
  | none => false

/-- The line of a source is asserted, for some instance or by an injection. -/
def lineAsserted (s : State) (src : Nat) : Bool := (s.spill.lines.any fun l => l.1 == src) || injected s src

/-- `a` ranks before `b` among firings of one cycle (R533): higher severity, then lower index. -/
def ranksBefore (s : State) (a b : Firing) : Bool :=
  let sa := severity s a.source a.detail
  let sb := severity s b.source b.detail
  decide (sb < sa) || (sa == sb && decide (a.source < b.source))

/-- The firing of the highest rank in a list. -/
def topFiring (s : State) : Firing → List Firing → Firing
  | a, [] => a
  | a, b :: r => topFiring s (if ranksBefore s b a then b else a) r

/-- Firings of one cycle: the one of the highest rank is taken first, the others after it (R533). -/
def fireAll (s : State) : List Firing → State
  | [] => s
  | a :: r =>
    let t := topFiring s a r
    ((a :: r).erase t).foldl fireOne (fireOne s t)

/-- Lift fences that satisfy `p`; DEGRADED falls with the last one (R539). -/
def liftFences (s : State) (p : Fence → Bool) : State :=
  let s1 := { s with spill.fences := s.spill.fences.filter fun f => !p f }
  if degraded s && !degraded s1 then irq s1 irqState else s1

end Sys2Proof.Machine
end

