-- ==== Sys2Proof/Machine/HostCmd.lean ====
section
/-! DEFINITION. How a host command is checked, routed, executed and answered (13_mailbox R494–R501;
07_cascade_link R261–R264). -/

namespace Sys2Proof.Machine

/-- Status codes (13_mailbox R496). -/
inductive Status where
  | ok | accepted | badOpcode | badLength | badParam | overBudget | stateReject | roleReject | busy | noCredit
  | unreachable | timeout | pinned | authFail | faultActive | notReady | internal
deriving DecidableEq, Repr

/-- The code of a status. -/
def statusCode : Status → Nat
  | .ok => 0x00 | .accepted => 0x01 | .badOpcode => 0x10 | .badLength => 0x11 | .badParam => 0x12
  | .overBudget => 0x13 | .stateReject => 0x20 | .roleReject => 0x21 | .busy => 0x22 | .noCredit => 0x23
  | .unreachable => 0x30 | .timeout => 0x31 | .pinned => 0x40 | .authFail => 0x50 | .faultActive => 0x60
  | .notReady => 0xFE | .internal => 0xFF

/-- What a command's own part answers. -/
structure Reply where
  status : Status
  detail : Nat
  words : List Word
deriving DecidableEq, Repr

/-- OK with no payload, OK with words, ACCEPTED, a refusal. -/
def rOk : Reply := ⟨.ok, 0, []⟩
def rWords (ws : List Word) : Reply := ⟨.ok, 0, ws⟩
def rAccepted : Reply := ⟨.accepted, 0, []⟩
def rBad (st : Status) (detail : Nat) : Reply := ⟨st, detail, []⟩

/-- A command's row of the opcode table (13_mailbox R512). -/
structure OpSpec where
  op : Nat
  tile : Bool
  sender : Bool
  bed : Bool
  /-- The device states that allow it; empty for every state except BOOT. -/
  states : List DevState
  bcast : Bool
  /-- The LEN it takes, where one value is right. -/
  len : Option Nat

/-- The opcode belongs to the role. -/
def opInRole (o : OpSpec) : Role → Bool
  | .tile => o.tile
  | .sender => o.sender
  | .bed => o.bed
  | .factory => false

/-- The opcode is allowed in the state. -/
def opInState (o : OpSpec) (st : DevState) : Bool := o.states.isEmpty || o.states.contains st

/-- Payload word `i` as a number; 0 where LEN names fewer. -/
def pw (c : Cmd) (i : Nat) : Nat := (c.payload.getD i 0).toNat

/-- The command's words as its path holds them (R494). -/
def cmdWords (op : Nat) (c : Cmd) : List Word :=
  w32 (op * 2 ^ 24 + c.tag % 4096 * 2 ^ 12 + flag c.notify 8 + c.len % 256) ::
    w32 (flag c.self 15 + flag c.bcast 14 + c.target % 0x4000) :: c.payload

/-- The words of a response (R494). -/
def respWords (s : State) (tag : Nat) (r : Reply) (relayed : Bool) : List Word :=
  w32 (statusCode r.status * 2 ^ 24 + tag % 4096 * 2 ^ 12 + flag (r.status == .accepted) 10 + flag relayed 9 +
      2 ^ 8 + r.words.length % 256) ::
    w32 (r.detail % 65536 * 65536 + flag (degraded s) 4 + stateCode s.sys.st) :: r.words

/-- A tag is in flight (R495). -/
def tagInFlight (s : State) (tag : Nat) : Bool := s.cmds.inFlight.any fun f => f.tag == tag

/-- Put a response in line for its path (R483, R487). -/
def queueResp (s : State) (c : Cmd) (ends hw : Bool) (words : List Word) : State :=
  { s with cmds.responses := s.cmds.responses ++
      [{ path := c.path, origin := c.origin, notify := c.notify, tag := c.tag, ends := ends, hw := hw, words := words }] }

/-- Answer a command: count it, log a refusal as CMD_REFUSED (R497, R515), queue the response. -/
def answer (s : State) (op : Nat) (c : Cmd) (r : Reply) (ends : Bool) : State :=
  let s1 := if 0x10 ≤ statusCode r.status then
      logAdd (bump s 0 0 1) 0x0D03 (args [(1, op), (1, statusCode r.status), (2, c.tag), (1, c.path)])
    else bump s 0 0 0
  queueResp s1 c ends false (respWords s1 c.tag r false)

/-- Take a command's tag into flight (R495). -/
def takeTag (s : State) (op : Nat) (c : Cmd) : State :=
  { s with cmds.inFlight := s.cmds.inFlight ++ [{ tag := c.tag, op := op, path := c.path }] }

/-- CMD_DONE of an accepted command: the tag leaves flight and the event is raised (R495, R528). -/
def cmdDone (s : State) (tag op : Nat) (st : Status) : State :=
  cmdEnds s tag op (statusCode st)

/-- The hardware's NOT_READY answer (R501): counted and not logged. -/
def hwNotReady (s : State) (c : Cmd) : State :=
  queueResp (bump s 0 0 4) c false true (respWords s c.tag (rBad .notReady 0) false)

/-- A tag conflict: BAD_PARAM 0xFFFE, MAILBOX_PROTO recorded, not executed (R495). -/
def tagConflict (s : State) (op : Nat) (c : Cmd) : State :=
  let s1 := fire (bump s 0 0 2) 38 c.path (2 + c.tag % 4096 * 65536)
  answer s1 op c (rBad .badParam 0xFFFE) false

/-- The Cascade and position of a TILE's device ID, for a TILE of this SENDER: of an unpaired port, or of a paired port
while the unit is active (17 R621). -/
def tileOf (s : State) (dev : Nat) : Option (Nat × Nat) :=
  let n := dev / 256 % 8
  if dev / 2048 = wallIndex s n ∧ dev % 256 ≠ 0 ∧ (pairPort s n && !s.pair.active) = false then some (n, dev % 256) else none

/-- The port of a SENDER through which a TILE is reached: its head port, or the return port from the first
TILE that reported loss on (07 R261, R269); `none` where nothing reaches it. -/
def relayPort (s : State) (n pos : Nat) : Option Nat :=
  let viaReturn := (List.range 8).find? fun p =>
    bits (keyU s 0x0201 p 1) 0 2 == 2 && bits (keyU s 0x0201 p 1) 2 3 == n && (wport s p).returnFeed &&
      decide ((wport s p).takeoverFrom ≤ pos) && portLocked s p && !fenced s 2 p
  match viaReturn with
  | some p => some p
  | none => if portLocked s n && !fenced s 2 n && decide (bits (keyU s 0x0201 n 1) 0 2 = 1) then some n else none

/-- The peer link to the SENDER of a device, by its lowest port: it is up, not fenced, and the SENDER behind it has made itself
known (07 R261, R272, R273; log 69). -/
def peerPortFor (s : State) (dev : Nat) : Option Nat :=
  (List.range 8).find? fun p => portMode s p == 3 && bundleFirst s p == p && linkOk s p && !fenced s 2 p &&
    (wport s p).peer.any fun d => d / 2048 == dev / 2048

/-- A TILE nearer the head has lost its link on port B: the position lies beyond a break (07 R261; log 67). -/
def beyondBreak (s : State) (dev : Nat) : Bool := s.link.broken.any fun d => d / 256 == dev / 256 && decide (d % 256 < dev % 256)

/-- Where a command goes (R494, R498 step 5; 07 R261, R264). -/
inductive Route where
  | here
  | relay (port : Nat) (tile : Option (Nat × Nat))
  | broadcast
  | refuse (st : Status) (detail : Nat)
deriving DecidableEq, Repr

/-- Routing by TARGET. -/
def route (s : State) (c : Cmd) : Route :=
  if c.self then .here
  else if c.bcast then
    if s.sys.role = .sender then .broadcast
    else if c.path = 11 then .here else .refuse .unreachable c.target
  else if c.target = s.sys.deviceId ∧ s.sys.unassigned = false then .here
  else if s.sys.role ≠ .sender then .refuse .unreachable c.target
  else match tileOf s c.target with
    | some (n, pos) =>
      let e := topo s n pos
      if e.present && !e.ret then
        match relayPort s n pos with
        | some p => if p = n ∧ beyondBreak s c.target then .refuse .unreachable c.target
          else if e.credits = 0 then .refuse .noCredit c.target else .relay p (some (n, pos))
        | none => .refuse .unreachable c.target
      else .refuse .unreachable c.target
    | none =>
      if c.target / 2048 = senderIndex s ∧ pairPort s (c.target / 256 % 8) = false then .refuse .unreachable c.target
      else match peerPortFor s c.target with
        | some p => .relay p none
        | none => .refuse .unreachable c.target

/-- MGMT_TIMEOUT in ticks (07 R263). -/
def mgmtTimeout (s : State) : Nat := keyU s 0x0205 0 2 * msTicks

/-- Relay a command to another device in MGMT cells; a TILE's command takes a credit (07 R261, R262). -/
def relayCmd (s : State) (op : Nat) (c : Cmd) (port : Nat) (tile : Option (Nat × Nat)) : State :=
  let s1 := takeTag s op c
  let s2 := match tile with
    | some (n, pos) => setTopo s1 n pos { topo s1 n pos with credits := (topo s1 n pos).credits - 1 }
    | none => s1
  let s3 := { s2 with link.relays := s2.link.relays ++
      [{ tag := c.tag, target := c.target, path := c.path, origin := c.origin, notify := c.notify
         deadline := s.time.loc + mgmtTimeout s }] }
  sendCells s3 port (mgmtCells 0 false c.target s.sys.deviceId c.tag 12 0 (bytesOf (cmdWords op c)))

/-- The device IDs of every enumerated TILE of every Cascade, ascending. -/
def allTiles (s : State) : List Nat :=
  (List.range 8).flatMap fun n => (casc s n).entries.filterMap fun (_, e) =>
    if e.present && !e.ret then some e.devId else none

/-- Send a broadcast, through the head ports and the return ports that have taken over; the SENDER answers when every TILE
has (07 R264, R269). -/
def broadcastCmd (s : State) (op : Nat) (c : Cmd) : State :=
  let s1 := takeTag s op c
  let b : Bcast := { tag := c.tag, op := op, path := c.path, origin := c.origin, notify := c.notify
                     deadline := s.time.loc + mgmtTimeout s, waiting := allTiles s, answers := [] }
  let s2 := { s1 with link.bcast := some b }
  let ports := (List.range 8).filter fun p =>
    (portMode s p == 1 || (portMode s p == 2 && (wport s p).returnFeed)) && portLocked s p && !fenced s 2 p
  ports.foldl (fun t p => sendCells t p (mgmtCells 0 true 0 s.sys.deviceId c.tag 12 0 (bytesOf (cmdWords op c)))) s2

/-- A command's own part: its effect and its answer. -/
abbrev Body := Cmd → State → State × Reply

/-- STATE_REJECT's DETAIL: the build-layer state code for the BED build commands (R496), given by the caller. -/
def stateDetail (o : OpSpec) (buildState : Nat) : Nat :=
  if 0x52 ≤ o.op ∧ o.op ≤ 0x56 then buildState else 0

/-- What a mirror record carries beside the command (17 R629, R631): for LAYER_COMMIT the output frame number at which it
takes effect, and the CRCs of its still buffers, behind their number; for BUILD_ARM the CRCs of the jet lists. -/
def commitSlots (c : Cmd) : List Nat := (List.range 64).filter fun i => bit (pw c (i / 32)) (i % 32)
def stillCrc (s : State) (id : Nat) : Nat :=
  match stillBuf s id with
  | some b => crc32 (rdBytes s b.addr (b.pitch * b.height))
  | none => 0
def jetCrc (s : State) (h : Nat) : Nat := crc32 (rdBytes s (blist s h).addr (32 * (blist s h).count))
def commitFrame (x : Output) : Nat := (x.nextNo + b2n x.latched) % 65536
def mirrorWith (s : State) (op : Nat) (c : Cmd) : Nat × List Word :=
  if op = 0x31 then
    let ds := (commitSlots c).filterMap fun k => (layer s k).staged
    let ids := (ds.filter fun d => dType d == 1).map dSource
    ((ds.head?.map fun d => if counted s.sys.st then commitFrame (outp s (dOutput d)) else 0).getD 0, ids.eraseDups.flatMap fun id => [w32 id, w32 (stillCrc s id)])
  else if op = 0x53 then (0, (layerHeads s).flatMap fun h => [w32 h, w32 (jetCrc s h)])
  else (0, [])

/-- A mirror record for a command that the active unit of a pair has accepted and that changes the pair state: CFG_WRITE
of a pair key and CFG_COMMIT are among them (17 R629). -/
def mirrorCmd (s : State) (op : Nat) (c : Cmd) (r : Reply) : State :=
  if pairActive s = false ∨ 0x10 ≤ statusCode r.status ∨
      (changesPair s op (pw c 0 / 65536) || op == 0x12) = false then s else
  let m := mirrorWith s op c
  pairMirror s m.1 (cmdWords op c ++ if m.2.isEmpty then [] else w32 (m.2.length / 2) :: m.2)

/-- Checks 6 to 8 of R498 and the command's own part, on the device that executes it. -/
def execHere (o : OpSpec) (buildState : Nat) (body : Body) (c : Cmd) (s : State) : State × Reply :=
  if opInRole o s.sys.role = false then (s, rBad .roleReject 0)
  else if opInState o s.sys.st = false ∨ (pairStandby s && pairOpcode s.sys.role o.op) then (s, rBad .stateReject (stateDetail o buildState))
  else match o.len with
    | some n => if c.len ≠ n then (s, rBad .badLength n) else body c s
    | none => body c s

/-- The status refuses the command. -/
def refuses (st : Status) : Bool := decide (0x10 ≤ statusCode st)

/-- Execute on this device and answer; the tag stays in flight until the response is written, or, for
ACCEPTED, until CMD_DONE (R495). A COMMAND record of a command that is not refused enters a running capture (14_spillway
R555); a refused one does nothing else (00_scope R11). -/
def runHere (o : OpSpec) (buildState : Nat) (body : Body) (c : Cmd) (s : State) : State :=
  let s1 := takeTag s o.op c
  let p := execHere o buildState body c (capRec s1 0x02 0 0 (leBytes 4 c.path ++ bytesOf (cmdWords o.op c)))
  let q := if refuses p.2.status then execHere o buildState body c s1 else p
  answer (mirrorCmd q.1 o.op c q.2) o.op c q.2 (q.2.status != .accepted)

/-- MGMT commands of a TILE whose response has yet to leave: its command buffers in use (07 R262). -/
def mgmtBuffers (s : State) : Nat := (s.cmds.responses.filter fun r => r.path == 11).length

/-- The LEN that BAD_LENGTH names for a LEN above 62: the command's one length, also where its body checks it at another
place of the order (10 R361; 13 R517); 0xFFFF where the payload decides it (R496). -/
def lenNamed (o : OpSpec) : Nat :=
  match o.len with
  | some n => n
  | none =>
    match o.op with
    | 0x11 => 2
    | 0x50 => 20
    | 0x52 => 2
    | 0x53 => 0
    | 0x54 => 3
    | 0x55 => 0
    | 0x71 => 7
    | 0xB3 => 3
    | _ => 0xFFFF

/-- A host command from the checks of R498 to its response. -/
def runCmd (o : OpSpec) (buildState : State → Nat) (body : Body) (c : Cmd) (s : State) : State :=
  if s.sys.notReady then hwNotReady s c
  else if 62 < c.len then answer s o.op c (rBad .badLength (lenNamed o)) false
  else if tagInFlight s c.tag then tagConflict s o.op c
  else if c.self && c.bcast then answer s o.op c (rBad .badParam 0xFFFD) false
  else match route s c with
    | .here =>
      if c.bcast && !o.bcast then answer s o.op c (rBad .badParam 0) false
      else if c.path = 11 ∧ s.sys.role = .tile ∧ mgmtBuffers s ≥ 4 then answer s o.op c (rBad .busy 0) false
      else runHere o (buildState s) body c s
    | .relay p t => relayCmd s o.op c p t
    | .broadcast =>
      if !o.bcast then answer s o.op c (rBad .badParam 0) false
      else if s.link.bcast.isSome then answer s o.op c (rBad .busy 0) false
      else broadcastCmd s o.op c
    | .refuse st d =>
      let s1 := if st = .noCredit then
        (match tileOf s c.target with
          | some (n, _) => bump s 2 n 3
          | none => s) else s
      answer s1 o.op c (rBad st d) false

/-- Every state in which an opcode of states St, Rd, Rn, Ho, Sa is allowed. -/
def stRdRnHoSa : List DevState := [.standby, .ready, .run, .hold, .safe]
def stRdRnHo : List DevState := [.standby, .ready, .run, .hold]
def rdRnHo : List DevState := [.ready, .run, .hold]

/-- Rows of the opcode table by role letters. -/
def opTSB (op : Nat) (st : List DevState) (bc : Bool) (len : Option Nat) : OpSpec := ⟨op, true, true, true, st, bc, len⟩
def opT (op : Nat) (st : List DevState) (bc : Bool) (len : Option Nat) : OpSpec := ⟨op, true, false, false, st, bc, len⟩
def opS (op : Nat) (st : List DevState) (bc : Bool) (len : Option Nat) : OpSpec := ⟨op, false, true, false, st, bc, len⟩
def opB (op : Nat) (st : List DevState) (bc : Bool) (len : Option Nat) : OpSpec := ⟨op, false, false, true, st, bc, len⟩
def opTB (op : Nat) (st : List DevState) (bc : Bool) (len : Option Nat) : OpSpec := ⟨op, true, false, true, st, bc, len⟩
def opSB (op : Nat) (st : List DevState) (bc : Bool) (len : Option Nat) : OpSpec := ⟨op, false, true, true, st, bc, len⟩

end Sys2Proof.Machine
end

