-- ==== Sys2Proof/Machine/Thermal.lean ====
section
/-! DEFINITION. Temperature monitor, throttling, shutdown and AVS (15_thermal_ageing R567–R589). -/

namespace Sys2Proof.Machine

/-- Insert into a rising list, and sort a list of integers. -/
def insertInt (x : Int) : List Int → List Int
  | [] => [x]
  | y :: r => if x ≤ y then x :: y :: r else y :: insertInt x r
def sortInts : List Int → List Int
  | [] => []
  | x :: r => insertInt x (sortInts r)

/-- The lower median: the ceil(n / 2)-th smallest (R568). -/
def lowMedian (l : List Int) : Int := (sortInts l).getD ((l.length + 1) / 2 - 1) 0

/-- The largest element. -/
def maxInt? : List Int → Option Int
  | [] => none
  | x :: r => match maxInt? r with
    | none => some x
    | some y => some (max x y)

/-- An input of the monitor. -/
def sensor (s : State) (i : Nat) : Sensor := tabGet Sensor.cold s.th.sensors i
def setSensor (s : State) (i : Nat) (x : Sensor) : State :=
  { s with th.sensors := tabSet Sensor.cold s.th.sensors i x }

/-- SENSOR_ENABLE (R571). -/
def sensorOn (s : State) (i : Nat) : Bool := bit (keyU s 0x0E00 0 4) i

/-- The input's own reading, once it has converted (R568). -/
def ownReading (x : Sensor) : Option Int := if x.hist.isEmpty then none else some (lowMedian x.hist)

/-- A valid input: enabled, with a reading and not failed (R570). -/
def sensorValid (s : State) (i : Nat) : Bool :=
  sensorOn s i && !(sensor s i).hist.isEmpty && !(sensor s i).failed

/-- The neighbours of a die sensor (R567). -/
def neighbours (i : Nat) : List Nat :=
  let lo := if i < 16 then 0 else 16
  let n := if i < 16 then 16 else 8
  (List.range n).filterMap fun j =>
    let a := i - lo
    if (j / 4 == a / 4 && (j + 1 == a || a + 1 == j)) || (j % 4 == a % 4 && (j + 4 == a || a + 4 == j))
    then some (lo + j) else none

/-- Readings of the valid inputs of a list. -/
def validReadings (s : State) (l : List Nat) : List Int :=
  l.filterMap fun j => if sensorValid s j then ownReading (sensor s j) else none

/-- Inputs of the control die, the emitter die and outside. -/
def controlInputs : List Nat := List.range 16
def emitterInputs : List Nat := (List.range 8).map (· + 16)
def externalInputs : List Nat := (List.range 4).map (· + 24)

/-- Sum divided by number, toward minus infinity. -/
def meanInts (l : List Int) : Option Int := if l.isEmpty then none else some (fdiv l.sum l.length)

/-- The substitute of a failed input (R570): 8 °C is 128 units. -/
def substitute (s : State) (i : Nat) : Int :=
  let own := if i < 16 then controlInputs else emitterInputs
  let other := if i < 16 then emitterInputs else controlInputs
  let tries := if i < 24 then
      [maxInt? (validReadings s (neighbours i)), maxInt? (validReadings s (own.erase i)), maxInt? (validReadings s other)]
    else
      [maxInt? (validReadings s (externalInputs.erase i)), meanInts (validReadings s emitterInputs),
        maxInt? (validReadings s controlInputs)]
  match tries.filterMap id with
  | t :: _ => t + 128
  | [] => (s.th.limThrottle : Int) + 16

/-- Reading or substitute of an enabled input (R570). -/
def tempOf (s : State) (i : Nat) : Option Int :=
  if sensorOn s i then
    match ownReading (sensor s i) with
    | none => none
    | some r => some (if (sensor s i).failed then substitute s i else r)
  else none

/-- A temperature that an engine uses; an input with no reading yet gives a free value (log 11). -/
def tempUse (s : State) (i : Nat) : Int := (tempOf s i).getD (sgn 16 (Config.free s.sys.free (100 + i)))

/-- The mean of the enabled emitter-die sensors (03_lamp_drive R116). -/
def emitterMean (s : State) : Int :=
  (meanInts (emitterInputs.filterMap (tempOf s))).getD (sgn 16 (Config.free s.sys.free 130))

/-- The pair of a sensor and the highest value that `f` gives among inputs; the lowest index on a tie. -/
def hottest (f : Nat → Option Int) : List Nat → Option (Nat × Int)
  | [] => none
  | i :: r => match f i, hottest f r with
    | none, h => h
    | some v, none => some (i, v)
    | some v, some (j, w) => if w ≤ v then some (i, v) else some (j, w)

/-- T_hot and the sensor that sets it (R572). -/
def tHot (s : State) : Option (Nat × Int) := hottest (tempOf s) (List.range 24)

/-- The hottest valid sensor, on readings alone (R572). -/
def tHotReading (s : State) : Option (Nat × Int) :=
  hottest (fun i => if sensorValid s i then ownReading (sensor s i) else none) (List.range 24)

/-- The rate of rise of a valid die sensor over 200 ms, 0.0625 °C/s (R573). -/
def rateOf (s : State) (i : Nat) : Option Int :=
  let t := (sensor s i).track
  if sensorValid s i && decide (201 ≤ t.length) then some ((t.headD 0 - t.getD 200 0) * 5) else none

/-- The highest rate of rise. -/
def rateMax (s : State) : Option (Nat × Int) := hottest (rateOf s) (List.range 24)

/-! ### External inputs (19_pins_electrical R699; R596) -/

/-- NTC_CONFIG of an external input: its type and its parameter. -/
def ntcType (s : State) (i : Nat) : Nat := keyU s 0x0E01 (3 * (i - 24)) 1
def ntcParam (s : State) (i : Nat) : Nat := keyU s 0x0E01 (3 * (i - 24) + 1) 2

/-- `num / den` kelvin in units of 0.0625 °C, to nearest; what a signed 16-bit reading cannot hold saturates (log 71). -/
def unitsOf (num den : Int) : Int :=
  if den ≤ 0 then 0x7FFF else clampI (-0x8000) 0x7FFF (fdiv (2 * (1600 * num - 437040 * den) + 100 * den) (200 * den))

/-- An NTC of 10 kΩ at 25 °C with β in K: 1/T = 1/298.15 K + ln(R / 10 kΩ) / β, R in mΩ. -/
def ntcTemp (beta mOhm : Nat) : Int :=
  if mOhm = 0 then 0x7FFF else unitsOf (29815 * beta * fxOne : Nat) (100 * beta * fxOne + 29815 * fxLn (mOhm * fxOne / 10000000))

/-- A diode at 10 µA and 160 µA: ΔV_BE = n (k / q) T ln 16, in µV, n × 1000 the parameter. -/
def diodeTemp (ideal uV : Nat) : Int := unitsOf (uV * 16021766340 * fxOne : Nat) (1380649 * 1000 * ideal * 4 * fxLn2 : Nat)

/-- The temperature that a converted voltage stands for: the reading of a die sensor; of an external input its voltage, or
ΔV_BE, in µV. -/
def converted (s : State) (i : Nat) (v : Int) : Int :=
  if i < 24 then v
  else if ntcType s i = 0 then ntcTemp (ntcParam s i) (v.toNat * (if (sensor s i).lowRange then 200 else 10))
  else diodeTemp (ntcParam s i) v.toNat

/-- The current of an NTC input for its next conversion: 5 µA from 1.6 V at 100 µA on, 100 µA again where the resistance has
fallen 10 % below that, 72 mV at 5 µA (log 71). -/
def ntcLow (s : State) (i : Nat) (v : Int) : Bool :=
  24 ≤ i && ntcType s i == 0 && (if (sensor s i).lowRange then decide (72000 ≤ v) else decide (1600000 ≤ v))

/-! ### Conversions -/

/-- A conversion lies within the input's range (R569). -/
def inRange (i : Nat) (v : Int) : Bool := decide ((if i < 24 then (-880 : Int) else -640) ≤ v ∧ v ≤ 2400)

/-- Take one conversion of an input; `low` is its range for the next one. -/
def takeConversion (i : Nat) (v : Int) (low : Bool) (x : Sensor) : Sensor :=
  { x with
    lowRange := low
    stuckRun := if x.hist.getLast? = some v then x.stuckRun + 1 else 1
    rangeRun := if inRange i v then 0 else x.rangeRun + 1
    hist := lastN 16 (x.hist ++ [v]) }

/-- The disagreement condition of a die sensor at this conversion (R569). -/
def disagrees (s : State) (i : Nat) : Bool :=
  let ns := validReadings s (neighbours i)
  i < 24 && decide (2 ≤ ns.length) &&
    decide (240 < ((ownReading (sensor s i)).getD 0 - lowMedian ns).natAbs)

/-- The check an input now fails: 1 range, 2 stuck, 3 disagreement; 0 none (R569). -/
def failCheck (i : Nat) (x : Sensor) : Nat :=
  if 4 ≤ x.rangeRun then 1 else if i < 24 ∧ 10000 ≤ x.stuckRun then 2 else if 1000 ≤ x.disRun then 3 else 0

/-- Runs of an input after this conversion. -/
def updateRuns (s : State) (i : Nat) (d : Bool) : State :=
  let x := sensor s i
  let good := x.rangeRun == 0 && !(decide (i < 24) && decide (10000 ≤ x.stuckRun)) && !d
  setSensor s i { x with disRun := if d then x.disRun + 1 else 0, passRun := if good then x.passRun + 1 else 0 }

/-- A recovered input returns to service (R570). -/
def recoverSensor (s : State) (i : Nat) : State :=
  let s1 := setSensor s i { sensor s i with failed := false, releasing := false, track := [] }
  let s2 := liftFences (releaseLine s1 32 i) fun f => f.kind == 11 && f.inst == i
  raise (if fenced s 11 i then raise s2 0x0D02 (args [(1, 11), (2, i)]) else s2) 0x0E04 (args [(1, i)])

/-- Failure, recovery and the rate history of one input (R569, R570, R573, R577). -/
def judgeSensor (s : State) (i : Nat) : State :=
  let x := sensor s i
  if x.failed || (x.releasing && fenced s 11 i) then
    let fn := fenced s 11 i
    if (fn && x.releasing && decide (16 ≤ x.passRun)) || (!fn && decide (10000 ≤ x.passRun)) then recoverSensor s i else s
  else if failCheck i x ≠ 0 then
    let s1 := setSensor s i { x with failed := true, track := [] }
    let s2 := bump { s1 with th.floor := if 0 < s.th.level then max s.th.floor s.th.level else s.th.floor } 0x0E i 2
    assertLine s2 32 i (failCheck i x)
  else setSensor s i { x with track := ((ownReading x).getD 0 :: x.track).take 201 }

/-- A disabled input is not converted and is not failed (R570, R571). -/
def disableSensor (s : State) (i : Nat) : State :=
  let x := sensor s i
  releaseLine (setSensor s i { x with failed := false, rangeRun := 0, stuckRun := 0, disRun := 0, passRun := 0, track := [] }) 32 i

/-- Convert every input. -/
def convertAll (s : State) (v : List Int) : State :=
  let on := (List.range 28).filter (sensorOn s)
  let off := (List.range 28).filter fun i => !sensorOn s i
  let s1 := off.foldl disableSensor s
  let s2 := on.foldl (fun t i => setSensor t i (takeConversion i (converted t i (v.getD i 0)) (ntcLow t i (v.getD i 0)) (sensor t i))) s1
  let ds := on.map fun i => (i, disagrees s2 i)
  let s3 := ds.foldl (fun t p => updateRuns t p.1 p.2) s2
  on.foldl judgeSensor s3

/-! ### Threshold states and the throttle level -/

/-- Ticks of THROTTLE_STEP_MS. -/
def throttleStep (s : State) : Nat := keyU s 0x0E02 0 2 * msTicks

/-- Change the throttle level (R576). -/
def setLevel (s : State) (n : Nat) : State :=
  if n = s.th.level then s
  else raise (bump { s with th.level := n } 0x0E 0 1) 0x0E02 (args [(1, s.th.level), (1, n), (1, s.th.floor)])

/-- THERMAL_STATE (R575). -/
def thermalStateEvent (s : State) (code : Nat) (entered : Bool) : State :=
  let hot := (tHot s).getD (0, 0)
  let who := if code = 2 then (rateMax s).getD hot else hot
  raise s 0x0E01 (args [(1, code), (1, b2n entered), (1, who.1), (2, uns 16 hot.2)])

/-- Entry to THROTTLE or RISE while the other is not in force raises the level at once (R576). -/
def throttleEntry (s : State) (other : Bool) : State :=
  if other then s else setLevel { s with th.nextStep := s.time.loc + throttleStep s } (min 8 (s.th.level + 1))

/-- The last of THROTTLE and RISE ends: the level falls from here (R576). -/
def throttleExit (s : State) : State :=
  if s.th.throttle || s.th.rise then s else { s with th.nextStep := s.time.loc + 4 * throttleStep s }

/-- Length of a dwell in conversions (R572). -/
def dwell : Nat := 11

/-- WARN at this conversion (R572, R575). -/
def stepWarn (s : State) : State :=
  let t := tHot s
  let c := match t with
    | none => false
    | some (_, v) => if s.th.warn then decide (v < (s.th.limWarn : Int) - 48) else decide ((s.th.limWarn : Int) < v)
  let run := if c then s.th.warnRun + 1 else 0
  if run < dwell then { s with th.warnRun := run } else
  let s1 := { s with th.warnRun := 0, th.warn := !s.th.warn }
  let s2 := if s.th.warn then s1 else fire s1 29 (t.getD (0, 0)).1 (uns 32 (t.getD (0, 0)).2)
  thermalStateEvent s2 0 (!s.th.warn)

/-- THROTTLE at this conversion (R572). -/
def stepThrottle (s : State) : State :=
  let c := match tHot s with
    | none => false
    | some (_, v) =>
      if s.th.throttle then decide (v < (s.th.limThrottle : Int) - 48) else decide ((s.th.limThrottle : Int) < v)
  let run := if c then s.th.throttleRun + 1 else 0
  if run < dwell then { s with th.throttleRun := run } else
  let s1 := thermalStateEvent { s with th.throttleRun := 0, th.throttle := !s.th.throttle } 1 (!s.th.throttle)
  if s.th.throttle then throttleExit { s1 with th.stopMade := false } else throttleEntry s1 s.th.rise

/-- RISE at this conversion (R573, R575): 1 °C/s is 16 units. -/
def stepRise (s : State) : State :=
  let r := rateMax s
  let c := match r with
    | none => s.th.rise
    | some (_, v) => if s.th.rise then decide (v < (s.th.limRise : Int) - 16) else decide ((s.th.limRise : Int) < v)
  let run := if c then s.th.riseRun + 1 else 0
  if run < dwell then { s with th.riseRun := run } else
  let s1 := { s with th.riseRun := 0, th.rise := !s.th.rise }
  let s2 := if s.th.rise then s1 else fire s1 30 (r.getD (0, 0)).1 (uns 32 (r.getD (0, 0)).2)
  let s3 := thermalStateEvent s2 2 (!s.th.rise)
  if s.th.rise then throttleExit s3 else throttleEntry s3 s.th.throttle

/-- The shutdown record's 36 bytes (R583). -/
def shutdownRecord (s : State) (i : Nat) (temp : Int) : List Byte :=
  let rate := match rateOf s i with
    | some r => uns 16 r
    | none => Config.free s.sys.free 131 % 65536
  let front := [b8 1, b8 i] ++ leBytes 2 (min 0xFFFF (s.nv.shutCount + 1)) ++ leBytes 2 (uns 16 temp) ++
    leBytes 2 rate ++ leBytes 8 s.time.loc ++ bytesOf (timeRecord s.time.sys) ++ leBytes 2 s.th.limWarn ++ leBytes 2 0
  front ++ leBytes 4 (crc32 front)

/-- SHUTDOWN at this conversion: firing, record, PWR_OFF_REQ (R572, R582, R583). -/
def stepShutdown (s : State) : State :=
  if s.th.shutdown then s else
  let t := tHotReading s
  let c := match t with
    | none => false
    | some (_, v) => decide ((s.th.limShut : Int) < v)
  let run := if c then s.th.shutRun + 1 else 0
  if run < dwell then { s with th.shutRun := run } else
  let i := (t.getD (0, 0)).1
  let v := (t.getD (0, 0)).2
  let rec_ := shutdownRecord s i v
  let s1 := assertLine { s with th.shutRun := 0, th.shutdown := true } 31 i (uns 32 v)
  let s2 := { s1 with nv.shutRec := rec_, nv.shutCount := min 0xFFFF (s.nv.shutCount + 1), sys.pwrOffReq := true }
  emits s2 [.record 2 0 rec_, .pin 0 1]

/-- When the level became 8 with THROTTLE in force (R580). -/
def trackStop (s : State) : State :=
  if s.th.level = 8 ∧ s.th.throttle then
    match s.th.stopSince with
    | some _ => s
    | none => { s with th.stopSince := some s.time.loc }
  else { s with th.stopSince := none }

/-! ### Deviations (09_time R323) -/

/-- A calibrated value at temperature `t`, interpolated between the two calibration temperatures; floor (log 72). -/
def atTemp (t : Int) (cal : Bool → Int) : Int :=
  cal false + fdiv ((t - Config.calTemp false) * (cal true - cal false)) (Config.calTemp true - Config.calTemp false)

/-- The deviations of a lane by its quad's die sensor, RX also by its CTLE code. -/
def deviations (s : State) (l : Nat) : Int × Int :=
  let t := tempUse s (Config.quadSensor l)
  (atTemp t (Config.txCal l), atTemp t (Config.rxCal l (lane s l).ctle))

/-- A lane's deviations are recomputed; every value is a recorded input (09_time R324). -/
def takeDeviation (s : State) (l : Nat) : State :=
  let d := deviations s l
  capRec { s with time.dev := tabSet (0, 0) s.time.dev l d } 0x09 l 0
    (leBytes 4 6 ++ leBytes 8 (uns 64 d.1) ++ leBytes 8 (uns 64 d.2))

/-- Every 10 ms, for every lane. -/
def takeDeviations (s : State) : State :=
  if s.time.loc % (10 * msTicks) = 0 then (List.range 16).foldl takeDeviation s else s

/-- TEMP_CONVERSION (R568–R576): at a LOCAL time that is a multiple of 1 ms, once. `v` holds the raw
conversions by input. -/
def tempConversion (v : List Int) (s : State) : State :=
  if s.sys.porstLow ∨ s.time.loc % msTicks ≠ 0 ∨ s.th.lastConv = some s.time.loc then s else
  let s1 := convertAll { s with th.lastConv := some s.time.loc } v
  let s2 := if 0 < s1.th.level then bump s1 0x0E 0 0 else s1
  takeDeviations (trackStop (stepShutdown (stepRise (stepThrottle (stepWarn s2)))))

def execTempConversion (v : List Int) (s : State) : Host.Outcome State Fault Refusal := liveAny s (tempConversion v)

/-- The first of `base + k × period` after `now`. -/
def alignUp (base period now : Nat) : Nat :=
  if now < base then base else base + ((now - base) / max 1 period + 1) * period

/-- The floor returns to 0 (R577); the level then falls on its own grid of instants (R576). -/
def dropFloor (s : State) : State :=
  { s with th.floor := 0, th.nextStep := if s.th.level = s.th.floor ∧ 0 < s.th.level ∧ !s.th.throttle ∧ !s.th.rise
      then alignUp s.th.nextStep (4 * throttleStep s) s.time.loc else s.th.nextStep }

/-- THROTTLE_STEP (R576): up while THROTTLE or RISE is in force, down to the floor otherwise, when due. -/
def throttleDue (s : State) : State :=
  if s.sys.porstLow ∨ s.time.loc < s.th.nextStep then s
  else if s.th.throttle || s.th.rise then
    if 8 ≤ s.th.level then s
    else trackStop (setLevel { s with th.nextStep := s.th.nextStep + throttleStep s } (s.th.level + 1))
  else if s.th.floor < s.th.level then
    trackStop (setLevel { s with th.nextStep := s.th.nextStep + 4 * throttleStep s } (s.th.level - 1))
  else s

def execThrottleStep (s : State) : Host.Outcome State Fault Refusal := liveAny s throttleDue

/-! ### AVS -/

/-- The last voltage command is less than 2 ms old: the supply monitor takes the lower of the two (19_pins_electrical R693). -/
def avsFresh (s : State) : Bool :=
  match s.th.avsAt with
  | some t => decide (s.time.loc < t + 2 * msTicks)
  | none => false

/-- The commanded core voltage becomes `mv`. -/
def avsSet (s : State) (mv : Nat) : State :=
  emit { s with
    th.avsOld := if avsFresh s then min s.th.avsOld s.th.avsMv else s.th.avsMv, th.avsAt := some s.time.loc, th.avsMv := mv } (.avs mv)

/-- Command a core voltage over AVSBus; the same voltage again is no change (R586). -/
def avsCommand (s : State) (mv : Nat) : State := if mv = s.th.avsMv then s else bump (avsSet s mv) 0x0E 0 3

/-- A failed AVSBus transaction; the third in a row stops commanding (R588). -/
def avsFailed (s : State) : State :=
  let s1 := bump { s with th.busFails := s.th.busFails + 1 } 0x0E 0 5
  if s.th.busFails + 1 = 3 then
    fire { s1 with th.busStopped := true, th.retryAt := s.time.loc + 100 * msTicks } 34 0 1
  else s1

/-- The voltage that R586 commands with AVS_MODE = 1. -/
def avsTarget (s : State) (slack run : Nat) : Nat :=
  let t := keyU s 0x0E06 0 1
  let v := s.th.avsMv
  let fl := s.th.age.avsFloor
  if slack < t then min 850 (v + 5)
  else if v < fl then min fl (v + 5)
  else if 10 ≤ run then max fl (v - 5)
  else v

/-- AVS_TICK (R586–R589): the least slack, the regulator's voltage and current, and whether the
transactions of this millisecond succeeded. -/
def avsTick (slack mv ma10 : Nat) (ok : Bool) (s : State) : State :=
  if s.sys.porstLow ∨ s.th.busStopped then s
  else if ok = false then avsFailed s else
  let t := keyU s 0x0E06 0 1
  let run := if t + 4 < slack then s.th.slackRun + 1 else 0
  let low := if slack < t ∧ s.th.avsMv = 850 then s.th.lowRun + 1 else 0
  let s1 := { s with th.busFails := 0, th.vCore := mv % 65536, th.iCore := ma10 % 65536, th.slackRun := run, th.lowRun := low }
  let s2 := if low = 10 then fire s1 34 0 2 else s1
  if keyU s 0x0E04 0 1 = 0 then
    if s.th.fixedDone ∨ s.sys.st = .boot then s2
    else bump (avsSet { s2 with th.fixedDone := true } (keyU s 0x0E05 0 2)) 0x0E 0 3
  else if capoHeld s 3 0 then s2
  else avsCommand s2 (avsTarget s slack run)

def execAvsTick (slack mv ma10 : Nat) (ok : Bool) (s : State) : Host.Outcome State Fault Refusal :=
  live s (avsTick slack mv ma10 ok)

/-- AVSBUS_RETRY (R588): after success the regulator stands at its default of 800 mV (DEDUCED, log 12). -/
def avsbusRetry (ok : Bool) (s : State) : State :=
  if s.sys.porstLow ∨ s.th.busStopped = false ∨ s.time.loc < s.th.retryAt then s
  else if ok then { s with th.busStopped := false, th.busFails := 0, th.avsMv := 800, th.avsOld := 800, th.avsAt := none }
  else bump { s with th.retryAt := s.th.retryAt + 100 * msTicks } 0x0E 0 5

def execAvsbusRetry (ok : Bool) (s : State) : Host.Outcome State Fault Refusal := live s (avsbusRetry ok)

/-- SLACK_BELOW_ONE_TAP (R587): 25 mV up at once, under a hold or with AVS_MODE = 0 as well. -/
def slackBelowOneTap (s : State) : State :=
  if s.th.busStopped then s else
  let v := min 850 (s.th.avsMv + 25)
  raise (bump (avsSet s v) 0x0E 0 4) 0x0E07 (args [(2, v)])

def execSlackBelowOneTap (s : State) : Host.Outcome State Fault Refusal := live s slackBelowOneTap

end Sys2Proof.Machine
end

