-- ==== Sys2Proof/Machine/Grey.lean ====
section
/-! DEFINITION. The correction chain of a lamp: pixel code, pixel matrix, transfer curve, lamp entry,
temperature compensation and derating (02_emission_timeline R63, 03_lamp_drive R116–R118,
04_fretboard R134–R145). -/

namespace Sys2Proof.Machine

/-- Position of the most significant 1, by fuel. -/
def msbF : Nat → Nat → Nat
  | 0, _ => 0
  | k + 1, x => if x < 2 then 0 else 1 + msbF k (x / 2)
def msb (x : Nat) : Nat := msbF 64 x

/-- Decode a pixel code into the 24-bit linear value of R136. -/
def pixelDecode (c : Nat) : Nat :=
  let e := bits c 11 5
  let m := bits c 0 11
  if e = 0 then m / 32
  else if 19 ≤ e then 16777215
  else if 6 ≤ e then (2048 + m) * 2 ^ (e - 6)
  else (2048 + m) / 2 ^ (6 - e)

/-- A diagonal and an off-diagonal coefficient of a pixel entry, by colour and component (R139). -/
def entryDiag (p c : Nat) : Nat := bits p (66 + 14 * c) 14
def entryOff (p c j : Nat) : Int :=
  let at_ := match c, j with
    | 0, 1 => 0 | 0, 2 => 11 | 1, 0 => 22 | 1, 2 => 33 | 2, 0 => 44 | _, _ => 55
  sgn 11 (bits p at_ 11)

/-- The matrix result for colour `c` (R140). -/
def matrixApply (p c : Nat) (x : List Nat) : Nat :=
  let j := if c = 0 then 1 else 0
  let k := if c = 2 then 1 else 2
  let s : Int := (entryDiag p c : Int) * (x.getD c 0) +
    2 * (entryOff p c j * (x.getD j 0 : Int) + entryOff p c k * (x.getD k 0 : Int))
  satU 16777215 (fdiv s 8192)

/-- The input that entry `i` of a curve belongs to (R143). -/
def curveX (i : Nat) : Nat :=
  if i ≤ 32 then 512 * i else
  let k := (i - 32) / 32
  2 ^ (14 + k) + (i - 32) % 32 * 2 ^ (9 + k)

/-- An entry of a curve of a copy; the default curve's where nothing else was loaded (R145). -/
def curveEntry (s : State) (copy curve i : Nat) : Nat :=
  match tabGet none s.fret.curve (copy * 8192 + curve * 512 + i) with
  | some v => v % 2 ^ 22
  | none => min (3 * curveX i) 4194303

/-- Pixel and lamp entries of a copy (R139, R141). -/
def pixEntry (s : State) (copy i : Nat) : Nat := tabGet pixIdentity s.fret.pix (copy * 32768 + i)
def lampEntry (s : State) (copy i : Nat) : Nat := tabGet 0 s.fret.lamp (copy * 131072 + i)

/-- The entries that the engine reads: an entry of the active copy that has failed counts as the identity pixel entry, lamp
entry 0 or the default curve's entry for this frame (R155). -/
def entryFailed (s : State) (table i : Nat) : Bool := s.fret.failed.contains (table * 2 ^ 20 + i)
def enginePix (s : State) (i : Nat) : Nat := if entryFailed s 0 i then pixIdentity else pixEntry s s.fret.active i
def engineLamp (s : State) (i : Nat) : Nat := if entryFailed s 1 i then 0 else lampEntry s s.fret.active i
def engineCurve (s : State) (curve i : Nat) : Nat :=
  if entryFailed s 2 (curve * 512 + i) then min (3 * curveX i) 4194303 else curveEntry s s.fret.active curve i

/-- Evaluate a curve of the active copy (R143). -/
def curveApply (s : State) (curve m : Nat) : Nat :=
  let e := msb m
  let i := if m < 2 ^ 14 then m / 512 else 32 + (e - 14) * 32 + m / 2 ^ (e - 5) % 32
  let fb := if m < 2 ^ 14 then 9 else e - 5
  let frac := m % 2 ^ fb
  let a := engineCurve s curve i
  let b := engineCurve s curve (i + 1)
  satU 4194303 ((a : Int) + fdiv (((b : Int) - a) * frac) (2 ^ fb))

/-- G3 from Gc and a lamp entry (R144). -/
def lampApply (e gc : Nat) : Nat :=
  if gc = 0 then 0 else
  let gw := fdiv ((gc : Int) * (8192 + sgn 12 (bits e 12 12))) 8192
  satU 4194303 (gw + 4 * sgn 8 (bits e 0 8))

/-- The Basin word that a lamp reads (R137). -/
def lampPixel (s : State) (lamp : Nat) : Nat :=
  keyU s 0x0600 (2 * (lamp % 1536)) 2 + lamp / 1536 * keyU s 0x0601 0 2

/-- The temperature that TEMP_COMP_SOURCE names for a colour (R116). -/
def compTemp (s : State) (c : Nat) : Int :=
  let src := keyU s 0x0533 c 1
  if src = 4 then emitterMean s else tempUse s (24 + src)

/-- The factor K of colour `c` (R116). -/
def tempFactor (s : State) (c : Nat) : Nat :=
  let t := satU 2240 (compTemp s c + 320)
  let i := min (t / 70) 31
  let frac := t - 70 * i
  (keyU s (0x0530 + c) (2 * i) 2 * (70 - frac) + keyU s (0x0530 + c) (2 * i + 2) 2 * frac) / 70

/-- T_d: the highest reading among the inputs of DERATE_SOURCE (R117). -/
def derateTemp (s : State) : Int :=
  let ins := (List.range 4).filter fun i => bit (keyU s 0x0537 0 1) i
  match maxInt? (ins.filterMap fun i => tempOf s (24 + i)) with
  | some t => t
  | none => sgn 16 (Config.free s.sys.free 132)

/-- The factor at a temperature: 1 up to the knee, the floor from the full point on, linear between, truncated (R117). -/
def derateAt (knee full : Int) (fl : Nat) (t : Int) : Nat :=
  if t ≤ knee then 0x10000
  else if full ≤ t then fl
  else (0x10000 * (full - knee).toNat - (0x10000 - fl) * (t - knee).toNat) / (full - knee).toNat

/-- The target factor Q_t (R117). -/
def derateTarget (s : State) : Nat := derateAt (keyS s 0x0534 0 2) (keyS s 0x0535 0 2) (keyU s 0x0536 0 4) (derateTemp s)

/-- Q moves toward its target by at most DERATE_SLEW (R117). -/
def derateStep (s : State) : Nat :=
  let q := s.tl.q
  let t := derateTarget s
  let d := keyU s 0x0538 0 2
  if q < t then min t (q + d) else max t (q - d)

/-- The corrected grey of a lamp in a view, from the display bank, with the frame's latched factors
(R63, R64, R118). A lamp in OPEN or SHORT has 0 (R128). -/
def correctedGrey (s : State) (lamp view : Nat) : Nat :=
  let c := groupColour s (lamp % 1536 / 16)
  if c = 3 ∨ tabGet 0 s.tl.zeroed lamp ≠ 0 then 0 else
  let p := lampPixel s lamp
  let w := tabGet 0 s.tl.basin (s.tl.bank * 131072 + view * 32768 + p)
  let x := [pixelDecode (bits w 0 16), pixelDecode (bits w 16 16), pixelDecode (bits w 32 16)]
  let m := matrixApply (enginePix s p) c x
  let e := engineLamp s lamp
  let g3 := lampApply e (curveApply s (bits e 8 4) m)
  let k := [s.tl.k0, s.tl.k1, s.tl.k2].getD c 0x8000
  let g4 := min (g3 * k / 32768) 4194303
  g4 * s.tl.q * (s.tl.bright + 1) / 2 ^ 32

end Sys2Proof.Machine
end

