-- ==== Sys2Proof/Machine/Lamps.lean ====
section
/-! DEFINITION. What a slot's end tells the TILE: emitted pulses and charge, sink checks, rail reports,
lamp checks and lamp health (03_lamp_drive R89–R130). -/

namespace Sys2Proof.Machine

/-- L, S and D (02_emission_timeline R45, R47). -/
def scanLines (s : State) : Nat := keyU s 0x0400 0 1
def subFrames (s : State) : Nat := keyU s 0x0401 0 1
def deadTime (s : State) : Nat := keyU s 0x0402 0 2

/-- Lamps, groups, stages. -/
def lampH (s : State) (i : Nat) : LampH := tabGet LampH.cold s.lamps.lamp i
def setLampH (s : State) (i : Nat) (h : LampH) : State := { s with lamps.lamp := tabSet LampH.cold s.lamps.lamp i h }
def group (s : State) (g : Nat) : Group := tabGet Group.cold s.lamps.group g
def setGroup (s : State) (g : Nat) (x : Group) : State := { s with lamps.group := tabSet Group.cold s.lamps.group g x }
/-- A group is neither unused, nor fenced, nor held by the fence of its rail's stage (R90, R96, R115). -/
def groupLive (s : State) (g : Nat) : Bool :=
  groupColour s g != 3 && !fenced s 8 g &&
    match groupStage s g with
    | some n => !fenced s 9 n
    | none => true

/-- Health codes (R119). -/
def hOk : Nat := 0
def hSuspect : Nat := 1
def hOpen : Nat := 2
def hShort : Nat := 3

/-! ### Health transitions (R127) -/

/-- A lamp is verified (R120, R123). -/
def verified (h : LampH) : LampH := { h with age := 0, due := false, lateDue := false, overdue := false }

/-- Enter SUSPECT from a state. -/
def enterSuspect (h : LampH) (prevFail : Bool) (shorts : Nat) : LampH :=
  { h with health := 1, prevFail := prevFail, shortRun := shorts, shortsOk := true, recheck := 0 }

/-- The health after an open check or a probe (R127): only a probe takes a lamp out of OPEN. -/
def openObs (probe : Bool) (h : LampH) (fail : Bool) : LampH :=
  match h.health, fail with
  | 0, true => enterSuspect h true 0
  | 0, false => { h with prevFail := false }
  | 1, true => if h.prevFail then { h with health := 2 } else { h with prevFail := true }
  | 1, false => if h.shortsOk then { h with health := 0, prevFail := false, cameFrom := 0 } else { h with prevFail := false }
  | 2, false => if probe then { enterSuspect h false 0 with cameFrom := 2 } else h
  | _, _ => h

/-- The health after a short sample (R127); `n` is SHORT_CONFIRM. The sample that takes a lamp to SUSPECT
counts as the first of its failures (DEDUCED, log 14). -/
def shortObs (n : Nat) (h : LampH) (fail : Bool) : LampH :=
  match h.health, fail with
  | 0, true => enterSuspect h false 1
  | 1, true => if n ≤ h.shortRun + 1 then { h with health := 3, shortRun := 0, recheck := 0, due := false, lateDue := false }
      else { h with shortRun := h.shortRun + 1, shortsOk := false }
  | 1, false => { h with shortRun := 0 }
  | _, _ => h

/-- The re-check of a SHORT lamp (R129), due or not. -/
def recheckObs (n : Nat) (h0 : LampH) (fail : Bool) : LampH :=
  let h := { h0 with due := false, lateDue := false }
  if fail then { h with recheck := 0 }
  else if n ≤ h.recheck + 1 then { enterSuspect h false 0 with cameFrom := 3 }
  else { h with recheck := h.recheck + 1 }

/-- Store a lamp's new health, with LAMP_OPEN, LAMP_SHORT and LAMP_RECOVERED (R127). -/
def putHealth (s : State) (lamp : Nat) (h : LampH) : State :=
  let old := lampH s lamp
  let s1 := setLampH s lamp h
  if h.health = old.health then s1
  else if h.health = 2 then fire s1 17 (lamp % 1536 / 16) lamp
  else if h.health = 3 then fire s1 18 (lamp % 1536 / 16) lamp
  else if h.health = 0 ∧ old.cameFrom ≠ 0 then raise s1 0x0502 (args [(4, lamp), (4, old.cameFrom)])
  else s1

/-- An open check or probe of a lamp: counted, verified, health changed. -/
def openCheck (probe : Bool) (s : State) (lamp : Nat) (fail : Bool) : State :=
  let s1 := if fail then bump s 5 0 2 else s
  putHealth s1 lamp (verified (openObs probe (lampH s1 lamp) fail))

/-! ### Which lamps a slot checks -/

/-- The sub-frame of a lamp's probe slot (R122). -/
def probeSub (s : State) (frame sink : Nat) : Nat := (frame + sink) % max 1 (subFrames s)

/-- The frame in which OPEN lamps are re-probed and SHORT lamps re-checked (R129). -/
def reprobeFrame (frame lamp : Nat) : Bool := (frame + lamp) % 4096 == 0

/-- The lamp has an on-interval in the frame. -/
def hasPulse (s : State) (lamp : Nat) : Bool :=
  (List.range 4).any fun v => decide (0 < (tabGet ⟨0, 0, false, false⟩ s.tl.plan (lamp * 4 + v)).pulses)

/-- The lamp is probed in this slot: due, or an OPEN lamp in its frame of re-probing (R96, R122, R129). -/
def probed (s : State) (sl : Slot) (lamp : Nat) : Bool :=
  let h := lampH s lamp
  keyU s 0x0515 0 1 == 1 && sl.sub == probeSub s sl.frame (lamp % 1536) && !hasPulse s lamp &&
    (if h.health == 2 then reprobeFrame sl.frame lamp || h.due else h.health != 3 && h.due)

/-- The lamp's short sample is its re-check in this slot (R96, R129). -/
def rechecked (s : State) (sl : Slot) (lamp : Nat) : Bool :=
  let h := lampH s lamp
  h.health == 3 && (reprobeFrame sl.frame lamp || h.due) && sl.sub == probeSub s sl.frame (lamp % 1536)

/-! ### Rails (R105, R107–R110) -/

/-- A millivolt in the units of rail levels: the rail of a stage is code × 1200 / 4096 × RAIL_DIVIDER / 256 mV (R107). -/
def mvUnit : Nat := 2 ^ 20
def railLevel (s : State) (n : Nat) : Int := ((stage s n).code * 1200 * keyU s 0x0524 (2 * n) 2 : Nat)

/-- The clamp level of a stage's pads, and the level above which their short samples fail (R105, R126), in 2⁻²⁰ mV. -/
def clampLevel (s : State) (n : Nat) : Int := railLevel s n - (keyU s (0x0510 + stageColour s n) 0 2 * mvUnit : Nat)
def shortLevel (s : State) (n : Nat) : Int := railLevel s n - (keyU s 0x0513 0 2 * mvUnit : Nat)

/-- The short comparator of a sink's pad fires: the pad lies above V_rail − SHORT_THRESH (R126). -/
def padShort (s : State) (o : SlotObs) (sink : Nat) : Bool :=
  match groupStage s (sink / 16), o.pads.find? fun p => p.1 == sink with
  | some n, some p => decide (shortLevel s n < (p.2 * mvUnit : Nat))
  | _, _ => false

/-- The offset from which a group's pads are high-impedance in a slot (R90, R96, R115), and the one from which its sinks
emit nothing. -/
def groupCut (sl : Slot) (g : Nat) : Option Nat := (sl.cuts.find? fun p => p.1 == g).map (·.2)
def emitEnd (sl : Slot) (g : Nat) : Option Nat :=
  match sl.stop, groupCut sl g with
  | some x, some y => some (min x y)
  | some x, none => some x
  | none, c => c

/-- An instant of the slot came while its group's pads were driven. -/
def beforeStop (sl : Slot) (g t : Nat) : Bool :=
  decide (t < sl.len) && match emitEnd sl g with
    | none => true
    | some x => decide (t < x)

/-- Headroom of a sink in a slot, mV. -/
def headroomOf (o : SlotObs) (sink : Nat) : Nat :=
  match o.headroom.find? fun p => p.1 == sink with
  | some p => p.2
  | none => 2550

/-- An on-interval that is sampled at t_on + 360 (R108, R120): at least 400 ticks, on a live group's pad that is not held at
the clamp (R128). -/
def sampled (sl : Slot) (r : OnRec) : Bool :=
  decide (400 ≤ r.tOff - r.tOn) && beforeStop sl (r.sink / 16) (r.tOn + 360) && !sl.held.contains r.sink

/-- The record's sink belongs to the stage's rail. -/
def onRail (s : State) (n : Nat) (r : OnRec) : Bool :=
  groupColour s (r.sink / 16) == stageColour s n && groupZone s (r.sink / 16) == stageZone s n

/-- The rail is rail-low in the slot (R109). -/
def railLow (s : State) (sl : Slot) (o : SlotObs) (n : Nat) : Bool :=
  decide (keyU s 0x0517 0 1 <
    (sl.recs.filter fun r => onRail s n r && sampled sl r && decide (headroomOf o r.sink < 50)).length)

/-- The least headroom among contributing pulses (R108). -/
def railMin (s : State) (sl : Slot) (o : SlotObs) (n : Nat) : Option Nat :=
  (sl.recs.filter fun r => onRail s n r && sampled sl r && !r.low && decide ((lampH s (sl.line * 1536 + r.sink)).health < 2) &&
      decide (50 ≤ headroomOf o r.sink)).foldl
    (fun m r => some (match m with
      | none => headroomOf o r.sink
      | some x => min x (headroomOf o r.sink))) none

/-- The line is in LINE_DROPOUT for the rail (R130). -/
def lineDropped (s : State) (n line : Nat) : Bool := tabGet 0 s.lamps.dropped (n * 64 + line) != 0

/-- The rail's report of the slot: a code, or none for no demand (R108–R110, R130). -/
def railReport (s : State) (sl : Slot) (o : SlotObs) (n : Nat) : Option Nat :=
  if sl.emitted = false ∨ lineDropped s n sl.line then none
  else if railLow s sl o n then some 0
  else (railMin s sl o n).map fun mv => min 255 (mv / 10)

/-- Append a report to the runs of the frame (14_spillway R555); no demand is written 0xFF (log 13). -/
def pushMin (n code : Nat) : List (Nat × Nat × Nat) → List (Nat × Nat × Nat)
  | [] => [(n, 1, code)]
  | (m, len, c) :: r =>
    if m = n then (if c = code then (m, len + 1, c) :: r else (n, 1, code) :: (m, len, c) :: r)
    else (m, len, c) :: pushMin n code r

/-- A rail's reported minimum enters the sink compliance history: the least one of the replan period is kept (R111;
15_thermal_ageing R590; log 63). -/
def complianceHistory (s : State) (n : Nat) (rep : Option Nat) : State :=
  match rep with
  | none => s
  | some c => { s with th.age.railLeast := tabUpd 0 s.th.age.railLeast n fun m => if m = 0 then c + 1 else min m (c + 1) }

/-- Record one rail's report and its counters. A rail-low slot of a line in LINE_DROPOUT reports no demand and counts in
RAIL_LOW_SLOT and in NO_DEMAND_SLOT (DESIGN CHOICE, log 56). -/
def reportRail (sl : Slot) (o : SlotObs) (s : State) (n : Nat) : State :=
  let low := sl.emitted && railLow s sl o n
  let rep := railReport s sl o n
  let s1 := setStage s n { stage s n with report := rep, railLow := low }
  let s2 := complianceHistory { s1 with lamps.minima := pushMin n (rep.getD 255) s1.lamps.minima } n rep
  let s3 := if rep.isNone then bump s2 5 0 5 else s2
  if low then
    { bump s3 5 0 4 with
      lamps.lowLine := tabUpd 0 s3.lamps.lowLine (n * 64 + sl.line) (· + 1)
      lamps.lowTotal := tabUpd 0 s3.lamps.lowTotal n (· + 1) }
  else s3

/-- The rail of a sink was rail-low in the slot just reported: its checks are disregarded (R109). -/
def sinkRailLow (s : State) (sink : Nat) : Bool :=
  match groupStage s (sink / 16) with
  | some n => (stage s n).railLow
  | none => false

/-! ### Sinks (R94, R95) -/

/-- A sink has failed: the shadow sink takes over its pad, or the group is fenced (R95). -/
def sinkFailed (s : State) (sink : Nat) : State :=
  let g := sink / 16
  match (group s g).subst with
  | some _ => fire s 16 g sink
  | none =>
    let s0 := calAbandon s 0 g 1
    let s1 := setGroup s0 g { group s0 g with subst := some sink, calHeld := false, pad := none }
    let s2 := calWrite { s1 with nv.subst := tabSet 0 s1.nv.subst g (sink + 1) } 0 g
    raise s2 0x0501 (args [(4, g), (4, sink)])

/-- A sink-current check enters its rail's ageing record (15_thermal_ageing R590). -/
def railSample (s : State) (sink : Nat) (off : Bool) : State :=
  match groupStage s (sink / 16) with
  | none => s
  | some n => { s with th.age.railChecks := tabUpd 0 s.th.age.railChecks n (· + 1)
                       th.age.railDev := if off then tabUpd 0 s.th.age.railDev n (· + 1) else s.th.age.railDev }

/-- The current check of one on-interval (R94). -/
def currentCheck (o : SlotObs) (s0 : State) (r : OnRec) : State :=
  if r.low || decide (headroomOf o r.sink < 50) then s0 else
  let s := railSample s0 r.sink (o.badCurrent.contains r.sink || o.offCurrent.contains r.sink)
  if o.badCurrent.contains r.sink then
    let n := tabGet 0 s.lamps.sinkFail r.sink + 1
    if 3 ≤ n then sinkFailed { s with lamps.sinkFail := tabSet 0 s.lamps.sinkFail r.sink 0 } r.sink
    else { s with lamps.sinkFail := tabSet 0 s.lamps.sinkFail r.sink n }
  else { s with lamps.sinkFail := tabSet 0 s.lamps.sinkFail r.sink 0 }

/-! ### The end of a slot -/

/-- The on-interval as the emitter die emitted it: a pulse that has begun when emission is removed lasts at least 10 ticks
(02 R48; the removal's 10 ns, 11 R435, leave room for it). -/
def cutRec (sl : Slot) (r : OnRec) : OnRec :=
  match emitEnd sl (r.sink / 16) with
  | none => r
  | some x => if x ≤ r.tOn then { r with tOff := r.tOn } else { r with tOff := min r.tOff (max x (r.tOn + 10)) }

/-- The current of a sink of colour `c` in a range, in units of 15.625 µA / 16 (R91). -/
def sinkCurrent (s : State) (c : Nat) (low : Bool) : Nat := (s.tl.drive.getD c 0 + 1) * (if low then 1 else 16)

/-- One emitted pulse: the pulse itself, its charge (04_fretboard R157) and, of a diagnostic stretch, its count (R133). The
pad of a SHORT lamp is held at the clamp and emits none (R128). -/
def emitPulse (sl : Slot) (s : State) (r : OnRec) : State :=
  let e := cutRec sl r
  if e.tOff ≤ e.tOn ∨ sl.held.contains r.sink then s else
  let lamp := sl.line * 1536 + r.sink
  let i := sinkCurrent s (groupColour s (r.sink / 16)) r.low
  let s1 := if r.stretch then bump s 5 0 0 else s
  emit { s1 with fret.acc := tabUpd 0 s1.fret.acc lamp (fun a => (a + (e.tOff - e.tOn) * i) % 2 ^ 48) }
    (.pulse r.sink sl.frame sl.k r.low i e.tOn e.tOff)

/-- A scan output that differed from its driven level (R102). -/
def scanCheck (o : SlotObs) (s : State) (p : Nat) : State :=
  let n := if o.scanBad.contains p then tabGet 0 s.lamps.scanBad p + 1 else 0
  let s1 := { s with lamps.scanBad := tabSet 0 s.lamps.scanBad p n }
  if n = 3 then fire s1 19 (p / 4) (p % 4) else s1

/-- The short sample of a sink's lamp, or its re-check (R126, R127, R129); every failed one counts (R133). -/
def shortCheck (sl : Slot) (o : SlotObs) (s : State) (sink : Nat) : State :=
  let lamp := sl.line * 1536 + sink
  let fail := padShort s o sink
  let s1 := if fail then bump s 5 0 3 else s
  let n := keyU s1 0x0514 0 1
  if (lampH s1 lamp).health ≠ 3 then putHealth s1 lamp (shortObs n (lampH s1 lamp) fail)
  else if rechecked s1 sl lamp then putHealth s1 lamp (recheckObs n (lampH s1 lamp) fail)
  else s1

/-- The probe, short sample, open check and current check of one sink of the line, in their order (R94, R103, R120). In a
rail-low slot the lamp's checks are disregarded (R109); the sink's current check is not. -/
def checkSink (sl : Slot) (o : SlotObs) (s : State) (sink : Nat) : State :=
  let lamp := sl.line * 1536 + sink
  let g := sink / 16
  let low := sinkRailLow s sink
  let d := deadTime s
  let probe := probed s sl lamp && beforeStop sl g (d - 80)
  let s1 := if probe then bump s 5 0 1 else s
  let s2 := if probe && !low then openCheck true s1 lamp (o.probeFail.contains sink) else s1
  let s3 := if beforeStop sl g (d - 40) && !low then shortCheck sl o s2 sink else s2
  match sl.recs.find? fun r => r.sink == sink with
  | some r =>
    if sampled sl r then
      currentCheck o (if low then s3 else openCheck false s3 lamp (decide (headroomOf o sink < 50))) r
    else s3
  | none => s3

/-- The lamps whose comparator or probe failed in the slot (14_spillway R555). -/
def failLamps (s : State) (sl : Slot) (o : SlotObs) : List Nat :=
  ((o.headroom.filter fun p => decide (p.2 < 50)).map (·.1) ++ o.probeFail ++
    (o.pads.map (·.1)).filter (padShort s o)).map (sl.line * 1536 + ·)

/-! ### The pads and the scan port in a slot (R93, R97–R103) -/

/-- The pad of a group that its shadow sink drives: for good, or for a calibration. -/
def shadowPad (x : Group) : Option Nat :=
  match x.subst with
  | some sink => some (sink % 16)
  | none => x.pad

/-- Ticks for which the shadow sink carries a pad: 20 cells, 50 µs each (16_calibration R600). -/
def padTicks : Nat := 20 * 50 * usTicks

/-- At tick 0 of a slot the shadow sink of a group under calibration gives a pad back or takes the next one over, and gives
the last one back when the calibration has left it (R93; 16 R600). -/
def shadowStep (s : State) (g : Nat) : State :=
  let x := group s g
  if x.calHeld = false then setGroup s g { x with pad := none }
  else match x.pad with
    | some n => if s.time.loc < x.padAt + padTicks then s else setGroup s g { x with pad := none, padNext := n + 1 }
    | none => if x.padNext < 16 then setGroup s g { x with pad := some x.padNext, padAt := s.time.loc } else s

/-- Groups whose shadow sink is not idle. -/
def shadowGroups (s : State) : List Nat := (List.range 96).filter fun g => (group s g).calHeld || (group s g).pad.isSome

/-- The pads of a slot that begins, with the emitter die's outputs running; probes only while emission is on (R125). -/
def padsOut (s : State) (sl : Slot) : Out :=
  let d := deadTime s
  let line := s.lamps.lamp.filter fun p => p.1 / 1536 == sl.line
  let probes := if sl.emitted then (line.filter fun p => probed s sl p.1 && (groupCut sl (p.1 % 1536 / 16)).isNone).map (·.1 % 1536) else []
  .pads sl.frame sl.k ((stagesOn s).map fun n => (n, clampLevel s n, shortLevel s n)) (keyU s 0x0505 0 2) sl.held
    (sl.held.filter fun n => rechecked s sl (sl.line * 1536 + n)) probes (d - 720) (d - 80)
    ((List.range 96).filterMap fun g => (shadowPad (group s g)).map fun n => (g, n + 1))

/-- The CLK period P in ticks, the bits of a shift, and what DATA carries for a line, first bit first (R97, R98). -/
def scanClk (s : State) : Nat := keyU s 0x0506 0 1 * 32
def scanBits (s : State) (line : Nat) : List Bool :=
  if keyU s 0x0507 0 1 = 0 then (List.range 6).map fun i => bit line (5 - i) else [line == 0]

/-- The edges of one shift that begins at tick `t`: CLK rises at the start of each period and falls after ⌊P/2⌋ ticks, where
DATA changes to the next bit; after the last bit it takes the first bit of the shift that follows (log 62). -/
def shiftEdges (p : Nat) : Nat → List Bool → Bool → List (Nat × Nat × Bool)
  | _, [], _ => []
  | t, _ :: r, next =>
    [(t, 0, true), (t + p / 2, 0, false), (t + p / 2, 1, r.headD next)] ++ shiftEdges p (t + p) r next

/-- The edges of the scan outputs in slot `k`, before inversion (R98, R99, R103): tick, output, active. None with one scan
line, whose CLK, DATA and LATCH stay low (R101). -/
def slotEdges (s : State) (k : Nat) : List (Nat × Nat × Bool) :=
  let l := scanLines s
  let b := keyU s 0x0505 0 2
  if l ≤ 1 then [] else
  [(0, 3, false), (b - 80, 2, true), (b - 40, 2, false), (b, 3, true)] ++
    shiftEdges (scanClk s) (deadTime s) (scanBits s ((k + 1) % l)) ((scanBits s ((k + 2) % l)).headD false)

/-- The slot's edges up to its end, or to where the port stopped. -/
def scanSlot (sl : Slot) (s : State) : State :=
  let last := (sl.scanStop.map fun x => min x sl.len).getD sl.len
  ((slotEdges s sl.k).filter fun e => decide (e.1 < last)).foldl (fun t e => driveScan t e.2.1 e.2.2 (sl.start + e.1)) s

/-- The running slot ends: scan edges, pulses, charge, scan monitors, rail reports and, while emission was on, the
checks (R94, R98, R102, R108, R120–R129). -/
def endSlot (o : SlotObs) (s : State) : State :=
  match s.tl.slot with
  | none => s
  | some sl =>
    let s0 := scanSlot sl s
    let s1 := if sl.emitted then sl.recs.foldl (emitPulse sl) s0 else s0
    let s2 := (List.range 12).foldl (scanCheck o) s1
    let s3 := (stagesOn s2).foldl (reportRail sl o) s2
    let s4 := if sl.emitted then (List.range 1536).foldl (checkSink sl o) s3 else s3
    let fl := if sl.emitted then failLamps s3 sl o else []
    let s5 := if fl.isEmpty then s4 else capRec s4 7 1 0 (fl.flatMap (leBytes 4))
    { s5 with tl.slot := none, loops.ended := s5.loops.ended + 1, loops.endedLen := sl.len }

/-! ### The frame's part of lamp health (R123, R124, R130) -/

/-- A lamp exists: its line is scanned and its group is used. -/
def lampUsed (s : State) (lamp : Nat) : Bool :=
  decide (lamp < scanLines s * 1536) && groupColour s (lamp % 1536 / 16) != 3

/-- Every used lamp. -/
def usedLamps (s : State) : List Nat := (List.range (scanLines s * 1536)).filter (lampUsed s)

/-- A lamp is due for a check in a frame (R123); one in OPEN or SHORT only on its group's return (R96). -/
def dueIn (s : State) (frame lamp : Nat) (h : LampH) : Bool :=
  match h.health with
  | 0 => h.lateDue || (decide (keyU s 0x0516 0 1 ≤ h.age) && (frame + lamp) % 64 == 0)
  | 1 => true
  | _ => h.lateDue

/-- A lamp at a frame's start: its age advances; a due check that did not take place keeps it due; VERIFY_OVERDUE where the
age would pass 255, once until the lamp is verified, whether or not checks are made (R119, R123–R125). -/
def ageLamp (frame : Nat) (s : State) (lamp : Nat) : State :=
  let h := lampH s lamp
  let late := decide (255 ≤ h.age) && !h.overdue
  let h1 := { h with age := min 255 (h.age + 1), lateDue := h.due, overdue := h.overdue || late }
  let s1 := setLampH s lamp { h1 with due := dueIn s frame lamp h1 }
  if late then raise s1 0x0503 (args [(4, lamp), (4, 255)]) else s1

/-- LINE_DROPOUT of one rail over the frame that ends (R130). -/
def dropoutRail (s : State) (n : Nat) : State :=
  let hit := (List.range (scanLines s)).find? fun l =>
    tabGet 0 s.lamps.lowLine (n * 64 + l) == subFrames s && tabGet 0 s.lamps.lowTotal n == subFrames s
  (List.range (scanLines s)).foldl (fun t l =>
    let k := n * 64 + l
    let c := hit == some l
    let run := if c then tabGet 0 t.lamps.dropRun k + 1 else 0
    let quiet := if c then 0 else tabGet 0 t.lamps.dropQuiet k + 1
    let inForce := tabGet 0 t.lamps.dropped k != 0
    if !inForce && decide (8 ≤ run) then
      raise { t with lamps.dropped := tabSet 0 t.lamps.dropped k 1, lamps.dropRun := tabSet 0 t.lamps.dropRun k 0
                     lamps.dropQuiet := tabSet 0 t.lamps.dropQuiet k 0 }
        0x0505 (args [(4, stageColour t n), (4, l)])
    else if inForce && decide (8 ≤ quiet) then
      raise { t with lamps.dropped := tabSet 0 t.lamps.dropped k 0, lamps.dropQuiet := tabSet 0 t.lamps.dropQuiet k 0 }
        0x0506 (args [(4, stageColour t n), (4, l)])
    else { t with lamps.dropRun := tabSet 0 t.lamps.dropRun k run
                  lamps.dropQuiet := tabSet 0 t.lamps.dropQuiet k (if inForce then quiet else 0) }) s

/-- The rail minima of a frame, as captured (14_spillway R555). -/
def captureMinima (s : State) : State :=
  let s1 := (stagesOn s).foldl (fun t n =>
    capRec t 7 (16 + n) 0 ((t.lamps.minima.reverse.filter fun m => m.1 == n).flatMap fun m => leBytes 2 m.2.1 ++ leBytes 1 m.2.2)) s
  { s1 with lamps.minima := [] }

/-- A frame's start for the lamps: dropout of the frame that ends, groups that return, ages and due checks. A released group
returns at the next frame start, a nominal one included; each of its lamps is then due (R96; DESIGN CHOICE, log 55). -/
def lampsFrame (frame : Nat) (s : State) : State :=
  let s1 := captureMinima ((stagesOn s).foldl dropoutRail s)
  let s2 := { s1 with lamps.lowLine := [], lamps.lowTotal := [] }
  let back := (List.range 96).filter fun g => (group s2 g).returning
  let s3 := back.foldl (fun t g => raise (liftFences (setGroup t g { group t g with returning := false })
    fun f => f.kind == 8 && f.inst == g) 0x0D02 (args [(1, 8), (2, g)])) s2
  let s4 := (usedLamps s3).foldl (fun t l =>
    if back.contains (l % 1536 / 16) then setLampH t l { lampH t l with due := true } else t) s3
  (usedLamps s4).foldl (ageLamp frame) s4

/-- Lamps in a health state (R133). -/
def countHealth (s : State) (h : Nat) : Nat := (s.lamps.lamp.filter fun p => p.2.health == h).length

/-! ### Rails and stages by device state (R107, R114, R115) -/

/-- The least and the greatest code of a stage's reference (R107). -/
def codeMin (s : State) (n : Nat) : Nat :=
  cdiv (keyU s (0x0521 + stageColour s n) 0 2 * 256 * 4096) (max 1 (keyU s 0x0524 (2 * n) 2 * 1200))
def codeMax (s : State) (n : Nat) : Nat :=
  min 4095 (keyU s (0x0521 + stageColour s n) 2 2 * 256 * 4096 / max 1 (keyU s 0x0524 (2 * n) 2 * 1200))

/-- A stage that is on keeps its code within its limits (R107). -/
def limitStage (s : State) (n : Nat) : State :=
  let x := stage s n
  let c := max (codeMin s n) (min (codeMax s n) x.code)
  if x.mode = 0 ∨ x.code = c then s else setStage s n { x with code := c }

/-- Start a stage: the soft-start to RAIL_V_MAX (R114). -/
def startStage (s : State) (n : Nat) : State :=
  if fenced s 9 n then s
  else setStage s n { stage s n with mode := 1, softAt := s.time.loc, code := codeMax s n, limAt := none, limRaised := false }

/-- Every entry to READY starts every enabled stage; BOOT, STANDBY, SAFE and SERVICE switch them off (R114). -/
def startStages (s : State) : State := (stagesOn s).foldl startStage s

/-- The rail's mode follows the state: held, or regulating (R114). -/
def setStageModes (s : State) (m : Nat) : State :=
  (stagesOn s).foldl (fun t n => if (stage t n).mode = 0 ∨ (stage t n).mode = 1 then t else setStage t n { stage t n with mode := m }) s

/-- The rail is in RUN or in HOLD with display (R114). -/
def displayed (s : State) : Bool := s.sys.st == .run || (s.sys.st == .hold && !s.sys.holdDark)

/-- Track how long a rail that has been started stays at a limit, regulated or held (R114). -/
def trackLimit (s : State) (n : Nat) : State :=
  let x := stage s n
  let side := if x.code ≤ codeMin s n then 1 else if codeMax s n ≤ x.code then 2 else 0
  if side = 0 ∨ x.mode = 0 ∨ x.mode = 1 then setStage s n { x with limAt := none, limSide := 0, limRaised := false }
  else if side = x.limSide ∧ x.limAt.isSome then s
  else setStage s n { x with limAt := some s.time.loc, limSide := side, limRaised := false }

/-- RAIL_LIMIT (R114): a rail has stayed at its limit for 1 s; raised once. -/
def railLimit (n : Nat) (s : State) : State :=
  let x := stage s n
  match x.limAt with
  | some t =>
    if s.sys.role = .tile ∧ x.limRaised = false ∧ t + secTicks ≤ s.time.loc then
      raise (setStage s n { x with limRaised := true }) 0x0504 (args [(4, n), (4, x.limSide - 1)])
    else s
  | none => s

def execRailLimit (n : Nat) (s : State) : Host.Outcome State Fault Refusal := live s (railLimit n)

end Sys2Proof.Machine
end

