-- ==== Sys2Proof/Machine/Timeline.lean ====
section
/-! DEFINITION. The emission timeline of a TILE: flip times, the decision instant, frames, slots and
on-intervals (02_emission_timeline). -/

namespace Sys2Proof.Machine

/-- The timeline runs: flips are processed in READY, RUN and HOLD (R78). -/
def timelineOn (s : State) : Bool :=
  s.sys.role == .tile && (s.sys.st == .ready || s.sys.st == .run || s.sys.st == .hold)

/-- F_lo and F_hi, rounded outward (R49). -/
def frameLo (nom tol : Nat) : Nat := nom * (1000000 - tol) / 1000000
def frameHi (nom tol : Nat) : Nat := cdiv (nom * (1000000 + tol)) 1000000

/-- Slots of a frame, and a slot's start relative to the flip time (R45, R46). -/
def slotCount (s : State) : Nat := scanLines s * subFrames s
def slotAt (f n k : Nat) : Nat := k * f / max 1 n

/-! ### Flip times (R50–R52) -/

/-- Count and report a discarded flip time (R51). -/
def flipInvalid (s : State) (num reason : Nat) : State :=
  raise (bump s 4 0 2) 0x0403 (args [(4, num), (4, reason)])

/-- Frames from the last accepted flip to flip `num` an interval of `dt` ticks on: one for a number accepted before; else as
many as the numbers differ, or whole turns of the counter more where that lies nearer to the interval (log 15). -/
def flipFrames (s : State) (f : Flip) (num : Nat) (dt : Int) : Nat :=
  let d := (num + 65536 - f.num) % 65536
  if s.tl.accepted.contains num then 1 else
  let turn : Int := 65536 * keyU s 0x0403 0 4
  d + 65536 * max (if d = 0 then 1 else 0) (rdiv (dt - d * keyU s 0x0403 0 4) turn).toNat

/-- The interval from the last accepted flip time is out of tolerance (R51), taken over the frames
between the two numbers (DEDUCED, log 15). -/
def intervalBad (s : State) (num : Nat) (at_ : Int) : Bool :=
  match s.tl.lastFlip with
  | none => false
  | some f =>
    let d := flipFrames s f num (at_ - f.at_)
    let nom := keyU s 0x0403 0 4
    let tol := keyU s 0x0404 0 2
    decide (at_ - f.at_ < d * frameLo nom tol) || decide ((d * frameHi nom tol : Int) < at_ - f.at_)

/-- The reason for which a flip time is discarded, the lowest that holds (DESIGN CHOICE, log 51); 0 accepts it (R51, R87).
After a step of SYSTEM time the next one is tested for its lead only (09_time R327). -/
def flipReason (s : State) (num : Nat) (at_ : Int) : Nat :=
  if at_ - 50000 ≤ nowSys s then 1
  else if s.time.nextFlipUntested then 0
  else if intervalBad s num at_ then 2
  else if s.tl.accepted.contains num then 3
  else 0

/-- The number is that of the frame after frame `k`, or of one that lies behind it. -/
def follows (k num : Nat) : Bool :=
  let d := (num + 65536 - k) % 65536
  decide (d ≤ 1) || decide (32768 < d)

/-- The held flip that ends the running frame: the one of the next number, or one whose time comes before the end of the
frame's grid; a frame whose flip time is not held runs on FRAME_PERIOD_NOM before a later one counts (R50, R52). -/
def heldNext (s : State) : Option Flip :=
  match s.tl.flips with
  | [] => none
  | f :: _ =>
    if s.tl.active = false ∨ s.tl.waiting ∨ follows s.tl.frameNo f.num ∨ f.at_ ≤ s.tl.start + s.tl.len then some f else none

/-- The next flip: the accepted one held, or, while a frame runs with none held, the end of its
nominal grid (R50, R80). -/
def nextFlip (s : State) : Option Flip :=
  match heldNext s with
  | some f => some f
  | none => if s.tl.active && !s.tl.waiting then some ⟨(s.tl.frameNo + 1) % 65536, s.tl.start + s.tl.len⟩ else none

/-- A flip time taken from SYNC cells (R51, R52); a repeat of a cell is ignored (07 R245). The newest 32 768 numbers count as
accepted (DESIGN CHOICE, log 51). A decision made for another flip than the one that is next now does not stand. -/
def takeFlip (num : Nat) (at_ : Int) (s : State) : State :=
  if timelineOn s = false ∨ s.tl.seen.contains ⟨num, at_⟩ then s else
  let s1 := { s with tl.seen := (⟨num, at_⟩ :: s.tl.seen).take 256 }
  let r := flipReason s num at_
  if r ≠ 0 then flipInvalid s1 num r else
  let s2 := { s1 with
    tl.flips := s1.tl.flips ++ [⟨num, at_⟩]
    tl.lastFlip := some ⟨num, at_⟩
    tl.accepted := (num :: s1.tl.accepted).take 32768
    time.nextFlipUntested := false }
  if nextFlip s2 = nextFlip s1 then s2 else { s2 with tl.decided := none }

/-- FLIP_CELL: from the active upstream port (07 R243, R244). -/
def flipCell (port num at_ : Nat) (s : State) : State :=
  if port = s.link.tile.activeUp ∧ s.sys.role = .tile then takeFlip (num % 65536) at_ s else s

def execFlipCell (port num at_ : Nat) (s : State) : Host.Outcome State Fault Refusal := live s (flipCell port num at_)

/-! ### The receive bank (R54–R56, R73–R77) -/

/-- The bank being received. -/
def recvBank (s : State) : Nat := 1 - s.tl.bank

/-- W × H and the views filled. -/
def rectSize (s : State) : Nat := s.link.tile.rw * s.link.tile.rh
def viewCount (s : State) : Nat := keyU s 0x0409 0 1

/-- Every row of every configured view has been written in full (R54). -/
def rowsComplete (s : State) : Bool :=
  s.tl.rx.active && (List.range (viewCount s)).all fun v =>
    (List.range s.link.tile.rh).all fun r => decide (s.link.tile.rw ≤ tabGet 0 s.tl.rx.fill (v * 65536 + r))

/-- The words of a row of the receive bank as far as they have been written. -/
def rowWords (s : State) (v r : Nat) : List Nat :=
  tabGetList 0 s.tl.basin (recvBank s * 131072 + v * 32768 + r * s.link.tile.rw)
    (min s.link.tile.rw (tabGet 0 s.tl.rx.fill (v * 65536 + r)))

/-- The CRC of the receive bank over each word as written (R55). -/
def bankCrc (s : State) : Nat :=
  Nat.xor 0xFFFFFFFF ((List.range (viewCount s)).foldl (fun c v =>
    (List.range s.link.tile.rh).foldl (fun c r => crcFeed c ((rowWords s v r).flatMap (leBytes 6))) c) 0xFFFFFFFF)

/-- The CRC received for the raster of this frame (R54). -/
def gotCrc (s : State) : Option Nat :=
  match s.tl.rx.crc with
  | some (f, c) => if f = s.tl.rx.frame then some c else none
  | none => none

/-- The per-tile CRC has arrived and differs from the computed one (R74), with every row complete or not. -/
def crcDiffers (s : State) : Bool := s.tl.rx.active && (gotCrc s).any (· != bankCrc s)

/-- The state of the receive bank: 0 complete, else the LATE_FRAME reason 1 to 3 (R77). -/
def bankReason (s : State) : Nat :=
  if rowsComplete s = false then 1
  else match gotCrc s with
    | none => 2
    | some c => if c = bankCrc s then 0 else 3

/-- The reason for which the flip of frame `num` repeats; 0 swaps (R73, R77). -/
def repeatReason (s : State) (num : Nat) : Nat :=
  let b := if s.tl.rx.frame = num then bankReason s else 1
  if b ≠ 0 then b
  else if keyU s 0x0420 0 1 = 1 then
    match tabGet 0 s.tl.decisions num with
    | 0 => 5
    | d => if d % 2 = 1 then 0 else 4
  else 0

/-- Count, and report once per run, a late frame (R73, R75). -/
def lateFrame (s : State) (num reason : Nat) (crcBad : Bool) : State :=
  let s1 := bump s 4 0 0
  let s2 := if 4 ≤ reason then bump s1 4 0 1 else s1
  let s3 := if s.tl.lateRun = 0 then raise s2 0x0401 (args [(4, num), (4, reason)]) else s2
  { s3 with tl.lateRun := s.tl.lateRun + 1, tl.repeated := true, tl.crcBad := crcBad }

/-- The swap of a frame that is not late (R75). -/
def goodFrame (s : State) (num : Nat) : State :=
  let s1 := if s.tl.lateRun = 0 then s else raise s 0x0402 (args [(4, num), (4, s.tl.lateRun)])
  { s1 with tl.lateRun := 0, tl.repeated := false, tl.crcBad := false }

/-! ### Frame keys and latched factors (R64, R83) -/

/-- "Frame" keys whose commit lies at least 100 µs back at the decision instant: the frame that follows begins with them
(R83). -/
def takeFrameKeys (s : State) : State :=
  let due := fun (p : PendKey) => decide (p.at_ + 100 * usTicks ≤ s.time.loc)
  { s with
    keys.frameDue := s.keys.frameDue ++ s.keys.pendFrame.filter due
    keys.pendFrame := s.keys.pendFrame.filter fun p => !due p }

/-- The key values of the frame that follows. -/
def withFrameKeys (s : State) : State :=
  { s with keys.eff := s.keys.frameDue.foldl (fun t p => keyPut s.sys.role t p.slot p.value) s.keys.eff }

/-- A frame begins with the values taken for it; its rails keep to the limits that are then in force (R83; 03 R107). -/
def applyFrameKeys (s : State) : State :=
  if s.keys.frameDue.isEmpty then s else
  let s1 := { withFrameKeys s with keys.frameDue := [] }
  (stagesOn s1).foldl (fun t n => trackLimit (limitStage t n) n) s1

/-- DERATE_ACTIVE and DERATE_ENDED (03_lamp_drive R118). -/
def derateEvents (s : State) : State :=
  if s.tl.q < 0x10000 ∧ s.tl.derating = false then
    raise { s with tl.derating := true } 0x0507 (args [(4, uns 32 (derateTemp s)), (4, s.tl.q)])
  else if s.tl.q = 0x10000 ∧ s.tl.derating then
    raise { s with tl.derating := false } 0x0508 (args [(4, uns 32 (derateTemp s))])
  else s

/-- The factors of the frame are latched (R64, R578; 03_lamp_drive R116–R118, R128), and recorded (R40). -/
def latchFactors (s : State) : State :=
  let s1 := { s with
    tl.k0 := tempFactor s 0, tl.k1 := tempFactor s 1, tl.k2 := tempFactor s 2
    tl.q := derateStep s, tl.bright := keyU s 0x0539 0 2, tl.throttle := s.th.level
    tl.zeroed := (s.lamps.lamp.filter fun p => decide (2 ≤ p.2.health)).map fun p => (p.1, 1) }
  derateEvents (capRec s1 7 0 0 (leBytes 2 s1.tl.k0 ++ leBytes 2 s1.tl.k1 ++ leBytes 2 s1.tl.k2 ++ leBytes 4 s1.tl.q ++
    leBytes 2 s1.tl.bright ++ leBytes 1 s1.tl.throttle))

/-! ### Wear steps at the decision instant (04_fretboard R161) -/

/-- Move one applied WEAR_COMP toward its target in one copy. -/
def wearMove (s : State) (copy lamp : Nat) (target : Int) : State :=
  let e := lampEntry s copy lamp
  let now := sgn 12 (bits e 12 12)
  let m : Int := keyU s 0x0603 0 1
  let new := now + clampI (-m) m (target - now)
  { s with fret.lamp := tabSet 0 s.fret.lamp (copy * 131072 + lamp) (e % 4096 + uns 12 new * 4096 + e / 2 ^ 24 * 2 ^ 24) }

/-- A pending wear step is applied to both copies: of the lamps that took part in it and are not OPEN or SHORT since (R151,
R161). -/
def applyWear (s : State) : State :=
  if s.fret.stepPending = false then s else
  let s1 := (usedLamps s).foldl (fun t l =>
    match tabGet none t.fret.targets l with
    | some g => if (lampH t l).health < 2 then wearMove (wearMove t 0 l g) 1 l g else t
    | none => t) s
  { s1 with fret.stepPending := false }

/-- The decision of the flip of frame `num`: swap or repeat, CRC_MISMATCH and LATE_FRAME (R73–R77). In HOLD no flip is
performed (R78); a live restart repeats (18 R674). -/
def decide_ (s : State) (num : Nat) : State :=
  if s.sys.st = .hold then { s with tl.decided := some false } else
  if pausing s then bump { s with tl.decided := some false, tl.repeated := true } 0x10 0 5 else
  let bad := s.tl.rx.frame = num ∧ crcDiffers s
  let r := repeatReason s num
  let s1 := if bad then fire s 14 14 num else s
  if r = 0 then { goodFrame s1 num with tl.decided := some true }
  else { lateFrame s1 num r (decide bad) with tl.decided := some false }

/-- DECISION_INSTANT (R64, R73–R77, R83, R151): 50 000 ticks before the next flip, under the key values of the frame that
follows. The shadow copy's exchange is FRETBOARD_EXCHANGE's. -/
def decisionInstant (s : State) : State :=
  if timelineOn s = false ∨ s.tl.decided.isSome then s else
  match nextFlip s with
  | none => s
  | some f =>
    if nowSys s < f.at_ - 50000 then s else
    let s1 := withFrameKeys (takeFrameKeys s)
    let s2 := { applyWear (latchFactors s1) with tl.decidedNum := f.num }
    let t := decide_ s2 f.num
    { t with keys.eff := s.keys.eff }

def execDecisionInstant (s : State) : Host.Outcome State Fault Refusal := live s decisionInstant

/-- READINESS_CHECK (R77; 07_cascade_link R246): the frame's one REPLY at flip time − READY_LEAD, and LATE in it. -/
def readinessCheck (s : State) : State :=
  if timelineOn s = false then s else
  match nextFlip s with
  | none => s
  | some f =>
    if nowSys s < f.at_ - keyU s 0x0421 0 4 ∨ s.link.tile.activeUp = 2 ∨ fenced s 2 s.link.tile.activeUp ∨
        s.link.tile.replied = some f.num then s else
    let late := keyU s 0x0420 0 1 == 1 && !(s.tl.rx.frame == f.num && bankReason s == 0)
    let fl := flag late 0 + flag s.tl.repeated 1 + flag s.tl.crcBad 2 + flag (s.link.tile.holding || pausing s) 3 + flag s.link.tile.dark 4
    sendCell { s with link.tile.replied := some f.num } s.link.tile.activeUp
      (syncCell 8 f.num (leBytes 2 s.sys.deviceId ++ [b8 fl, b8 0] ++ leBytes 4 (counter s 4 0 0)))

def execReadinessCheck (s : State) : Host.Outcome State Fault Refusal := live s readinessCheck

/-! ### Views (R57–R62) -/

/-- The enabled exposure windows: start, end, view (R58). -/
def exposureWindows (s : State) : List (Nat × Nat × Nat) :=
  (List.range 16).filterMap fun i =>
    let f := keyU s (0x0410 + i) 8 4
    if bit f 8 then some (keyU s (0x0410 + i) 0 4, keyU s (0x0410 + i) 4 4, f % 16) else none

/-- The view of slot `k` of a frame of length `f`; 15 is dark (R57, R60). -/
def slotViewOf (s : State) (ws : List (Nat × Nat × Nat)) (f k : Nat) : Nat :=
  let n := slotCount s
  let sub := k / max 1 (scanLines s)
  if ws.isEmpty then
    if keyU s 0x040A 0 1 = 0 then sub % max 1 (viewCount s) else sub * viewCount s / max 1 (subFrames s)
  else
    let a := slotAt f n k + deadTime s
    let e := slotAt f n (k + 1)
    match ws.find? fun w => decide (w.1 ≤ a) && decide (e ≤ w.2.1) with
    | some w => w.2.2
    | none => if ws.all fun w => decide (e ≤ w.1) || decide (w.2.1 ≤ a) then keyU s 0x040B 0 1 else 15

/-- The views of every slot of a frame (R61). -/
def frameViews (s : State) (f : Nat) : List Nat :=
  let ws := exposureWindows s
  (List.range (slotCount s)).map (slotViewOf s ws f)

/-- A line's eligible slots in a view, in time order (R67). -/
def eligible (s : State) (line view : Nat) : List Nat :=
  ((List.range (subFrames s)).map fun sub => sub * scanLines s + line).filter fun k => s.tl.slotView.getD k 15 == view

/-- n_v: the least number of eligible slots of the view over the lines (R61). -/
def viewSlots (s : State) (view : Nat) : Nat :=
  match (List.range (scanLines s)).map fun l => (eligible s l view).length with
  | [] => 0
  | x :: r => r.foldl min x

/-- The view budget N_v (R62), with the pause of R578 taken off U_min. -/
def viewBudget (s : State) (view : Nat) : Nat := viewSlots s view * s.tl.uMin

/-! ### Carry, split and scramble (R65–R71) -/

/-- Bit-reverse the low `k` bits. -/
def bitrev : Nat → Nat → Nat
  | 0, _ => 0
  | k + 1, x => x % 2 * 2 ^ k + bitrev k (x / 2)

/-- log2 of the smallest power of two at least `n`, for 1 ≤ n ≤ 64. -/
def ceilLog2 (n : Nat) : Nat := ((List.range 7).find? fun k => decide (n ≤ 2 ^ k)).getD 6

/-- The bit-reversed list of R71. -/
def bitrevList (n : Nat) : List Nat :=
  let k := ceilLog2 n
  ((List.range (2 ^ k)).map (bitrev k)).filter fun x => decide (x < n)

/-- The eligible index of pulse `p` (R71). -/
def pulseIndex (s : State) (lamp n p : Nat) : Nat :=
  let mode := keyU s 0x0405 0 1
  let rho := if mode = 2 then (s.tl.frameNo + lamp) % max 1 n else 0
  if mode = 0 then p else (bitrevList n).getD ((p + rho) % max 1 n) 0

/-- The range of a lamp and view in this frame (R66): previous 0 none, 1 HIGH, 2 LOW. -/
def nextRange (s : State) (prev g : Nat) : Bool :=
  if prev = 2 then decide (g < keyU s 0x0408 0 4) else decide (g < keyU s 0x0407 0 4)

/-- What R67 and R68 give for one lamp and view: ticks, pulses, range and the new carry. -/
structure Split where
  ticks : Nat
  pulses : Nat
  low : Bool
  carry : Int
  /-- The light owed after any excess was dropped. -/
  owed : Int
deriving DecidableEq, Repr

/-- The on-times of a lamp in a view (R67, R68). -/
def splitLamp (g nv nlv uMin : Nat) (low : Bool) (c : Int) : Split :=
  if g = 0 then ⟨0, 0, low, 0, 0⟩ else
  let a := (g : Int) * nv + c
  let unit : Nat := if low then 2 ^ 18 else 2 ^ 22
  let t0 := if 0 < a then (a / unit).toNat else 0
  let over_ := decide (nlv * uMin < t0)
  let t1 := if over_ then nlv * uMin else t0
  let a1 : Int := if over_ then (t1 : Int) * unit else a
  let n := if nv = 0 then 0 else min nlv (t1 / 10)
  let t := if n = 0 then 0 else t1
  ⟨t, n, low, a1 - (t : Int) * unit, a1⟩

/-- Whether each view of a lamp has light to give: grey, split and eligible slots. -/
def lampSplits (s : State) (lamp : Nat) : List (Nat × Nat × Split) :=
  (List.range (viewCount s)).map fun v =>
    let g := correctedGrey s lamp v
    let key := lamp * 4 + v
    let nlv := (eligible s (lamp / 1536) v).length
    let inRun := s.sys.st != .ready
    let low := nextRange s (if inRun then tabGet 0 s.tl.range key else 0) g
    (v, g, splitLamp g (viewBudget s v) nlv s.tl.uMin low (if inRun then tabGet 0 s.tl.carry key else 0))

/-- The view that the diagnostic stretch takes: the largest T, the lowest view on a tie, among views with light and at least
one slot of the lamp's line, whether or not the view has a slot on every line (R121; DESIGN CHOICE, log 54). -/
def stretchView (s : State) (lamp : Nat) (l : List (Nat × Nat × Split)) : Option (Nat × Nat × Split) :=
  (l.filter fun p => decide (0 < p.2.1) && !(eligible s (lamp / 1536) p.1).isEmpty).foldl
    (fun m p => match m with
      | none => some p
      | some q => if q.2.2.ticks < p.2.2.ticks then some p else m) none

/-- No pulse of the lamp reaches T_DIAG (R121). -/
def allShort (l : List (Nat × Nat × Split)) : Bool :=
  l.all fun p => p.2.2.pulses == 0 || decide (cdiv p.2.2.ticks p.2.2.pulses < 400)

/-- The width and range of the stretched pulse (R121): U_k of its slot, less the pause. -/
def stretchPulse (s : State) (lamp : Nat) (p : Nat × Nat × Split) : Nat × Bool :=
  if p.2.2.ticks < 400 then (400, true) else
  let e := eligible s (lamp / 1536) p.1
  let k := e.getD (pulseIndex s lamp e.length 0) 0
  let n := slotCount s
  let u := slotAt s.tl.len n (k + 1) - slotAt s.tl.len n k - deadTime s - s.tl.pause
  (min p.2.2.ticks u, p.2.2.low)

/-- Store one view's plan, carry and range. In READY carries stay 0 and no range is kept (R78). -/
def putPlan (s : State) (lamp : Nat) (p : Nat × Nat × Split) (pl : Plan) (c : Int) : State :=
  let key := lamp * 4 + p.1
  let s1 := { s with tl.plan := tabSet ⟨0, 0, false, false⟩ s.tl.plan key pl }
  if s.sys.st = .ready then s1
  else { s1 with tl.carry := tabSet 0 s1.tl.carry key (satS 32 c), tl.range := tabSet 0 s1.tl.range key (if p.2.2.low then 2 else 1) }

/-- One lamp's plan for the frame (R63–R71, R121); STRETCH counts when the pulse is emitted (R133). -/
def planLamp (s : State) (lamp : Nat) : State :=
  let l := lampSplits s lamp
  let st := if (lampH s lamp).due && displayed s && allShort l then stretchView s lamp l else none
  match st with
  | none => l.foldl (fun t p => putPlan t lamp p ⟨p.2.2.ticks, p.2.2.pulses, p.2.2.low, false⟩ p.2.2.carry) s
  | some q =>
    let w := stretchPulse s lamp q
    let c := q.2.2.owed - (w.1 : Int) * (if w.2 then 2 ^ 18 else 2 ^ 22)
    l.foldl (fun t p =>
      if p.1 = q.1 then putPlan t lamp p ⟨w.1, 1, w.2, true⟩ c
      else putPlan t lamp p ⟨p.2.2.ticks, p.2.2.pulses, p.2.2.low, false⟩ p.2.2.carry) s

/-! ### Slots (R41, R48, R72, R84, R85) -/

/-- The on-interval of a sink in slot `k` (R67, R72). -/
def sinkRec (s : State) (k sink : Nat) : Option OnRec :=
  let line := k % max 1 (scanLines s)
  let lamp := line * 1536 + sink
  let v := s.tl.slotView.getD k 15
  let pl := tabGet ⟨0, 0, false, false⟩ s.tl.plan (lamp * 4 + v)
  if 4 ≤ v ∨ pl.pulses = 0 then none else
  let e := eligible s line v
  let n := slotCount s
  let u := slotAt s.tl.len n (k + 1) - slotAt s.tl.len n k - deadTime s - s.tl.pause
  match (List.range pl.pulses).find? fun p => e.getD (pulseIndex s lamp e.length p) (n + 1) == k with
  | none => none
  | some p =>
    let w := pl.total / pl.pulses + (if p < pl.total % pl.pulses then 1 else 0)
    let on := deadTime s + min (sink % 16 * s.tl.stagger) (u - w)
    some ⟨sink, pl.low, pl.stretch, on, on + w⟩

/-- The records of a slot, of the sinks that are on. -/
def slotRecs (s : State) (k : Nat) : List OnRec := (List.range 1536).filterMap (sinkRec s k)

/-- The 64-bit on-interval record (R84); an off sink's times are 0. -/
def recWord (sink : Nat) (r : Option OnRec) : Nat :=
  match r with
  | none => sink * 2 ^ 53
  | some x => sink * 2 ^ 53 + flag x.low 52 + flag x.stretch 51 + x.tOff % 2 ^ 20 * 2 ^ 24 + x.tOn % 2 ^ 20 * 16

/-- Feed a slot's 1536 records to the timeline signature (R85). -/
def signSlot (sig : Nat) (recs : List OnRec) : Nat :=
  (List.range 1536).foldl (fun c n => crcFeed c (leBytes 8 (recWord n (recs.find? fun r => r.sink == n)))) sig

/-- The slot that the engine computes next. -/
def nextCompute (s : State) : Nat := match s.tl.ready with
  | some k => k + 1
  | none => s.tl.nextSlot

/-- A slot dark because its on-intervals were not complete in time (R82). -/
def slotLate (s : State) (k : Nat) : State :=
  let s1 := raise (bump s 4 0 5) 0x0406 (args [(4, s.tl.frameNo), (4, k)])
  let s2 := fire s1 15 0 (k + s.tl.frameNo * 65536)
  { s2 with tl.ready := some k, tl.recs := [], tl.darkReady := true, tl.sig := signSlot s.tl.sig [] }

/-- SLOT_COMPUTE (R41): the next slot's on-intervals, complete before it begins, or EMIT_ENGINE. -/
def slotCompute (inTime : Bool) (s : State) : State :=
  if timelineOn s = false ∨ s.tl.active = false ∨ s.tl.ready.isSome ∨ slotCount s ≤ s.tl.nextSlot then s else
  let k := s.tl.nextSlot
  if inTime then
    let r := slotRecs s k
    { s with tl.ready := some k, tl.recs := r, tl.darkReady := false, tl.sig := signSlot s.tl.sig r }
  else slotLate s k

def execSlotCompute (inTime : Bool) (s : State) : Host.Outcome State Fault Refusal := live s (slotCompute inTime)

/-- Sinks may be lit (R78, R79, R81; 07_cascade_link R268). -/
def sinksLit (s : State) : Bool := displayed s && s.tl.emitting && emissionOn s && !s.link.tile.dark

/-- With one scan line OE is active from entry to RUN until emission stops, and again when it resumes (R101; log 62). -/
def oeActive (s : State) : Bool := decide (scanLines s ≤ 1) && displayed s && emissionOn s && !s.link.tile.dark && scanOn s

/-- The flip whose time has come. -/
def flipCome (s : State) : Option Flip := (heldNext s).filter fun f => f.at_ ≤ nowSys s

/-- A pulse of a cut frame ends at the flip with at least 10 ticks before it, or is not emitted (R52). -/
def cutRecs (x : Nat) (l : List OnRec) : List OnRec :=
  l.filterMap fun r => if r.tOff ≤ x then some r else if r.tOn + 10 ≤ x then some { r with tOff := x } else none

/-- The running slot is cut at a flip time that comes before its end (R52). -/
def cutSlot (s : State) (sl : Slot) : Slot :=
  match flipCome s with
  | some f =>
    if s.tl.active && decide (f.at_ < sl.start + sl.len) then
      let x := (f.at_ - sl.start).toNat
      { sl with recs := cutRecs x sl.recs, len := x }
    else sl
  | none => sl

/-- The running slot ends where its end has come: also at the flip that cuts it, the last one of a nominal grid, which no
slot follows (R52), and one within which the timeline stopped. -/
def finishSlot (obs : SlotObs) (s : State) : State :=
  match s.tl.slot.map (cutSlot s) with
  | some sl => if sl.start + sl.len ≤ nowSys s then endSlot obs { s with tl.slot := some sl } else s
  | none => s

/-- The next slot of the running frame is due: its boundary has come, and comes before the flip. -/
def slotDue (s : State) : Bool :=
  let b := s.tl.start + slotAt s.tl.len (slotCount s) s.tl.nextSlot
  timelineOn s && s.tl.active && !s.tl.waiting && decide (s.tl.nextSlot < slotCount s) && decide (b ≤ nowSys s) &&
    !(flipCome s).any fun f => f.at_ ≤ b

/-- Slot `k` of the frame as it begins (R46, R79, R81, R82; 03 R90, R115, R128). -/
def newSlot (s : State) (k : Nat) : Slot :=
  let n := slotCount s
  let line := k % max 1 (scanLines s)
  { k := k, frame := s.tl.frameNo, line := line, sub := k / max 1 (scanLines s), start := s.tl.start + slotAt s.tl.len n k
    len := slotAt s.tl.len n (k + 1) - slotAt s.tl.len n k, recs := s.tl.recs, dark := s.tl.darkReady, stop := none
    cuts := ((List.range 96).filter fun g => !groupLive s g).map fun g => (g, 0)
    held := (s.lamps.lamp.filter fun p => p.2.health == 3 && p.1 / 1536 == line).map (·.1 % 1536)
    scanStop := if scanOn s then none else some 0, emitted := sinksLit s && !s.tl.darkReady }

/-- A slot begins: shadow sinks take over and give back pads, the pads and the scan port follow the dead time's sequence
(R41; 03 R93, R101, R103). A slot whose on-intervals are not complete begins dark (R82). -/
def beginSlot (s : State) (k : Nat) : State :=
  let s1 := if s.tl.ready = some k then s else slotLate s k
  let s2 := (shadowGroups s1).foldl shadowStep s1
  let sl := newSlot s2 k
  let s3 := if scanOn s2 then emit s2 (padsOut s2 sl) else s2
  holdOe { s3 with tl.slot := some sl, tl.nextSlot := k + 1, tl.ready := none, tl.recs := [], tl.darkReady := false
                   lamps.lineSel := sl.line } (oeActive s3)

/-- SLOT_BOUNDARY (R46, R81, R82, R103): the running slot ends with what its monitors saw, and the next
slot of the frame begins. -/
def slotBoundary (obs : SlotObs) (s : State) : State :=
  if slotDue s = false then finishSlot obs s else
  let s1 := endSlot obs s
  beginSlot s1 s1.tl.nextSlot

def execSlotBoundary (obs : SlotObs) (s : State) : Host.Outcome State Fault Refusal := live s (slotBoundary obs)

/-! ### Frames (R50, R52, R56, R73, R85) -/

/-- The rest of a frame's slots enter its signature, which a cut does not change (R85). -/
def signRest (s : State) : Nat :=
  let first := nextCompute s
  (List.range (slotCount s)).foldl (fun c k => if k < first then c else signSlot c (slotRecs s k)) s.tl.sig

/-- The frame that ends writes its timeline signature (R85; 14_spillway R556). -/
def closeFrame (s : State) : State :=
  if s.tl.active then capSignature s 1 0 s.tl.frameNo (Nat.xor 0xFFFFFFFF (signRest s)) else s

/-- The frame is cut at an accepted flip time before the end of its nominal grid (R52). -/
def cutFrame (s : State) (at_ : Int) : State :=
  if s.tl.active && s.tl.nominal && !s.tl.waiting && decide (at_ < s.tl.start + s.tl.len) then
    raise (bump s 4 0 4) 0x0405 (args [(4, s.tl.frameNo), (4, slotCount s - s.tl.nextSlot)])
  else s

/-- The parameters of the frame that begins: length, slot views, U_min, pause, stagger and drive. -/
def frameParams (s : State) (len : Nat) : State :=
  let n := max 1 (slotCount s)
  let u := len / n - deadTime s
  let pi := s.tl.throttle * u / 32
  { s with
    tl.len := len, tl.uMin := u - pi, tl.pause := pi, tl.slotView := frameViews s len, tl.stagger := keyU s 0x0406 0 1
    tl.drive := [keyU s 0x0502 0 1, keyU s 0x0503 0 1, keyU s 0x0504 0 1] }

/-- A frame begins at a flip: swap, empty receive bank, F_k, plan (R46, R50, R56,
R73). Emission begins, and darkness ends, at a flip accepted after they began to wait (R79; 07 R268). -/
def beginFrame (s : State) (num : Nat) (at_ : Int) (accepted : Bool) : State :=
  let s1 := applyFrameKeys (closeFrame (cutFrame s at_))
  let swap := s1.tl.decided == some true
  let rest := if accepted then s1.tl.flips.drop 1 else s1.tl.flips
  let next := rest.head?.filter fun f => follows num f.num
  let fresh := accepted && !s1.tl.early.contains ⟨num, at_⟩
  let s2 := { s1 with
    tl.bank := if swap then 1 - s1.tl.bank else s1.tl.bank
    tl.rx := Rx.cold, tl.decided := none, tl.active := true, tl.waiting := false, tl.frameNo := num, tl.start := at_
    tl.flips := rest, tl.nominal := next.isNone, tl.nextSlot := 0, tl.ready := none, tl.recs := [], tl.plan := []
    tl.sig := crcFeed 0xFFFFFFFF (leBytes 2 num)
    tl.emitting := s1.tl.emitting || (fresh && displayed s1)
    link.tile.dark := s1.link.tile.dark && !fresh
    link.tile.rxStale := s1.link.tile.rxOn
    fret.lastTransfer := if accepted && s1.fret.lastTransfer.isNone then some at_ else s1.fret.lastTransfer }
  let s3 := match next with
    | some f => frameParams s2 (f.at_ - at_).toNat
    | none => frameParams (raise (bump s2 4 0 3) 0x0404 (args [(4, num)])) (keyU s2 0x0403 0 4)
  let s4 := lampsFrame num s3
  { (usedLamps s4).foldl planLamp s4 with fret.failed := [] }

/-- STAT6 is high for 1 ms from a flip at which LATE_FRAME was counted (19 R688). -/
def lateFlip (s : State) : State :=
  if s.tl.decided = some false ∧ s.tl.lateRun ≠ 0 ∧ s.sys.st ≠ .hold ∧ pausing s = false then { s with sys.stat6Until := s.time.loc + msTicks }
  else s

/-- FLIP_TIME (R46, R50, R52, R56): an accepted flip time has come and its decision has been made. The slot that
ends there ends first, by its SLOT_BOUNDARY, which brings what the monitors saw in it (log 5). -/
def flipTime (s : State) : State :=
  if timelineOn s = false ∨ s.tl.decided.isNone ∨ s.tl.slot.isSome then s else
  match flipCome s with
  | some f => beginFrame (lateFlip s) f.num f.at_ true
  | none => s

def execFlipTime (s : State) : Host.Outcome State Fault Refusal := live s flipTime

/-- NOMINAL_FRAME_END (R50, R52, R80): the nominal grid has ended. With the next flip time held the TILE waits
dark for it; with none, the end acts as the flip of the next number. The last
slot ends first, by its SLOT_BOUNDARY (log 5). -/
def nominalFrameEnd (s : State) : State :=
  if timelineOn s = false ∨ s.tl.active = false ∨ s.tl.nominal = false ∨ s.tl.waiting ∨ s.tl.slot.isSome ∨
      nowSys s < s.tl.start + s.tl.len then s
  else match heldNext s with
    | some _ => { s with tl.waiting := true }
    | none => if s.tl.decided.isNone then s else beginFrame (lateFlip s) ((s.tl.frameNo + 1) % 65536) (s.tl.start + s.tl.len) false

def execNominalFrameEnd (s : State) : Host.Outcome State Fault Refusal := live s nominalFrameEnd

/-- Entry to RUN: carries are 0, no range is kept, and emission waits for the next accepted flip time
(R66, R70, R79). -/
def timelineRun (s : State) : State :=
  let s1 := { s with tl.carry := [], tl.range := [], tl.emitting := false, tl.early := s.tl.flips }
  holdOe s1 (oeActive s1)

end Sys2Proof.Machine
end

