-- ==== Sys2Proof/Machine/Fretboard.lean ====
section
/-! DEFINITION. Fretboard commands, commits and persistence, wear counters and wear compensation
(04_fretboard R146–R162), and LAMP_HEALTH_READ (13_mailbox R522). -/

namespace Sys2Proof.Machine

/-- No build-layer state: for commands of other roles. -/
def noBuild (_ : State) : Nat := 0

/-! ### Transfers (R146) -/

/-- The header of a Fretboard transfer. -/
structure FbHead where
  table : Nat
  flags : Nat
  count : Nat
  first : Nat
deriving DecidableEq, Repr

/-- Read the header word (R146). -/
def fbHead (w : Nat) : FbHead := ⟨bits w 28 4, bits w 24 4, bits w 17 7, bits w 0 17⟩

/-- Entry words that a transfer takes (R146). -/
def fbWords (h : FbHead) : Nat :=
  match h.table with
  | 0 => 4 * h.count
  | 3 => cdiv h.count 2
  | _ => h.count

/-- The index range lies within the table (R146). -/
def fbRange (h : FbHead) : Bool :=
  decide (1 ≤ h.count) && decide (h.count ≤ 122) &&
    match h.table with
    | 0 => decide (h.first + h.count ≤ 32768)
    | 1 => decide (h.first + h.count ≤ 98304)
    | 2 => decide (h.first / 512 < 16) && decide (h.first % 512 + h.count ≤ 353)
    | 3 => decide (h.first + h.count ≤ 98304)
    | _ => false

/-- Write one pixel entry, lamp entry or curve entry of a copy; a lamp entry keeps its WEAR_COMP unless
`applied` (R147). -/
def putPix (s : State) (copy i v : Nat) : State :=
  { s with fret.pix := tabSet pixIdentity s.fret.pix (copy * 32768 + i) (v % 2 ^ 108) }
def putLamp (s : State) (copy i v : Nat) (applied : Bool) : State :=
  let old := lampEntry s copy i
  let e := if applied then v % 2 ^ 24 else v % 4096 + old / 4096 * 4096
  { s with fret.lamp := tabSet 0 s.fret.lamp (copy * 131072 + i) e }
def putCurve (s : State) (copy i v : Nat) : State :=
  let e := v % 2 ^ 22
  let v := if e = min (3 * curveX (i % 512)) 4194303 then none else some e
  { s with fret.curve := tabSet none s.fret.curve (copy * 8192 + i) v }

/-- Write WEAR_COMP alone into a copy's lamp entry. -/
def putWearComp (s : State) (copy i v : Nat) : State :=
  let old := lampEntry s copy i
  { s with fret.lamp := tabSet 0 s.fret.lamp (copy * 131072 + i) (old % 4096 + bits v 12 12 * 4096) }

/-- Write the entry `k` of a load, from the payload words after the header (R146, R147). -/
def loadEntry (h : FbHead) (c : Cmd) (s : State) (k : Nat) : State :=
  let sh := 1 - s.fret.active
  match h.table with
  | 0 =>
    let v := pw c (1 + 4 * k) + pw c (2 + 4 * k) * 2 ^ 32 + pw c (3 + 4 * k) * 2 ^ 64 + pw c (4 + 4 * k) * 2 ^ 96
    putPix s sh (h.first + k) v
  | 1 =>
    let v := pw c (1 + k)
    let s1 := putLamp s sh (h.first + k) v (bit h.flags 0)
    if bit h.flags 0 then putWearComp s1 s.fret.active (h.first + k) v else s1
  | 2 => putCurve s sh (h.first + k) (pw c (1 + k))
  | _ => { s with fret.wear := tabSet 0 s.fret.wear (h.first + k) (bits (pw c (1 + k / 2)) (16 * (k % 2)) 16) }

/-- A commit is pending or its copy runs (R147, R149). -/
def fbBusy (s : State) : Bool := s.fret.commit.isSome || s.fret.copying.isSome

/-- FRETBOARD_LOAD (R146, R147). -/
def bodyFretboardLoad : Body := fun c s =>
  let h := fbHead (pw c 0)
  if (h.table = 3 ∨ bit h.flags 0) ∧ s.sys.st ≠ .standby then (s, rBad .stateReject 0)
  else if 3 < h.table then (s, rBad .badParam 0)
  else if c.len ≠ 1 + fbWords h then (s, rBad .badLength 0xFFFF)
  else if fbRange h = false then (s, rBad .badParam 0)
  else if fbBusy s then (bump s 6 0 1, rBad .busy 0)
  else ({ (List.range h.count).foldl (loadEntry h c) s with fret.loadSince := true }, rOk)

def opFretboardLoad : OpSpec := opT 0x40 stRdRnHoSa false none
def execFretboardLoad (c : Cmd) (s : State) : Host.Outcome State Fault Refusal :=
  live s (runCmd opFretboardLoad noBuild bodyFretboardLoad c)

/-- The words of entry `k` of a read (R146, R148). -/
def readEntry (s : State) (copy : Nat) (h : FbHead) (k : Nat) : List Word :=
  match h.table with
  | 0 => wordsN 4 (leBytes 16 (pixEntry s copy (h.first + k)))
  | 1 => [w32 (lampEntry s copy (h.first + k))]
  | _ => [w32 (curveEntry s copy (h.first / 512) (h.first % 512 + k))]

/-- FRETBOARD_READ (R148). -/
def bodyFretboardRead : Body := fun c s =>
  let h := fbHead (pw c 0)
  let copy := if bit h.flags 0 then 1 - s.fret.active else s.fret.active
  if 2 < h.table ∨ fbRange h = false ∨ 61 < fbWords h then (s, rBad .badParam 0)
  else if bit h.flags 0 ∧ s.fret.copying.isSome then (s, rBad .busy 0)
  else (s, rWords (w32 (pw c 0) :: (List.range h.count).flatMap (readEntry s copy h)))

def opFretboardRead : OpSpec := opT 0x41 [] false (some 1)
def execFretboardRead (c : Cmd) (s : State) : Host.Outcome State Fault Refusal :=
  live s (runCmd opFretboardRead noBuild bodyFretboardRead c)

/-- Two wear counters in one word (R146). -/
def wearWord (s : State) (h : FbHead) (j : Nat) : Word :=
  let lo := tabGet 0 s.fret.wear (h.first + 2 * j)
  let hi := if 2 * j + 1 < h.count then tabGet 0 s.fret.wear (h.first + 2 * j + 1) else 0
  w32 (lo + hi * 65536)

/-- WEAR_READ (R148). -/
def bodyWearRead : Body := fun c s =>
  let h := fbHead (pw c 0)
  if h.table ≠ 3 ∨ fbRange h = false ∨ 61 < fbWords h then (s, rBad .badParam 0)
  else (s, rWords (w32 (pw c 0) :: (List.range (fbWords h)).map (wearWord s h)))

def opWearRead : OpSpec := opT 0x46 [] false (some 1)
def execWearRead (c : Cmd) (s : State) : Host.Outcome State Fault Refusal :=
  live s (runCmd opWearRead noBuild bodyWearRead c)

/-- The health map's word of 16 lamps from a lamp index (R119, R522). -/
def healthWord (s : State) (first : Nat) : Word :=
  w32 ((List.range 16).foldl (fun a i => a + (lampH s (first + i)).health % 4 * 4 ^ i) 0)

/-- LAMP_HEALTH_READ (13_mailbox R522). -/
def bodyLampHealthRead : Body := fun c s =>
  let n := bits (pw c 0) 26 6
  let first := bits (pw c 0) 0 17
  if n = 0 ∨ 61 < n ∨ first % 16 ≠ 0 ∨ 98304 < first + 16 * n then (s, rBad .badParam 0)
  else (s, rWords (w32 (pw c 0) :: (List.range n).map fun i => healthWord s (first + 16 * i)))

def opLampHealthRead : OpSpec := opT 0x43 [] false (some 1)
def execLampHealthRead (c : Cmd) (s : State) : Host.Outcome State Fault Refusal :=
  live s (runCmd opLampHealthRead noBuild bodyLampHealthRead c)

/-! ### Commits (R149–R152) -/

/-- The Fretboard CRC of the active copy (R152). -/
def fretCrc (s : State) : Nat :=
  let a := s.fret.active
  let c0 := (List.range 32768).foldl (fun c i => crcFeed c (leBytes 16 (pixEntry s a i))) 0xFFFFFFFF
  let c1 := (List.range 98304).foldl (fun c i => crcFeed c (leBytes 4 (lampEntry s a i % 4096))) c0
  let c2 := (List.range 16).foldl (fun c k =>
    (List.range 353).foldl (fun c i => crcFeed c (leBytes 4 (curveEntry s a k i))) c) c1
  Nat.xor c2 0xFFFFFFFF

/-- Both copies take the entries of one (R149, R150). -/
def bothCopies {α : Type} (t : Tab α) (n src : Nat) : Tab α :=
  let e := (t.filter fun p => p.1 / n == src).map fun p => (p.1 % n, p.2)
  e ++ e.map fun p => (n + p.1, p.2)

/-- The active copy is copied into the shadow copy. -/
def copyActive (s : State) : State :=
  let a := s.fret.active
  { s with fret.pix := bothCopies s.fret.pix 32768 a, fret.lamp := bothCopies s.fret.lamp 131072 a
           fret.curve := bothCopies s.fret.curve 8192 a }

/-- FRETBOARD_COMMIT without DISCARD, or with it (R146, R149, R150, R153); BUSY only before FRETBOARD_COMMITTED. -/
def fbCommit (discard : Bool) (c : Cmd) (s : State) : State × Reply :=
  let persist := bit (fbHead (pw c 0)).flags 2
  if fbBusy s then (s, rBad .busy 0) else
  let s1 := { s with fret.commit := some ⟨persist, discard, c.tag, s.time.loc + 100 * usTicks⟩ }
  if discard then ({ s1 with fret.copying := some 0xFFFE, fret.loadSince := false }, rAccepted)
  else if s.sys.st = .standby ∨ s.sys.st = .safe then (fbExchange s1 0xFFFF, rAccepted)
  else (s1, rAccepted)

def bodyFretboardCommit : Body := fun c s => fbCommit (bit (fbHead (pw c 0)).flags 1) c s
def bodyFretboardCommitDiscard : Body := fun c s => fbCommit (bit (fbHead (pw c 0)).flags 1) c s

def opFretboardCommit : OpSpec := opT 0x42 stRdRnHoSa true (some 1)
def execFretboardCommit (c : Cmd) (s : State) : Host.Outcome State Fault Refusal :=
  live s (runCmd opFretboardCommit noBuild bodyFretboardCommit c)
def execFretboardCommitDiscard (c : Cmd) (s : State) : Host.Outcome State Fault Refusal :=
  live s (runCmd opFretboardCommit noBuild bodyFretboardCommitDiscard c)

/-- FRETBOARD_EXCHANGE (R149): at a decision instant at least 100 µs after acceptance. -/
def fretboardExchange (s : State) : State :=
  match s.fret.commit with
  | some k =>
    if timelineOn s ∧ s.tl.decided.isSome ∧ k.discard = false ∧ s.fret.copying.isNone ∧ k.earliest ≤ s.time.loc
    then fbExchange s s.tl.decidedNum else s
  | none => s

def execFretboardExchange (s : State) : Host.Outcome State Fault Refusal := live s fretboardExchange

/-- The area to write next: the one that does not hold the newest valid image (R153, R159). -/
def nextArea (valid0 valid1 : Bool) (seq0 seq1 : Nat) : Nat :=
  if valid0 && (!valid1 || decide (seq1 ≤ seq0)) then 1 else 0

/-- The areas of the flash. -/
def fbArea (s : State) (a : Nat) : FbArea := tabGet FbArea.cold s.nv.fb a
def wearArea (s : State) (a : Nat) : WearArea := tabGet WearArea.cold s.nv.wear a

/-- The entries of a copy, without the copy number. -/
def ofCopy {α : Type} (t : Tab α) (n copy : Nat) : Tab α :=
  (t.filter fun p => p.1 / n == copy).map fun p => (p.1 % n, p.2)

/-- The active copy and its curves as an image with their CRC (R153). -/
def fbImage (s : State) (crc : Nat) : FbArea :=
  { valid := true, seq := 0, pix := ofCopy s.fret.pix 32768 s.fret.active, lamp := ofCopy s.fret.lamp 131072 s.fret.active
    curve := ofCopy s.fret.curve 8192 s.fret.active, crc := crc }

/-- FRETBOARD_COPY_DONE (R149, R150, R153): a discard takes effect here (R165). -/
def fretboardCopyDone (s : State) : State :=
  match s.fret.copying, s.fret.commit with
  | some frame, some k =>
    let s1 := copyActive s
    let s2 := { s1 with fret.copying := none, fret.commit := none }
    let crc := fretCrc s2
    let s3 := raise (if k.discard then bump s2 6 0 0 else s2) 0x0601 (args [(4, frame), (4, crc)])
    if k.persist then { s3 with fret.persist := s3.fret.persist ++ [(fbImage s3 crc, k.tag)] }
    else cmdDone s3 k.tag 0x42 .ok
  | _, _ => s

def execFretboardCopyDone (s : State) : Host.Outcome State Fault Refusal := live s fretboardCopyDone

/-- FRETBOARD_PERSIST_DONE (R153): the first image that waits, as the active copy stood at the end of its commit's copy, is
written into the area that does not hold the newest valid one. -/
def fretboardPersistDone (s : State) : State :=
  match s.fret.persist with
  | (img, tag) :: rest =>
    let a := nextArea (fbArea s 0).valid (fbArea s 1).valid (fbArea s 0).seq (fbArea s 1).seq
    let s1 := { s with
      fret.persist := rest
      nv.fb := tabSet FbArea.cold s.nv.fb a { img with seq := max (fbArea s 0).seq (fbArea s 1).seq + 1 } }
    cmdDone (raise s1 0x0602 (args [(4, a), (4, img.crc)])) tag 0x42 .ok
  | [] => s

def execFretboardPersistDone (s : State) : Host.Outcome State Fault Refusal := live s fretboardPersistDone

/-! ### Wear counters (R156–R159) -/

/-- The value of a wear counter in wear units (R156). -/
def wearDecode (w : Nat) : Nat :=
  let e := bits w 11 5
  if e = 0 then bits w 0 11 else (2048 + bits w 0 11) * 2 ^ (e - 1)

/-- The counter that holds a value below 4096 × 2³⁰ on its grid (R156). -/
def wearEncode (v : Nat) : Nat :=
  if v < 2048 then v else
  let e := msb v - 10
  e * 2048 + (v / 2 ^ (e - 1) - 2048)

/-- The generator s of R158. -/
def wearGen (g : Nat) : Nat := if g % 2 = 1 then Nat.xor (g / 2) 0x80200003 else g / 2

/-- One lamp of a transfer: the new counter and the generator (R158). -/
def wearRound (w inc g : Nat) : Nat × Nat :=
  let v := wearDecode w + inc
  if 4096 * 2 ^ 30 ≤ v then (0xFFFF, g) else
  let q := if v < 4096 then 1 else 2 ^ (msb v - 11)
  let r := v % q
  let g1 := wearGen g
  let v1 := v - r + (if g1 % q < r then q else 0)
  if 4096 * 2 ^ 30 ≤ v1 then (0xFFFF, g1) else (wearEncode v1, g1)

/-- Transfer one lamp's accumulator (R158). -/
def wearLamp (s : State) (lamp : Nat) : State :=
  let a := tabGet 0 s.fret.acc lamp
  let p := wearRound (tabGet 0 s.fret.wear lamp) (a / 2 ^ 28) s.fret.gen
  { s with fret.acc := tabSet 0 s.fret.acc lamp (a % 2 ^ 28), fret.wear := tabSet 0 s.fret.wear lamp p.1, fret.gen := p.2 }

/-- WEAR_TRANSFER (R158): at a flip time at least 1 s of SYSTEM time after the previous transfer. -/
def wearTransfer (s : State) : State :=
  match s.fret.lastTransfer with
  | some t =>
    if timelineOn s ∧ s.tl.active ∧ t + secTicks ≤ s.tl.start then
      { (List.range 98304).foldl wearLamp s with fret.lastTransfer := some s.tl.start, fret.transfers := s.fret.transfers + 1 }
    else s
  | none => s

def execWearTransfer (s : State) : Host.Outcome State Fault Refusal := live s wearTransfer

/-- The relative output η of a counter value for colour `c` (R160). -/
def wearEta (s : State) (c w : Nat) : Nat :=
  let p := if w ≤ 1 then 0 else 256 * msb w + (w * 256 / 2 ^ msb w) % 256
  let t := min 7936 (p - 2560)
  let i := min (t / 256) 30
  let frac := t - 256 * i
  (keyU s (0x0605 + c) (2 * i) 2 * (256 - frac) + keyU s (0x0605 + c) (2 * i + 2) 2 * frac) / 256

/-- The lamps of a colour that wear compensation moves (R161). -/
def wearLamps (s : State) (c : Nat) : List Nat :=
  (usedLamps s).filter fun l => groupColour s (l % 1536 / 16) == c && decide ((lampH s l).health < 2)

/-- The decoded counter of a lamp. -/
def wearValue (s : State) (lamp : Nat) : Nat := wearDecode (tabGet 0 s.fret.wear lamp)

/-- η_ref of a colour (R161 step 1). -/
def wearRef (s : State) (c : Nat) : Nat :=
  let l := wearLamps s c
  let rank := keyU s 0x0604 0 1 * (l.length - 1) / 100
  wearEta s c ((sortInts (l.map fun i => (wearValue s i : Int))).getD rank 0).toNat

/-- The target of one lamp, with WEAR_LIMIT at a bound (R161). -/
def wearTarget (c ref : Nat) (s : State) (lamp : Nat) : State :=
  let eta := wearEta s c (wearValue s lamp)
  let t := clampI (-2048) 2047 (rdiv (8192 * ref) eta - 8192)
  let at_ := t = -2048 ∨ t = 2047
  let s1 := { s with fret.targets := tabSet none s.fret.targets lamp (some t), fret.limitRaised := tabSet 0 s.fret.limitRaised lamp (if at_ then 1 else 0) }
  if at_ ∧ tabGet 0 s.fret.limitRaised lamp = 0 then raise s1 0x0606 (args [(4, lamp), (4, uns 32 t)]) else s1

/-- Recompute the targets of the lamps that take part (R161 steps 1 and 2). -/
def wearTargets (s : State) : State :=
  (List.range 3).foldl (fun t c => (wearLamps t c).foldl (wearTarget c (wearRef t c)) t) { s with fret.targets := [] }

/-- WEAR_STEP (R161, R162; 14_spillway R558): after 60 transfers. A hold or WEAR_MODE 0 makes no step;
a running capture defers it, and deferred steps are then made up, one at each decision instant (DESIGN CHOICE, log 58). -/
def wearStep (s : State) : State :=
  if s.sys.role ≠ .tile ∨ s.fret.transfers < 60 ∨ capRuns s then s
  else if keyU s 0x0602 0 1 = 0 ∨ capoHeld s 2 0 then { s with fret.transfers := s.fret.transfers - 60 }
  else
    let s1 := wearTargets (bump s 6 0 3)
    { s1 with fret.transfers := s.fret.transfers - 60, fret.stepPending := true }

def execWearStep (s : State) : Host.Outcome State Fault Refusal := live s wearStep

/-- The check word of a wear save: counters, applied WEAR_COMP, generator and SYSTEM time, each little-endian (log 57). -/
def wearCheck (w : WearArea) : Nat :=
  let c0 := (List.range 98304).foldl (fun c i => crcFeed c (leBytes 2 (tabGet 0 w.counters i))) 0xFFFFFFFF
  let c1 := (List.range 98304).foldl (fun c i => crcFeed c (leBytes 2 (tabGet 0 w.comp i))) c0
  Nat.xor (crcFeed c1 (leBytes 4 w.gen ++ leBytes 8 w.sysT)) 0xFFFFFFFF

/-- A wear area holds a save whose check word agrees. -/
def wearValid (s : State) (a : Nat) : Bool := (wearArea s a).valid && (wearArea s a).check == wearCheck (wearArea s a)

/-- WEAR_SAVE (R159): every WEAR_SAVE_PERIOD once the counters have been restored, into the areas in turn. -/
def wearSave (s : State) : State :=
  if s.sys.role ≠ .tile ∨ s.sys.st = .boot ∨ s.time.loc < s.fret.lastSave + keyU s 0x0608 0 2 * 60 * secTicks then s else
  let a := nextArea (wearArea s 0).valid (wearArea s 1).valid (wearArea s 0).seq (wearArea s 1).seq
  let img : WearArea := { valid := true, check := 0, seq := max (wearArea s 0).seq (wearArea s 1).seq + 1, counters := s.fret.wear
                          comp := (ofCopy s.fret.lamp 131072 s.fret.active).map fun p => (p.1, p.2 / 4096)
                          gen := s.fret.gen, sysT := sysTicks s }
  raise { s with nv.wear := tabSet WearArea.cold s.nv.wear a { img with check := wearCheck img }, fret.lastSave := s.time.loc } 0x0604
    (args [(4, a), (8, timeForm s (sysTicks s))])

def execWearSave (s : State) : Host.Outcome State Fault Refusal := live s wearSave

/-! ### Boot and memory errors (R145, R154, R155, R159) -/

/-- The newer valid of two areas. -/
def newerArea (valid0 valid1 : Bool) (seq0 seq1 : Nat) : Option Nat :=
  if valid0 && (!valid1 || decide (seq1 ≤ seq0)) then some 0 else if valid1 then some 1 else none

/-- A copy-less table loaded into both copies. -/
def intoCopies {α : Type} (t : Tab α) (n : Nat) : Tab α := t ++ t.map fun p => (n + p.1, p.2)

/-- The Fretboard at boot (R145, R154). -/
def fretRestore (s : State) : State :=
  match newerArea (fbArea s 0).valid (fbArea s 1).valid (fbArea s 0).seq (fbArea s 1).seq with
  | some a =>
    { s with fret.pix := intoCopies (fbArea s a).pix 32768, fret.lamp := intoCopies (fbArea s a).lamp 131072
             fret.curve := intoCopies (fbArea s a).curve 8192, fret.active := 0 }
  | none => raise { s with fret.pix := [], fret.lamp := [], fret.curve := [], fret.active := 0 } 0x0603 []

/-- Counters, WEAR_COMP and the generator at boot (R159). -/
def wearRestore (s : State) : State :=
  match newerArea (wearValid s 0) (wearValid s 1) (wearArea s 0).seq (wearArea s 1).seq with
  | some a =>
    let w := wearArea s a
    let s1 := { s with fret.wear := w.counters, fret.gen := w.gen }
    (List.range 98304).foldl (fun t i =>
      let v := tabGet 0 w.comp i * 4096
      putWearComp (putWearComp t 0 i v) 1 i v) s1
  | none => raise { s with fret.wear := [] } 0x0605 []

/-- The sink groups with a lamp that reads an entry of a table (R155). -/
def fretGroups (s : State) (table i : Nat) : List Nat :=
  ((usedLamps s).filter fun l => match table with
    | 0 => lampPixel s l == i
    | 1 => l == i
    | _ => bits (lampEntry s s.fret.active l) 8 4 == i / 512).foldl
    (fun a l => if a.contains (l % 1536 / 16) then a else a ++ [l % 1536 / 16]) []

/-- An entry of the active copy failed its ECC uncorrectably (R155); `word` is its place in the SRAM.
Table 3 is a wear counter (R159), 0 where no area is valid (DESIGN CHOICE, log 57). -/
def fretEcc (s : State) (table i word : Nat) : State :=
  let a := s.fret.active
  if table = 3 then
    let v := match newerArea (wearValid s 0) (wearValid s 1) (wearArea s 0).seq (wearArea s 1).seq with
      | some k => tabGet 0 (wearArea s k).counters i
      | none => 0
    fire { s with fret.wear := tabSet 0 s.fret.wear i v } 3 0 word
  else if s.fret.loadSince then
    let s1 := { s with fret.failed := (table * 2 ^ 20 + i) :: s.fret.failed }
    match fretGroups s table i with
    | [] => fire s1 2 2 word
    | g :: r =>
      let s2 := fire s1 2 (8 * 4096 + g) word
      if severity s 2 word = 2 then r.foldl (fun t h => addFence t 2 8 h) s2 else s2
  else
    let s1 := match table with
      | 0 => putPix s a i (pixEntry s (1 - a) i)
      | 1 => { s with fret.lamp := tabSet 0 s.fret.lamp (a * 131072 + i) (lampEntry s (1 - a) i) }
      | _ => { s with fret.curve := tabSet none s.fret.curve (a * 8192 + i) (tabGet none s.fret.curve ((1 - a) * 8192 + i)) }
    raise (bump (fire s1 3 0 word) 6 0 2) 0x0607 (args [(4, table), (4, i)])

end Sys2Proof.Machine
end

