-- ==== Sys2Proof/Machine/Time.lean ====
section
/-! DEFINITION. Time bases: stamps, SYSTEM time and its sources, hop delays, PTP, the
transmit-timestamp queues, windows and FSYNC_IN (09_time). -/

namespace Sys2Proof.Machine

/-! ### Stamps (R323, R324) -/

/-- The present deviations of a lane (R323). -/
def txDev (s : State) (l : Nat) : Int := (tabGet (0, 0) s.time.dev l).1
def rxDev (s : State) (l : Nat) : Int := (tabGet (0, 0) s.time.dev l).2

/-- A departure and an arrival stamp at the reference plane, 1/256 tick LOCAL, from the raw readout. -/
def depart (s : State) (l raw : Nat) : Nat := ((raw : Int) + txDev s l).toNat
def arrive (s : State) (l raw : Nat) : Nat := ((raw : Int) - rxDev s l).toNat

/-- LOCAL time now in 1/256 tick. -/
def loc256 (s : State) : Nat := s.time.loc * 256

/-- SYSTEM time at a stamp in 1/256 tick, at the present rate (R324). -/
def sysAt (s : State) (stamp : Nat) : Int :=
  (s.time.sys / 2 ^ 24 : Int) + fdiv (((stamp : Int) - loc256 s) * (1000000000000 + s.time.f + s.time.s)) 1000000000000

/-- PORT time at a stamp, 1/256 tick (R324, R342). -/
def portAt (x : PtpPort) (stamp : Nat) : Int :=
  x.time + fdiv (((stamp : Int) - x.ref) * (1000000000000 + x.freq)) 1000000000000

/-- DELAY state of a Wotor port. -/
def delayOf (s : State) (p : Nat) : DelayPort := tabGet DelayPort.cold s.time.delays p
def setDelay (s : State) (p : Nat) (x : DelayPort) : State :=
  { s with time.delays := tabSet DelayPort.cold s.time.delays p x }

/-- The one-way delay of the direction arriving on a port: d + LINK_ASYM (R333). -/
def oneWay (s : State) (p : Nat) : Option Int :=
  let x := delayOf s p
  if x.known then some (x.d + keyS s 0x0308 (2 * portLane s p) 2) else none

/-! ### Lock and holdover (R336, R337) -/

/-- The port of a cell-fed follower: the active upstream port, or the peer port (R328). -/
def followPort (s : State) : Nat :=
  if s.time.source = 3 then s.link.tile.activeUp else if s.sys.role = .bed then 15 else s.time.peerPort

/-- The sample period of the source, ticks (R330, R336). -/
def samplePeriod (s : State) : Nat :=
  if s.time.source = 1 then msTicks
  else keyU s 0x0301 0 2 * codeword100 (wport s (followPort s)).rate / 100

/-- TIME_LOCKED (R336). -/
def timeLock (s : State) : State :=
  if s.time.locked then s
  else raise { s with time.locked := true, time.badRun := 0 } 0x0301 (args [(4, s.time.source)])

/-- TIME_UNLOCKED (R336). -/
def timeUnlock (s : State) : State :=
  if s.time.locked then
    raise { s with time.locked := false, time.goodRun := 0 } 0x0302 (args [(4, s.time.source), (4, uns 32 s.time.lastE)])
  else s

/-- Sample periods that have passed without a sample, counted once each (R355). -/
def flushGap (s : State) : State :=
  if s.time.source = 0 ∨ s.time.sampled = false then s else
  let n := (s.time.loc - s.time.lastSample - 1) / max 1 (samplePeriod s)
  if n ≤ s.time.gapCounted then s else
  let l := if s.time.source = 1 then s.time.portSel * 2 else portLane s (followPort s)
  bumpN { s with time.gapCounted := n } 3 l 1 (n - s.time.gapCounted)

/-- Entry to holdover: f frozen, s at 0, unlocked (R336, R337). -/
def enterHoldover (s : State) : State :=
  if s.time.holdover ∨ s.time.sampled = false ∨ s.time.source = 0 then s else
  let s1 := timeUnlock { s with
    time.holdover := true, time.s := 0, time.holdSince := s.time.loc, time.holdCounted := 0
    time.lastCount := s.time.loc, time.limitFired := false }
  raise s1 0x0304 (args [(4, s.time.source)])

/-- HOLDOVER_ENTRY: 16 sample periods without a usable sample (R337). -/
def holdoverEntry (s : State) : State :=
  if s.sys.st = .reset ∨ s.time.loc < s.time.lastSample + 16 * samplePeriod s then s else enterHoldover (flushGap s)

def execHoldoverEntry (s : State) : Host.Outcome State Fault Refusal := live s holdoverEntry

/-- TIME_LOCK's instance: the source port when SOURCE is PORT (14 R711). -/
def timeLockInst (s : State) : Nat := if s.time.source = 1 then 3 * 4096 + s.time.portSel else 11

/-- HOLDOVER_LIMIT_EXPIRY (R337): the counted time of the holdover has reached HOLDOVER_LIMIT. -/
def holdoverLimit (s : State) : State :=
  if s.time.holdover = false ∨ s.time.limitFired ∨ holdTime s < keyU s 0x0307 0 2 * msTicks then s
  else fire { s with time.limitFired := true } 11 (timeLockInst s) 1

def execHoldoverLimitExpiry (s : State) : Host.Outcome State Fault Refusal := live s holdoverLimit

/-! ### Samples (R325–R327, R336) -/

/-- The servo sets f and s within ±200 ppm and ±SLEW_MAX (R325). -/
def servo (s : State) (e : Int) : State :=
  let bw := keyU s 0x0303 0 1
  let m : Int := (keyU s 0x0305 0 2 : Int) * 1000000
  { s with
    time.f := clampI (-200000000) 200000000 (Config.servoF bw s.time.f s.time.s e)
    time.s := clampI (-m) m (Config.servoS bw s.time.f s.time.s e) }

/-- Flips are performed, so a TILE's step waits for the frame end (R327). -/
def stepWaits (s : State) : Bool := timelineOn s

/-- A sample asks for a step of SYSTEM time (R326). `flagged` is STEP of the cell. -/
def wantsStep (s : State) (e : Int) (flagged : Bool) : Bool :=
  s.time.firstPending ||
    (decide ((keyU s 0x0304 0 4 : Int) * 256 < e.natAbs) &&
      (flagged || s.sys.st == .standby || s.sys.st == .ready ||
        ((s.sys.st == .run || s.sys.st == .hold || s.sys.st == .safe) && keyU s 0x0306 0 1 == 1)))

/-- The lock condition of one sample (R336). -/
def lockSample (s : State) (e : Int) : State :=
  let a := e.natAbs
  let lim := if s.time.source = 1 then 256000 else 512
  let good := decide (a ≤ lim)
  let s1 := { s with
    time.goodRun := if good then s.time.goodRun + 1 else 0
    time.badRun := if 5120 < a then s.time.badRun + 1 else 0 }
  if s1.time.locked then
    (if 16 ≤ s1.time.badRun ∧ (s.time.source ≠ 1 ∨ good = false) then timeUnlock s1 else s1)
  else if (s.time.source = 1 ∧ good) ∨ 64 ≤ s1.time.goodRun then timeLock s1 else s1

/-- Leave holdover at a sample (R337). -/
def leaveHoldover (s : State) : State :=
  if s.time.holdover then
    raise { s with time.holdover := false } 0x0305 (args [(4, (s.time.loc - s.time.holdSince) / msTicks)])
  else s

/-- A usable sample with error `e`, 1/256 tick (R326, R327, R336, R337). -/
def takeSample (s : State) (e : Int) (flagged : Bool) : State :=
  let s1 := leaveHoldover (flushGap s)
  let big := decide ((keyU s 0x0304 0 4 : Int) * 256 < e.natAbs)
  let wasLocked := s1.time.locked
  let s2 := { s1 with time.lastE := e, time.lastSample := s.time.loc, time.sampled := true, time.gapCounted := 0 }
  let s3 := if wasLocked && big && !flagged && !s.time.firstPending then fire s2 11 (timeLockInst s) 2 else s2
  let rest := e - s3.time.pendStep.getD 0
  let s4 := if wantsStep s3 rest flagged && (rest != 0 || s3.time.firstPending) then
      (if stepWaits s3 then { s3 with time.pendStep := some e, time.firstPending := false }
       else servo (stepSystem { s3 with time.firstPending := false, time.nextFlipUntested := s3.sys.role == .tile } e) 0)
    else servo { s3 with time.firstPending := false } rest
  lockSample s4 e

/-- Pending PATH values take effect at a SYNC TIME sample (R329). -/
def takePath (s : State) : State :=
  match s.time.pendPath with
  | some (a, b) => { s with time.pathA := a, time.pathB := b, time.pendPath := none }
  | none => s

/-- PATH of the active upstream port; `none` while unknown (R329, R336). -/
def pathOf (s : State) : Option Nat :=
  let v := match s.link.tile.activeUp with
    | 0 => s.time.pathA
    | 1 => s.time.pathB
    | _ => 0xFFFFFFFF
  if v = 0xFFFFFFFF then none else some v

/-- The delay that a cell's sample needs: PATH, or the peer port's one-way delay (R336). -/
def cellDelay (s : State) : Option Int :=
  if s.time.source = 3 then (pathOf s).map Int.ofNat else oneWay s (followPort s)

/-- SYNC_TIME_CELL (R330, R336): a cell whose CHECK holds arrives on a port; its time value is in ticks,
`flags` holds LOCKED and STEP, and the stamp is the raw arrival readout in 1/256 tick. -/
def syncTimeCell (port at_ root flags stamp : Nat) (s : State) : State :=
  if s.sys.st = .reset then s else
  let cell := syncCell 0 0 (timeValue at_ ++ leBytes 2 root ++ [b8 flags])
  let s0 := capCell s port stamp cell
  if (s.time.source ≠ 2 ∧ s.time.source ≠ 3) ∨ port ≠ followPort s ∨ bit flags 0 = false then s0 else
  let s1 := takePath { s0 with time.root := root % 0x4000 }
  match cellDelay s1 with
  | none => s1
  | some d =>
    let l := portLane s port
    let t := arrive s1 l stamp
    let s2 := capRec (bump s1 3 l 0) 0x09 l 0 (leBytes 4 0 ++ leBytes 8 t ++ leBytes 8 (uns 64 (rxDev s1 l)))
    takeSample s2 ((at_ : Int) * 256 + d - sysAt s2 t) (bit flags 1)

def execSyncTimeCell (port at_ root flags stamp : Nat) (s : State) : Host.Outcome State Fault Refusal :=
  live s (syncTimeCell port at_ root flags stamp)

/-- TIME_OFFSET in 1/256 tick (R343). -/
def timeOffset (s : State) : Int := keyS s 0x030A 0 8 * 256

/-- TIME_SAMPLE_PORT (R336): every 1 ms while SOURCE is PORT and the port is locked. -/
def timeSamplePort (s : State) : State :=
  if s.time.source ≠ 1 ∨ s.sys.role ≠ .sender ∨ pausing s ∨ s.time.loc < s.time.portTick + msTicks then s else
  let s1 := { s with time.portTick := alignUp s.time.portTick msTicks s.time.loc }
  let x := ptp s s.time.portSel
  if x.locked = false then s1 else
  takeSample (bump s1 3 (2 * s.time.portSel) 0) (portAt x (loc256 s) + timeOffset s - sysAt s (loc256 s)) false

def execTimeSamplePort (s : State) : Host.Outcome State Fault Refusal := live s timeSamplePort

/-- TILE_STEP_APPLY (R327): a pending step is applied at the end of the frame in progress, which is the next
accepted flip time or the end of the nominal frame, and at once where no flips are performed. -/
def tileStepApply (s : State) : State :=
  if s.time.pendStep.isNone then s
  else if timelineOn s = false ∨ s.tl.active = false then applyPendStep s
  else
    let flip := match heldNext s with
      | some f => decide (f.at_ ≤ nowSys s)
      | none => false
    if flip || (s.tl.nominal && decide (s.tl.start + s.tl.len ≤ nowSys s)) then applyPendStep s else s

def execTileStepApply (s : State) : Host.Outcome State Fault Refusal := live s tileStepApply

/-- FREE_SOURCE_LOCK_DELAY (R336): 1 ms after reset. -/
def freeLock (s : State) : State :=
  if s.time.source = 0 ∧ s.sys.st ≠ .reset ∧ s.time.resetAt + msTicks ≤ s.time.loc then timeLock s else s

def execFreeSourceLockDelay (s : State) : Host.Outcome State Fault Refusal := live s freeLock

/-! ### TIME_SOURCE_SET (R328, R329) -/

/-- A SOURCE is allowed in a role (R328). -/
def sourceInRole (role : Role) (src : Nat) : Bool :=
  match src, role with
  | 0, .sender => true
  | 0, .bed => true
  | 1, .sender => true
  | 2, .sender => true
  | 2, .bed => true
  | 3, .tile => true
  | _, _ => false

/-- The named peer port is in peer mode: a SENDER port of mode 3; the BED's lane 15 with PEER_PORT 7 and
PAIR_MODE set (17_redundancy R646). -/
def peerPortOk (s : State) (p : Nat) : Bool :=
  match s.sys.role with
  | .sender => keyU s 0x0201 p 1 % 4 == 3
  | _ => p == 7 && keyU s 0x0F80 0 1 != 0

/-- A new source: the lock is cleared and the next usable sample steps (R329). -/
def newSource (s : State) (w : Nat) : State :=
  let s1 := timeUnlock s
  let src := w % 16
  { s1 with
    time.source := src, time.portSel := bits w 4 2, time.peerPort := bits w 8 3, time.sampled := false
    time.firstPending := true, time.holdover := false, time.holdCounted := 0, time.goodRun := 0, time.badRun := 0
    time.portTick := s.time.loc, time.gapCounted := 0
    time.root := s.sys.deviceId, time.f := if src = 0 then 0 else s.time.f, time.s := 0 }

/-- The FREE source: SET_TIME loads SYSTEM time, and the device is time locked at once or 1 ms after
reset (R328, R336). -/
def freeSource (s : State) (c : Cmd) : State :=
  if bit (pw c 0) 31 then
    let t : Nat := (pw c 1 + pw c 2 % 65536 * 2 ^ 32) * secTicks + (pw c 3 + pw c 4 % 4 * 2 ^ 32)
    let d : Int := (t : Int) * 256 - (s.time.sys / 2 ^ 24 : Int)
    timeLock (if d = 0 then s else stepSystem s d)
  else freeLock s

/-- TIME_SOURCE_SET and its UPDATE_PATH form, by bit 30 (R329). A standby of a pair follows its peer whatever is set; what
is set comes into force with its activity (17 R623). -/
def timeSource : Body := fun c s =>
  let w := pw c 0
  if c.len = 0 then (s, rBad .badLength 7)
  else if bit w 30 then
    if s.sys.role ≠ .tile then (s, rBad .roleReject 0)
    else if c.len ≠ 7 then (s, rBad .badLength 7)
    else ({ s with time.pendPath := some (pw c 5, pw c 6) }, rOk)
  else
    let src := w % 16
    if src < 4 ∧ sourceInRole s.sys.role src = false then (s, rBad .roleReject 0)
    else if s.sys.st ≠ .standby then (s, rBad .stateReject 0)
    else if c.len ≠ 7 then (s, rBad .badLength 7)
    else if 3 < src ∨ (bit w 31 ∧ src ≠ 0) ∨ (src = 2 ∧ peerPortOk s (bits w 8 3) = false) then (s, rBad .badParam 0)
    else if bit w 31 ∧ secTicks ≤ pw c 3 + pw c 4 % 4 * 2 ^ 32 then (s, rBad .badParam 3)
    else
      let s0 := { s with pair.setSource := some (src, bits w 4 2, bits w 8 3) }
      if pairStandby s then (s0, rOk) else
      let s1 := newSource s0 w
      (if src = 0 then freeSource s1 c else s1, rOk)

def bodyTimeSourceSet : Body := fun c s => timeSource c s
def bodyTimeSourceUpdatePath : Body := fun c s => timeSource c s
def opTimeSourceSet : OpSpec := opTSB 0x71 [] false none
def execTimeSourceSet (c : Cmd) (s : State) : Host.Outcome State Fault Refusal :=
  live s (runCmd opTimeSourceSet noBuild bodyTimeSourceSet c)
def execTimeSourceUpdatePath (c : Cmd) (s : State) : Host.Outcome State Fault Refusal :=
  live s (runCmd opTimeSourceSet noBuild bodyTimeSourceUpdatePath c)

/-! ### TIME_GET (R351) -/

/-- The device ID of the time root (R328). -/
def timeRoot (s : State) : Nat := if s.time.source < 2 then s.sys.deviceId else s.time.root

/-- PORT time now in 2⁻³² tick; 0 when the port is off. -/
def portRecord (s : State) (p : Nat) : List Word :=
  if portOn s p && (ptp s p).valid then timeRecord ((portAt (ptp s p) (loc256 s)).toNat * 2 ^ 24) else timeRecord 0

def bodyTimeGet : Body := fun _ s =>
  let t := s.time
  let tile := s.sys.role == .tile
  let w0 := timeRoot s % 0x4000 * 65536 + flag (tile && t.pendStep.isSome) 11 + flag (tile && (pathOf s).isSome) 10 +
    flag t.holdover 9 + flag t.locked 8 + t.portSel * 16 + t.source
  let locks := (List.range 4).map fun p => flag (portOn s p && (ptp s p).locked) p
  let path := fun (v : Nat) => if tile then v else 0
  let pend := t.pendPath.getD (t.pathA, t.pathB)
  (s, rWords (w32 w0 :: two32 t.loc ++ timeRecord t.sys ++ [w32 (uns 32 t.lastE), w32 (uns 32 (if t.source = 0 then 0 else t.f))] ++
    (List.range 4).flatMap (portRecord s) ++ [w32 locks.sum] ++
    two32 (if s.sys.role = .bed then t.process else 0) ++ [w32 (path pend.1), w32 (path pend.2)]))

def opTimeGet : OpSpec := opTSB 0x70 [] false (some 0)
def execTimeGet (c : Cmd) (s : State) : Host.Outcome State Fault Refusal := live s (runCmd opTimeGet noBuild bodyTimeGet c)

/-! ### Transmit-timestamp queues (R344–R346) -/

/-- A lane's queue. -/
def tsQueue (s : State) (l : Nat) : List (List Word) := tabGet [] s.time.tsq l

/-- A departure adds an entry, or is lost to overflow (R344, R345). -/
def tsPush (s : State) (l id kind stamp : Nat) : State × Bool :=
  let q := tsQueue s l
  if q.length < 16 then
    let e : List Word := w32 (id % 65536 * 65536 + kind * 256 + stamp % 256) :: two32 (stamp / 256) ++ [0]
    ({ s with time.tsq := tabSet [] s.time.tsq l (q ++ [e]) }, true)
  else
    let n := min 0xFFFF (tabGet 0 s.time.tsOver l + 1)
    (fire (bump { s with time.tsOver := tabSet 0 s.time.tsOver l n } 3 l 4) 42 l n, false)

/-- The first entry of a kind and ID is removed (R344). -/
def tsDrop (s : State) (l id kind : Nat) : State :=
  let p := fun (e : List Word) => (e.getD 0 0).toNat / 256 == id % 65536 * 256 + kind
  { s with time.tsq := tabSet [] s.time.tsq l ((tsQueue s l).eraseP p) }

def bodyTsQueueRead : Body := fun c s =>
  let l := pw c 0 % 16
  let q := tsQueue s l
  (s, rWords (w32 (l + q.length * 256 + tabGet 0 s.time.tsOver l * 65536) :: (q.take 15).flatten))

def opTsQueueRead : OpSpec := opTSB 0x72 [] false (some 1)
def execTsQueueRead (c : Cmd) (s : State) : Host.Outcome State Fault Refusal :=
  live s (runCmd opTsQueueRead noBuild bodyTsQueueRead c)

/-! ### Windows (R348, R349) -/

/-- WINDOW_SET (R348, R349). A window put out of use is not tested for its instants (DEDUCED, log 17). -/
def bodyWindowSet : Body := fun c s =>
  let w := pw c 0
  let d := bits w 26 2
  let i := w % 16
  let start := pw c 1 + pw c 2 % 65536 * 2 ^ 32
  let stop := pw c 3 + pw c 4 % 65536 * 2 ^ 32
  let period := pw c 5
  let len := diff48 stop start
  let now := domainNow s d
  let rel := sgn 48 (uns 48 ((start : Int) - now))
  let a := now + rel
  if d = 3 then (s, rBad .badParam 0)
  else if (d = 2 ∧ s.sys.role ≠ .bed) ∨ (bit w 10 ∧ s.sys.role ≠ .sender) ∨ (bit w 11 ∧ s.sys.role ≠ .bed) then (s, rBad .roleReject 0)
  else if bit w 31 = false then (driveFsync (fsyncOut s) (setWindow s i Window.cold), rOk)
  else if len < 1 then (s, rBad .badParam 3)
  else if period ≠ 0 ∧ (period : Int) < len then (s, rBad .badParam 5)
  else if 2 ^ 46 < rel.natAbs then (s, rBad .badParam 1)
  else if period = 0 ∧ a + len ≤ now then (s, rBad .badParam 3)
  else
    let x : Window := { enable := true, domain := d, mark := bit w 12, trace := bit w 11, fsync := bit w 10
                        evClose := bit w 9, evOpen := bit w 8, start := a, stop := a + len, period := period
                        isOpen := false, next := a }
    let s1 := setWindow s i (skipInstances now x)
    (driveFsync (fsyncOut s) (if opensNow s1 i then openWindow s1 i else s1), rOk)

def opWindowSet : OpSpec := opTSB 0x73 [] false (some 6)
def execWindowSet (c : Cmd) (s : State) : Host.Outcome State Fault Refusal :=
  live s (runCmd opWindowSet noBuild bodyWindowSet c)

/-- WINDOW_OPEN (R347, R349): the instances due at this tick; closings come before openings. -/
def windowOpen (s : State) : State := if (List.range 16).any (opensNow s) then windowsAct s else s
def execWindowOpen (s : State) : Host.Outcome State Fault Refusal := live s windowOpen

/-- WINDOW_CLOSE (R349): likewise, where an instance ends at this tick. -/
def windowClose (s : State) : State := if (List.range 16).any (closesNow s) then windowsAct s else s
def execWindowClose (s : State) : Host.Outcome State Fault Refusal := live s windowClose

/-- FSYNC_IN_EDGE (R350): a rising edge stamped in ticks LOCAL, or discarded within 10 µs of the last. -/
def fsyncInEdge (s : State) : State :=
  if s.sys.role ≠ .sender ∨ s.sys.st = .reset then s else
  let near := match s.time.fsyncLast with
    | some t => decide (s.time.loc < t + 10 * usTicks)
    | none => false
  if near then bump s 3 0 8 else
  let s1 := capRec { s with time.fsyncLast := some s.time.loc } 0x0A 0 0 (leBytes 4 0 ++ leBytes 8 s.time.loc)
  raiseQuiet s1 0x030C (args [(8, shortForm (sysTicks s))])

def execFsyncInEdge (s : State) : Host.Outcome State Fault Refusal := live s fsyncInEdge

/-- PROCESS_TIME_LIMIT (R322): PROCESS time has reached 2⁴⁸ − 1; raised once. -/
def processTimeLimit (s : State) : State :=
  if s.sys.role = .bed ∧ s.time.process = 2 ^ 48 - 1 ∧ s.time.processFull = false then
    raise { s with time.processFull := true } 0x030D [] else s

def execProcessTimeLimit (s : State) : Host.Outcome State Fault Refusal := live s processTimeLimit

/-! ### SYNC TIME and DELAY cells (R330–R333) -/

/-- A port originates SYNC TIME cells: cascade, ring-return or peer mode (R330). -/
def originates (s : State) (p : Nat) : Bool :=
  match s.sys.role with
  | .sender => decide (p < 8) && keyU s 0x0201 p 1 % 4 != 0
  | .bed => p == 15 && keyU s 0x0F80 0 1 != 0
  | _ => false

/-- SYNC_TIME_SEND (R326, R330): every SYNC_TIME_PERIOD codewords, except in BOOT. -/
def syncTimeSend (port stamp : Nat) (s : State) : State :=
  let last := tabGet 0 s.time.syncSent port
  let period := keyU s 0x0301 0 2 * codeword100 (wport s port).rate / 100
  if originates s port = false ∨ s.sys.st = .boot ∨ s.sys.st = .reset ∨ (last ≠ 0 ∧ s.time.loc < last - 1 + period) then s else
  let t := depart s (portLane s port) stamp
  let flags := flag s.time.locked 0 + flag (decide (s.time.loc < s.time.stepFlagUntil)) 1
  sendCell { s with time.syncSent := tabSet 0 s.time.syncSent port (s.time.loc + 1) } port
    (syncCell 0 0 (timeValue (fdiv (sysAt s t) 256).toNat ++ leBytes 2 (timeRoot s) ++ [b8 flags]))

def execSyncTimeSend (port stamp : Nat) (s : State) : Host.Outcome State Fault Refusal := live s (syncTimeSend port stamp)

/-- The low 48 bits of LOCAL time and the readout of a DELAY stamp (07 R251). -/
def stamp56 (t : Nat) : Nat := t % 2 ^ 56

/-- A TILE does not insert cells on a fenced port (07 R275). -/
def mayInsert (s : State) (p : Nat) : Bool := !(s.sys.role == .tile && fenced s 2 p)

/-- PORT of a DELAY cell: 1 names port B of a TILE (07 R250). -/
def delayPortBit (s : State) (p : Nat) : Nat := if s.sys.role = .tile ∧ p = 1 then 1 else 0

/-- 64 codewords of a port, ticks. -/
def answerTicks (s : State) (p : Nat) : Nat := 64 * codeword100 (wport s p).rate / 100

/-- An exchange fails: counted, its queue entry removed (R331, R344). -/
def delayFail (s : State) (p : Nat) : State :=
  let x := delayOf s p
  tsDrop (bump (setDelay s p { x with sent := none }) 3 (portLane s p) 3) (portLane s p) x.probe 0

/-- DELAY_PERIOD_EXPIRY (R331): a request with its departure stamp, raw readout. -/
def delayPeriod (port stamp : Nat) (s : State) : State :=
  let x := delayOf s port
  if portLocked s port = false ∨ mayInsert s port = false ∨
      (x.lastReq ≠ 0 ∧ s.time.loc < x.lastReq - 1 + keyU s 0x0302 0 4 * usTicks) then s else
  let s0 := if x.sent.isSome then delayFail s port else s
  let l := portLane s port
  let t1 := depart s0 l stamp
  let id := (x.probe + 1) % 65536
  let p := tsPush s0 l id 0 t1
  let x1 := { delayOf p.1 port with probe := id, lastReq := s.time.loc + 1 }
  let s1 := if p.2 then setDelay p.1 port { x1 with sent := some (t1, s.time.loc + answerTicks s port) }
    else bump (setDelay p.1 port { x1 with sent := none }) 3 l 3
  sendCell s1 port (delayCell 0 id (stamp56 t1) 0 0 s.sys.deviceId (delayPortBit s port))

def execDelayPeriodExpiry (port stamp : Nat) (s : State) : Host.Outcome State Fault Refusal := live s (delayPeriod port stamp)

/-- DELAY_REQUEST_CELL (R331): answered on the same port with T2 and T3, raw readouts. -/
def delayRequest (port probe t1 src bitB arrival departure : Nat) (s : State) : State :=
  if s.sys.st = .reset ∨ portLocked s port = false ∨ mayInsert s port = false then s else
  let l := portLane s port
  sendCell (learnPeer s port src) port (delayCell 1 (probe % 65536) (stamp56 t1) (stamp56 (arrive s l arrival))
    (stamp56 (depart s l departure)) (src % 0x4000) (bitB % 2))

def execDelayRequestCell (port probe t1 src bitB arrival departure : Nat) (s : State) : Host.Outcome State Fault Refusal :=
  live s (delayRequest port probe t1 src bitB arrival departure)

/-- `a - b` of two 56-bit stamps (R320, R332). -/
def diff56 (a b : Nat) : Int := sgn 56 (uns 56 ((a : Int) - b))

/-- The exchanges that a later one can need: those less than 1 s older than `t1`, and the most recent of the others (R332). -/
def keepRefs (t1 : Nat) : List (Nat × Nat) → List (Nat × Nat)
  | [] => []
  | r :: l => if r.1 + secTicks * 256 ≤ t1 then [r] else r :: keepRefs t1 l

/-- The raw delay of an exchange against its reference exchange (R332). -/
def rawDelay (t1 t2 t3 t4 r1 r2 : Nat) : Int :=
  let q := Int.tdiv (diff56 t2 r2 * 2 ^ 32) (diff56 t1 r1)
  let rt := Int.tdiv (diff56 t3 t2 * 2 ^ 32) q
  Int.tdiv (diff56 t4 t1 - rt) 2

/-- The mean of the last 64 accepted raw delays, truncated (R333). -/
def linkDelay (raws : List Int) : Int := Int.tdiv raws.sum raws.length

/-- Take a raw delay, or reject it as an outlier (R333). -/
def acceptRaw (s : State) (p : Nat) (raw : Int) : State :=
  let x := delayOf s p
  if x.known ∧ 512 < (raw - x.d).natAbs then bump s 3 (portLane s p) 3 else
  let raws := (raw :: x.raws).take 64
  bump (setDelay s p { x with raws := raws, known := true, d := linkDelay raws }) 3 (portLane s p) 2

/-- DELAY_RESPONSE_CELL (R331–R333): paired by PROBE with the departure entry. -/
def delayResponse (port probe t1 t2 t3 arrival : Nat) (s : State) : State :=
  let x := delayOf s port
  match x.sent with
  | none => s
  | some (d1, deadline) =>
    if probe ≠ x.probe then s
    else if deadline < s.time.loc ∨ t1 ≠ stamp56 d1 then delayFail s port
    else
      let l := portLane s port
      let t4 := stamp56 (arrive s l arrival)
      let s1 := tsDrop (setDelay s port { x with sent := none, past := (d1, t2) :: keepRefs d1 x.past }) l probe 0
      let s2 := capRec s1 0x09 l 0 (leBytes 4 1 ++ leBytes 8 t1 ++ leBytes 8 t2 ++ leBytes 8 t3 ++ leBytes 8 t4)
      match x.past.find? fun r => decide (r.1 + secTicks * 256 ≤ d1) with
      | none => s2
      | some r => if diff56 t1 (stamp56 r.1) = 0 ∨ diff56 t2 r.2 = 0 then bump s2 3 l 3
          else acceptRaw s2 port (rawDelay t1 t2 t3 t4 (stamp56 r.1) r.2)

def execDelayResponseCell (port probe t1 t2 t3 arrival : Nat) (s : State) : Host.Outcome State Fault Refusal :=
  live s (delayResponse port probe t1 t2 t3 arrival)

/-- DELAY_ANSWER_TIMEOUT (R331): no answer within 64 codewords. -/
def delayTimeout (port : Nat) (s : State) : State :=
  match (delayOf s port).sent with
  | some (_, deadline) => if deadline ≤ s.time.loc then delayFail s port else s
  | none => s

def execDelayAnswerTimeout (port : Nat) (s : State) : Host.Outcome State Fault Refusal := live s (delayTimeout port)

/-! ### Hop delays and path tables (R334, R335) -/

/-- The TILE's present report: d_A, d_B, ε_AB, ε_BA; a port without a link reports 0xFF_FFFF (R334). -/
def hopReport (s : State) : List Int :=
  let d := fun (p : Nat) => if portLocked s p then (oneWay s p).getD 0xFFFFFF else 0xFFFFFF
  [d 0, d 1, rxDev s 0 + txDev s 1, rxDev s 1 + txDev s 0]

/-- Some entry has moved by at least PATH_UPDATE_DELTA. -/
def movedBy (delta : Nat) (a b : List Int) : Bool := (a.zip b).any fun p => decide (delta ≤ (p.1 - p.2).natAbs)

/-- Both one-way delays are known (R334). -/
def bothKnown (s : State) : Bool := (List.range 2).all fun p => !portLocked s p || (oneWay s p).isSome

/-- HOP_DELAY (R334): at most once per 100 ms. -/
def hopDelay (s : State) : State :=
  let r := hopReport s
  let news := match s.time.hopLast with
    | none => bothKnown s && (portLocked s 0 || portLocked s 1)
    | some l => movedBy (keyU s 0x0309 0 1) r l
  if s.sys.role ≠ .tile ∨ news = false ∨ (s.time.hopLast.isSome ∧ s.time.loc < s.time.hopAt + 100 * msTicks) then s
  else raiseQuiet { s with time.hopLast := some r, time.hopAt := s.time.loc } 0x0306
    (args [(3, uns 24 (r.getD 0 0)), (3, uns 24 (r.getD 1 0)), (1, uns 8 (r.getD 2 0)), (1, uns 8 (r.getD 3 0))])

def execHopDelay (s : State) : Host.Outcome State Fault Refusal := live s hopDelay

/-- The hop latency of R230 at a rate, 1/256 tick. -/
def hopLatency (rate : Nat) : Int := 256 * (match rate with | 0 => 2400 | 1 => 4800 | _ => 7200)

/-- The reported entry `j` of a TILE. -/
def hopOf (s : State) (dev j : Nat) : Int := (tabGet [] s.time.hops dev).getD j 0

/-- The device ID of a position of a Cascade of this SENDER (07 R256). -/
def tileId (s : State) (n pos : Nat) : Nat := wallIndex s n * 2048 + n * 256 + pos

/-- Positions of the TILEs of a Cascade. -/
def tilesOf (s : State) (n : Nat) : List Nat :=
  (casc s n).entries.filterMap fun (p, e) => if e.present && !e.ret then some p else none

/-- PATH_A of position `k` (R335). -/
def pathA (s : State) (n k : Nat) : Int :=
  let h := hopLatency (keyU s 0x0202 n 1)
  ((List.range k).map fun i => hopOf s (tileId s n (i + 1)) 0).sum +
    ((List.range (k - 1)).map fun i => h + hopOf s (tileId s n (i + 1)) 2).sum

/-- PATH_B of position `k` of `len` (R335). -/
def pathB (s : State) (n k len : Nat) : Int :=
  let h := hopLatency (keyU s 0x0202 n 1)
  ((List.range (len + 1 - k)).map fun i => hopOf s (tileId s n (k + i)) 1).sum +
    ((List.range (len - k)).map fun i => h + hopOf s (tileId s n (k + 1 + i)) 3).sum

/-- The Cascade is a ring: a return port belongs to it and is locked, or its last REPORT came from the return port of the
other unit of a pair (07 R268; 17 R622). -/
def isRing (s : State) (n : Nat) : Bool :=
  (pairPort s n && (casc s n).entries.any fun p => p.2.ret) || (List.range 8).any fun p => keyU s 0x0201 p 1 % 4 == 2 && bits (keyU s 0x0201 p 1) 2 3 == n && portLocked s p

/-- Every TILE from the first to `k` has reported its delay on port A (entry 0), or from `k` to the tail
on port B (entry 1). -/
def reported (s : State) (n j : Nat) (l : List Nat) : Bool :=
  l.all fun i => let d := tileId s n i; (tabGet [] s.time.hops d).length == 4 && hopOf s d j != 0xFFFFFF

/-- PATH_A and PATH_B of a position as sent; unknown is 0xFFFF_FFFF (R329, R335). -/
def pathsOf (s : State) (n k : Nat) : List Int :=
  let len := (tilesOf s n).length
  let a := if reported s n 0 ((List.range k).map (· + 1)) then pathA s n k else 0xFFFFFFFF
  let b := if isRing s n ∧ reported s n 1 ((List.range (len + 1 - k)).map (· + k)) then pathB s n k len else 0xFFFFFFFF
  [a, b]

/-- D_tail of a Cascade, 1/256 tick (R335). -/
def dTail (s : State) (n : Nat) : Int := pathA s n (tilesOf s n).length

/-- The firmware's TIME_SOURCE_SET with UPDATE_PATH to a TILE; its tag is the firmware's own (log 18). -/
def sendPath (s : State) (n k : Nat) (p : List Int) : State :=
  let dev := tileId s n k
  match relayPort s n k with
  | none => s
  | some port =>
    let c : Cmd := { path := 0, origin := 0, tag := 0xFFF, notify := false, self := false, bcast := false, target := dev, len := 7
                     payload := [w32 (2 ^ 30), 0, 0, 0, 0, w32 (uns 32 (p.getD 0 0)), w32 (uns 32 (p.getD 1 0))] }
    sendCells { s with time.pathSent := tabSet [] s.time.pathSent dev p, link.ownAsk := dev :: s.link.ownAsk.erase dev } port
      (mgmtCells 0 false dev s.sys.deviceId 0xFFF 12 0 (bytesOf (cmdWords 0x71 c)))

/-- PATH_TABLE_UPDATE (R335): a TILE not told since its enumeration, or one of whose paths has moved by PATH_UPDATE_DELTA. -/
def pathTableUpdate (s : State) : State :=
  if s.sys.role ≠ .sender ∨ s.sys.st = .reset ∨ s.sys.st = .boot then s else
  (List.range 8).foldl (fun t n => (tilesOf t n).foldl (fun u k =>
    let p := pathsOf u n k
    let old := tabGet [] u.time.pathSent (tileId u n k)
    if old.isEmpty || movedBy (keyU u 0x0309 0 1) p old then sendPath u n k p else u) t) s

def execPathTableUpdate (s : State) : Host.Outcome State Fault Refusal := live s pathTableUpdate

/-! ### PTP (R340–R342) -/

/-- A PTP time in nanoseconds and a correction in 2⁻¹⁶ ns, as 1/256 tick. -/
def ptpTime (ns : Nat) (corr : Int) : Int := (ns : Int) * 2560 + fdiv (corr * 5) 128

/-- Lock and unlock of a port by the offset of one Sync (R342). -/
def portJudge (s : State) (p : Nat) (offset : Int) : State :=
  let a := offset.natAbs
  let x := ptp s p
  let good := if a ≤ 256000 then x.goodRun + 1 else 0
  let bad := if 2560000 < a then x.badRun + 1 else 0
  let s1 := setPtp s p { x with goodRun := good, badRun := bad }
  if x.locked then (if 4 ≤ bad then portUnlock s1 p 0 else s1)
  else if 16 ≤ good then raise (setPtp s1 p { ptp s1 p with locked := true }) 0x0308 (args [(4, p)]) else s1

/-- A complete Sync: its origin time `t1` and its arrival stamp (R342). PORT time steps beyond 100 µs and
slews at up to 500 ppm otherwise. -/
def portSync (s : State) (p : Nat) (t1 : Int) (stamp : Nat) : State :=
  let x := ptp s p
  let t2 := portAt x stamp
  let offset := t2 - t1 - x.pathDelay
  let x1 := if 256000000 < offset.natAbs then
      { x with time := t1 + x.pathDelay, ref := stamp, freq := 0, syncT1 := t1, syncT2 := t1 + x.pathDelay, syncRx := none }
    else { x with time := t2, ref := stamp, freq := clampI (-500000000) 500000000 (Config.ptpServo x.freq offset)
                  syncT1 := t1, syncT2 := t2, syncRx := none }
  portJudge (setPtp s p x1) p offset

/-- Delay_Resp: the mean path delay of IEEE 1588-2019 end to end (R340, R342). -/
def portDelayResp (s : State) (p seq : Nat) (t4 : Int) : State :=
  let x := ptp s p
  match x.reqSent with
  | some t => if seq ≠ x.reqSeq then s else
      let t3 := portAt x t
      tsDrop (setPtp s p { x with reqSent := none, pathDelay := Int.tdiv ((x.syncT2 - t3) + (t4 - x.syncT1)) 2 }) (2 * p) seq 1
  | none => s

/-- Announce: best-master comparison by the dataset's rank, lower better (R341). -/
def portAnnounce (s : State) (p rank clock : Nat) : State :=
  let x := ptp s p
  if x.valid ∧ clock = x.master then setPtp s p { x with rank := rank }
  else if x.valid ∧ x.rank ≤ rank then s
  else raise (setPtp s p { x with valid := true, master := clock, rank := rank
                                  ref := if x.valid then x.ref else loc256 s, syncRx := none })
    0x0307 (args [(4, p), (4, clock)])

/-- PTP_MESSAGE (R339–R342): kind 0 Sync, 1 Follow_Up, 2 Delay_Resp, 3 Announce, any other ignored; `credit`
tells whether the port's credit allows it; `time` in ns, `corr` in 2⁻¹⁶ ns, the stamp raw. -/
def ptpMessage (port kind : Nat) (credit twoStep : Bool) (domain clock rank seq stamp time : Nat) (corr : Int) (s : State) : State :=
  if s.sys.st = .reset ∨ portOn s port = false ∨ (srcPort s port).up = false then s
  else if credit = false ∨ pausing s ∨ domain ≠ keyU s 0x030B port 1 ∨ 3 < kind ∨ (kind < 3 ∧ clock ≠ (ptp s port).master) then
    bump s 3 port 6
  else
    let t := arrive s (2 * port) stamp
    let s1 := capRec (bump s 3 port 5) 0x09 port 0 (leBytes 4 (2 + kind) ++ leBytes 8 t ++ leBytes 8 (uns 64 (ptpTime time corr)))
    match kind with
    | 0 => if twoStep then
          setPtp s1 port { ptp s1 port with syncSeq := seq, syncRx := some t, syncT1 := fdiv (corr * 5) 128 }
        else portSync s1 port (ptpTime time corr) t
    | 1 => (match (ptp s1 port).syncRx with
        | some r => if (ptp s1 port).syncSeq = seq then portSync s1 port (ptpTime time corr + (ptp s1 port).syncT1) r else s1
        | none => s1)
    | 2 => portDelayResp s1 port seq (ptpTime time (-corr))
    | _ => portAnnounce s1 port rank clock

def execPtpMessage (port kind : Nat) (credit twoStep : Bool) (domain clock rank seq stamp time : Nat) (corr : Int) (s : State) :
    Host.Outcome State Fault Refusal := live s (ptpMessage port kind credit twoStep domain clock rank seq stamp time corr)

/-- PTP_ANNOUNCE_TIMEOUT (R341, R342): the master is given up and the port unlocks. -/
def ptpAnnounceTimeout (port : Nat) (s : State) : State :=
  if portOn s port = false ∨ (ptp s port).valid = false then s else
  let s1 := portUnlock s port 1
  setPtp s1 port { ptp s1 port with rank := 2 ^ 64, master := 2 ^ 64 }

def execPtpAnnounceTimeout (port : Nat) (s : State) : Host.Outcome State Fault Refusal := live s (ptpAnnounceTimeout port)

/-- Delay_Req goes to the master where PTP_TRANSPORT is hybrid and the port has an IPv4 address, else it is multicast (R340;
08 R303). -/
def ptpMaster (s : State) (p : Nat) : Option Nat :=
  if keyU s 0x030C p 1 = 2 ∧ keyU s 0x0102 (5 * p) 4 ≠ 0 then some (ptp s p).master else none

/-- PTP_DELAY_REQ_SEND (R340, R344): the request leaves with its stamp. -/
def ptpDelayReq (port stamp : Nat) (s : State) : State :=
  let x := ptp s port
  if portOn s port = false ∨ (srcPort s port).up = false ∨ x.valid = false then s else
  let l := 2 * port
  let seq := (x.reqSeq + 1) % 65536
  let t := depart s l stamp
  let s0 := if x.reqSent.isSome then tsDrop s l x.reqSeq 1 else s
  let p := tsPush s0 l seq 1 t
  emit (setPtp p.1 port { ptp p.1 port with reqSeq := seq, reqSent := if p.2 then some t else none }) 
    (.ptp port 1 seq t (keyU s 0x030C port 1) (ptpMaster s port))

def execPtpDelayReqSend (port stamp : Nat) (s : State) : Host.Outcome State Fault Refusal := live s (ptpDelayReq port stamp)

end Sys2Proof.Machine
end

