-- ==== Sys2Proof/Machine/Codeword.lean ====
section
/-! DEFINITION. Codewords on the line: cells, scrambler, RS(544,514), PAM4 and NRZ levels and the precoder
(07_cascade_link R231, R232; 08_lanes R283, R284). The field, the generator and the order of bits in a symbol are those of
IEEE 802.3 Clause 91 (PRESUMED, log 65). -/

namespace Sys2Proof.Machine

/-! ### Scrambler (07 R231) -/

/-- One bit through x⁵⁸ + x³⁹ + 1: the bit sent and the history, whose bit k is the bit sent k + 1 before. -/
def scrambleBit (h : Nat) (d : Bool) : Bool × Nat :=
  let o := d.xor ((bit h 38).xor (bit h 57))
  (o, (h * 2 + b2n o) % 2 ^ 58)

/-- Payload bits through the scrambler. -/
def scramble : Nat → List Bool → List Bool × Nat
  | h, [] => ([], h)
  | h, d :: r =>
    let p := scrambleBit h d
    let q := scramble p.2 r
    (p.1 :: q.1, q.2)

/-- The receiver's inverse: the history holds the line bits as received (08 R298). -/
def descramble : Nat → List Bool → List Bool
  | _, [] => []
  | h, o :: r => (o.xor ((bit h 38).xor (bit h 57))) :: descramble ((h * 2 + b2n o) % 2 ^ 58) r

/-- The bits of a byte string, each byte from bit 0 up. -/
def bitsOf (l : List Byte) : List Bool := l.flatMap fun b => (List.range 8).map (bit b.toNat)

/-- The number that bits spell, the first lowest. -/
def bitsNat (l : List Bool) : Nat := l.foldr (fun b n => b2n b + 2 * n) 0

/-- The 257 bits of a cell as sent: its flag, not scrambled, then its payload (R231, R232). -/
def cellLine (h : Nat) (cell : List Byte) : List Bool × Nat :=
  let data := cell.length == 33
  let p := scramble h (bitsOf (if data then cell.drop 1 else cell))
  (data :: p.1, p.2)

/-- The message bits of a codeword of 20 cells. -/
def messageBits (h : Nat) : List (List Byte) → List Bool × Nat
  | [] => ([], h)
  | c :: r =>
    let p := cellLine h c
    let q := messageBits p.2 r
    (p.1 ++ q.1, q.2)

/-! ### RS(544,514) (07 R231) -/

/-- A product in GF(2¹⁰) by x¹⁰ + x³ + 1. -/
def gfMul : Nat → Nat → Nat → Nat
  | 0, _, _ => 0
  | n + 1, a, b =>
    let r := gfMul n (if 1024 ≤ a * 2 then Nat.xor (a * 2) 0x409 else a * 2) (b / 2)
    if b % 2 = 1 then Nat.xor a r else r

/-- The generator Π (x − αⁱ), i = 0 … 29, its coefficients from x²⁹ down. -/
def rsGen : List Nat :=
  let step := fun (p : List Nat × Nat) (_ : Nat) =>
    (List.zipWith Nat.xor (p.1 ++ [0]) (0 :: p.1.map (gfMul 10 p.2)), gfMul 10 p.2 2)
  ((List.range 30).foldl step ([1], 1)).1.drop 1

/-- The 30 parity symbols of a message, the symbol sent first the highest power. -/
def rsParity (msg : List Nat) : List Nat :=
  msg.foldl (fun reg m =>
    let fb := Nat.xor m (reg.headD 0)
    List.zipWith Nat.xor (reg.drop 1 ++ [0]) (rsGen.map (gfMul 10 fb))) (List.replicate 30 0)

/-- Symbols of 10 bits, the first bit lowest. -/
def symbolsOf : Nat → List Bool → List Nat
  | 0, _ => []
  | n + 1, l => bitsNat (l.take 10) :: symbolsOf n (l.drop 10)

/-- The 5440 bits of a codeword, and the scrambler after it. -/
def codewordBits (h : Nat) (cells : List (List Byte)) : List Bool × Nat :=
  let m := messageBits h cells
  (m.1 ++ (rsParity (symbolsOf 514 m.1)).flatMap fun x => (List.range 10).map (bit x), m.2)

/-! ### Levels (08 R283, R284) -/

/-- The PAM4 level of a pair of bits, the earlier first: 00, 01, 11, 10 are levels 0 to 3 (R283). -/
def pam4Level (first second : Bool) : Nat :=
  match first, second with
  | false, false => 0
  | false, true => 1
  | true, true => 2
  | true, false => 3

/-- The levels of a bit string in PAM4, two bits a symbol. -/
def pam4Levels : List Bool → List Nat
  | a :: b :: r => pam4Level a b :: pam4Levels r
  | _ => []

/-- The transmit precoder: P(j) = (G(j) − P(j − 1)) mod 4 (R284). -/
def precode : Nat → List Nat → List Nat
  | _, [] => []
  | p, g :: r => let q := (g + 4 - p % 4) % 4; q :: precode q r

/-- The receiver's inverse: G(j) = (P(j) + P(j − 1)) mod 4 (R284). -/
def unprecode : Nat → List Nat → List Nat
  | _, [] => []
  | p, q :: r => (q + p) % 4 :: unprecode q r

/-- The levels of a bit string in a lane mode: a 1 of NRZ is high, level 1; precoding never applies there (R283, R284). -/
def lineLevels (mode : Nat) (pre : Bool) (last : Nat) (bits : List Bool) : List Nat :=
  if mode = 2 then bits.map b2n else if pre then precode last (pam4Levels bits) else pam4Levels bits

end Sys2Proof.Machine
end

