-- ==== Sys2Proof/Machine/Transmit.lean ====
section
/-! DEFINITION. The cell schedule of an originating port and the cells that a forwarder inserts (07_cascade_link R234,
R235, R250, R254, R272, R273). Codewords leave as LOCAL time passes, in the step on an empty queue (log 65). -/

namespace Sys2Proof.Machine

/-! ### Choice of a cell (R234) -/

/-- TYPE of a cell, IDLE included. -/
def cellType (c : List Byte) : Nat := (c.getD 0 0).toNat

/-- IDLE, with LOST = 1 where the content was lost upstream (R242). -/
def idleCell (lost : Bool) : List Byte := ctrlCell 0 [b8 (b2n lost)]

/-- The place of a control cell in the order of service: SYNC, DELAY, HEART, ENUM, MARK, then what is left; MGMT before
or after them. -/
def cellRank (mgmtFirst : Bool) (c : List Byte) : Nat :=
  match cellType c with
  | 2 => if mgmtFirst then 0 else 7
  | 1 => 1
  | 5 => 2
  | 4 => 3
  | 3 => 4
  | 6 => 5
  | _ => 6

/-- A TILE_CRC cell. -/
def isTileCrc (c : List Byte) : Bool := cellType c == 1 && (c.getD 1 0).toNat % 16 == 3

/-- A TILE_CRC cell follows the last data cell of its frame, and its two copies go in different codewords (R244). -/
def mayGo (busy : Bool) (placed : List (List Byte)) (c : List Byte) : Bool := !isTileCrc c || (!busy && !placed.contains c)

/-- The cell served next of those that wait, each with the port it waits on: the least rank, the oldest first. -/
def pickCell (mgmtFirst busy : Bool) (placed : List (List Byte)) (l : List (Nat × List Byte)) : Option (Nat × List Byte) :=
  (l.filter fun x => mayGo busy placed x.2).foldl (fun best x => match best with
    | none => some x
    | some y => if cellRank mgmtFirst x.2 < cellRank mgmtFirst y.2 then some x else best) none

/-! ### A codeword originated (R234, R235) -/

/-- A codeword under composition: what still waits, and its cells so far. -/
structure Fill where
  ctrl : List (Nat × List Byte)
  data : List (List Byte)
  cells : List (List Byte)
deriving DecidableEq, Repr

/-- A control cell at the next position, else IDLE. -/
def fillCtrl (mgmtFirst : Bool) (f : Fill) : Fill :=
  match pickCell mgmtFirst (!f.data.isEmpty) f.cells f.ctrl with
  | some x => { f with ctrl := f.ctrl.erase x, cells := f.cells ++ [x.2] }
  | none => { f with cells := f.cells ++ [idleCell false] }

/-- Position 19 is reserved in codewords with i mod 5 below 4; in those with 0 and 2 it serves MGMT first (R234). -/
def reservedPos (i k : Nat) : Bool := k == 19 && i % 5 != 4
def mgmtFirstAt (i k : Nat) : Bool := !reservedPos i k || i % 5 == 0 || i % 5 == 2

/-- Position `k` of codeword `i`: a MARK that is due, a data cell at a data position, else a control cell or IDLE. -/
def fillPos (i : Nat) (mark : Option (List Byte)) (f : Fill) (k : Nat) : Fill :=
  match (if k = 19 then mark else none) with
  | some m => { f with cells := f.cells ++ [m] }
  | none =>
    if reservedPos i k then fillCtrl (mgmtFirstAt i k) f else
    match f.data with
    | c :: r => { f with data := r, cells := f.cells ++ [c] }
    | [] => fillCtrl true f

/-! ### Ports -/

/-- The transmitter of a port. -/
def txPort (s : State) (p : Nat) : TxPort := tabGet TxPort.cold s.wire p
def setTx (s : State) (p : Nat) (x : TxPort) : State := { s with wire := tabSet TxPort.cold s.wire p x }

/-- The port originates its codewords: it is locked, and no stream is forwarded to it (R234, R253, R254). -/
def originating (s : State) (p : Nat) : Bool :=
  portExists s p && portLocked s p && (s.sys.role != .tile || !portLocked s (1 - p))

/-- MARK insertion is active: the far end has asked for it, or the port is a lane of a bundle (R235, R273; 08 R285). -/
def markOn (s : State) (p : Nat) : Bool := (lane s (portLane s p)).markTx || bundleLane s (portLane s p)

/-- The port whose cells the lanes of a bundle share: its first; else the port itself (R272). -/
def txFirst (s : State) (p : Nat) : Nat := if bundleLane s (portLane s p) then bundleFirst s p else p

/-- The MARK of a codeword of the port, at index multiples of 16 384 (R235, R250). -/
def markDue (s : State) (p : Nat) : Option (List Byte) :=
  if markOn s p && (txPort s p).index % 16384 == 0 then
    some (markCell (p - txFirst s p) (((txPort s p).marks + 1) % 2 ^ 32) (if bundleLane s (portLane s p) then bundleWidth s p else 1)
      s.sys.deviceId)
  else none

/-- A codeword leaves on a port: it is coded, and the index moves on (R231, R234; 08 R283, R284). -/
def putCodeword (s : State) (p : Nat) (cells : List (List Byte)) : State :=
  let x := lane s (portLane s p)
  let w := txPort s p
  let c := codewordBits w.history cells
  let lv := lineLevels x.mode x.preTx w.level c.1
  let n := if markOn s p && w.index % 16384 == 0 && (cells.getLast?).any (fun m => cellType m == 6 && m.length == 32) then 1 else 0
  emit (setTx s p { w with index := w.index + 1, history := c.2, level := lv.getLastD w.level, marks := w.marks + n })
    (.codeword p w.index cells lv)

/-- The cells that may leave on a port: its own, and on a lane of a bundle those of the bundle but for DELAY, which
measures each lane by itself (R272; 09_time R331). -/
def waiting (s : State) (p : Nat) : List (Nat × List Byte) :=
  let f := txFirst s p
  (txPort s p).ctrl.map (fun c => (p, c)) ++
    (if f = p then [] else ((txPort s f).ctrl.filter fun c => cellType c != 5).map fun c => (f, c))

/-- Codeword `index` of an originating port. Lanes of a bundle leave in ascending port order, so codeword k of the bundle
goes on lane k mod WIDTH (R272). -/
def sendCodeword (s : State) (p : Nat) : State :=
  let f := txFirst s p
  let i := (txPort s p).index
  let r := (List.range 20).foldl (fillPos i (markDue s p)) { ctrl := waiting s p, data := (txPort s f).data, cells := [] }
  let left := fun (q : Nat) => (r.ctrl.filter fun x => x.1 == q).map Prod.snd
  let s1 := setTx s p { txPort s p with ctrl := left p }
  let s2 := if f = p then s1
    else setTx s1 f { txPort s1 f with ctrl := ((txPort s1 f).ctrl.filter fun c => cellType c == 5) ++ left f }
  putCodeword (setTx s2 f { txPort s2 f with data := r.data }) p r.cells

/-- The next codeword's time has come. -/
def codewordDue (s : State) (p : Nat) : Bool :=
  originating s p &&
    decide ((txPort s p).base * 100 + (txPort s p).index * codeword100 (wport s p).rate ≤ s.time.loc * 100)

/-- Codewords that are due leave, ports ascending. -/
def transmit (s : State) : State :=
  (List.range 16).foldl (fun t p => if codewordDue t p then sendCodeword t p else t) s

/-! ### A codeword forwarded (R253, R254) -/

/-- Fill free positions (`none`) of a forwarded codeword with cells that wait; the others are IDLE. -/
def insertAt (mark : Option (List Byte)) (f : Fill) (k : Nat) (c : Option (List Byte)) : Fill :=
  match c with
  | some x => { f with cells := f.cells ++ [x] }
  | none =>
    match (if k = 19 then mark else none) with
    | some m => { f with cells := f.cells ++ [m] }
    | none => fillCtrl true f

/-- A TILE forwards a codeword to a port, its own cells at the free positions; a forwarded cell is never delayed, so a
MARK whose position is taken does not leave (log 65). -/
def forwardCells (s : State) (p : Nat) (cells : List (Option (List Byte))) : State :=
  let w := txPort s p
  let f := (cells.zipIdx).foldl (fun f x => insertAt (markDue s p) f x.2 x.1) { ctrl := w.ctrl.map (fun c => (p, c)), data := [], cells := [] }
  putCodeword (setTx s p { w with ctrl := f.ctrl.map Prod.snd }) p f.cells

end Sys2Proof.Machine
end

