-- ==== Sys2Proof/Machine/LinkTile.lean ====
section
/-! DEFINITION. The Wotor link of a TILE: forwarding, raster reception, its place in the Cascade, upstream
loss and hold (07_cascade_link). -/

namespace Sys2Proof.Machine

/-! ### Codewords and cells (R231–R242, R253) -/

/-- A new second of a port's failure counts (R275). -/
def portSecond (s : State) (p : Nat) : State :=
  let w := wport s p
  if w.secStart + secTicks ≤ s.time.loc then setWport s p { w with secStart := s.time.loc, checkFails := 0, reasmFails := 0 } else s

/-- CASCADE_PROTO of a port (R275; detail 1 CHECK, 2 reassembly, 3 enumeration conflict). -/
def cascadeProto (s : State) (p cause : Nat) : State := fire s 10 p cause

/-- A control cell whose CHECK fails is discarded and counted (R241, R275). -/
def checkFail (s : State) (p : Nat) : State :=
  let s1 := bump (portSecond s p) 2 p 0
  let w := wport s1 p
  let s2 := setWport s1 p { w with checkFails := w.checkFails + 1 }
  if w.checkFails + 1 = 17 then cascadeProto s2 p 1 else s2

/-- An MGMT message that fails reassembly (R248, R275). -/
def reasmFail (s : State) (p : Nat) : State :=
  let s1 := bump (portSecond s p) 2 p 2
  let w := wport s1 p
  let s2 := setWport s1 p { w with reasmFails := w.reasmFails + 1 }
  if w.reasmFails + 1 = 17 then cascadeProto s2 p 2 else s2

/-- What a receiver counts on one cell: a data cell has 33 bytes, its flag first (R232, R241, R242). -/
def seeCell (p : Nat) (s : State) (cell : List Byte) : State :=
  if cell.length ≠ 32 then s
  else if cellOk cell = false then checkFail s p
  else if 6 < (cell.getD 0 0).toNat then bump s 2 p 1 else s

/-- A hop-local cell by its TYPE, whether or not its CHECK holds (R241, R242). -/
def hopLocal (cell : List Byte) : Bool :=
  cell.length == 32 && (cellType cell == 0 || cellType cell == 5 || cellType cell == 6 ||
    (cellType cell == 3 && (cell.getD 1 0).toNat % 16 == 0))

/-- An IDLE whose content was lost upstream (R240, R253). -/
def isLost (c : List Byte) : Bool := c.length == 32 && cellOk c && cellType c == 0 && (c.getD 1 0).toNat % 2 == 1

/-- A codeword carries an IDLE with LOST = 1. -/
def hasLost (cells : List (List Byte)) : Bool := cells.any isLost

/-- An MGMT cell that this TILE consumes (R242, R256, R275): it is not forwarded. -/
def consumes (s : State) (p : Nat) (c : List Byte) : Bool :=
  c.length == 32 && cellType c == 2 && cellOk c && s.link.tile.placed && !fenced s 2 p &&
    !bit (leAt c 2 2) 14 && leAt c 2 2 % 0x4000 == s.sys.deviceId

/-- What a forwarder keeps of a cell: nothing of IDLE, of a hop-local cell, and of a message for this TILE; an IDLE with
LOST = 1 goes on (R253; log 65). -/
def keepCell (s : State) (p : Nat) (c : List Byte) : Option (List Byte) :=
  if (hopLocal c && !isLost c) || consumes s p c then none else some c

/-- Reception of the frame in progress is abandoned; the TILE resumes at the next FRAME_START (R240). -/
def abandonRx (s : State) (p : Nat) : State :=
  if s.link.tile.rxOn ∧ p = s.link.tile.activeUp then
    bump { s with link.tile.rxOn := false, tl.rx.active := false } 2 p 6
  else s

/-- WOTOR_CODEWORD (R233, R240–R242, R253): a codeword received on a port, decoded into its 20 cells, or
uncorrectable. Every receiver counts its cells; a TILE forwards it to the opposite transmitter. `fec` is 0 for a
clean codeword, 1 for a corrected one, 2 for an uncorrectable one; the lane counts it before lock too. -/
def wotorCodeword (port fec : Nat) (cells : List (List Byte)) (s0 : State) : State :=
  if portExists s0 port = false then s0 else
  let s := laneCodeword s0 (portLane s0 port) fec
  if portLocked s port = false then s else
  let bad := decide (fec = 2)
  let s1 := if bad then s else cells.foldl (seeCell port) s
  if s.sys.role ≠ .tile then s1 else
  let s2 := if bad || hasLost cells then abandonRx s1 port else s1
  if portLocked s2 (1 - port) = false then s2 else
  forwardCells s2 (1 - port) (if bad then List.replicate 20 (some (idleCell true)) else cells.map (keepCell s2 port))

def execWotorCodeword (port fec : Nat) (cells : List (List Byte)) (s : State) : Host.Outcome State Fault Refusal :=
  live s (wotorCodeword port fec cells)

/-! ### The active upstream port (R266–R268) -/

/-- 2 × FRAME_PERIOD_NOM. -/
def feedWindow (s : State) : Nat := 2 * keyU s 0x0403 0 4

/-- A TILE's port feeds (R266; 17_redundancy R632). -/
def feeding (s : State) (p : Nat) : Bool :=
  portLocked s p && !s.link.tile.suppressed.contains p &&
    (match (wport s p).lastStart with
      | some t => decide (s.time.loc ≤ t + feedWindow s)
      | none => false)

/-- The table of R266: the port that should be active; 2 none. -/
def chooseUp (s : State) : Nat :=
  let a := feeding s 0
  let b := feeding s 1
  if a && decide ((wport s 0).feedSince + secTicks ≤ s.time.loc) then 0
  else if a && b && s.link.tile.activeUp == 1 then 1
  else if a then 0
  else if b then 1
  else 2

/-- Queued events leave while credits last (R265). -/
def drainUp : Nat → State → State
  | 0, s => s
  | n + 1, s =>
    match s.evs.upstream with
    | r :: rest =>
      if 0 < s.evs.upCredits ∧ upOpen s then
        drainUp n (sendCells { s with evs.upstream := rest, evs.upCredits := s.evs.upCredits - 1 } s.link.tile.activeUp (eventCells s r))
      else s
    | [] => s

/-- A port becomes the active upstream port: UPSTREAM_SWITCHED, samples from it, and holdover while its PATH
is unknown (R266; 09_time R338). -/
def switchUp (s : State) (p : Nat) : State :=
  let s1 := { s with link.tile.activeUp := p, link.tile.rxOn := false, link.tile.rxDone := false, link.tile.holding := false, link.tile.fed := true
                     link.tile.expired := false }
  let s2 := drainUp 64 (raise s1 0x0205 (args [(4, p)]))
  if (pathOf s2).isNone ∧ s.time.source = 3 then enterHoldover s2 else s2

/-- UPSTREAM_SWITCHED: the port that R266 chooses delivers a FRAME_START now. -/
def upstreamSwitched (port : Nat) (s : State) : State :=
  if s.sys.role ≠ .tile ∨ 2 ≤ port ∨ port = s.link.tile.activeUp ∨ chooseUp s ≠ port ∨ (wport s port).lastStart ≠ some s.time.loc
  then s else switchUp s port

def execUpstreamSwitched (port : Nat) (s : State) : Host.Outcome State Fault Refusal := live s (upstreamSwitched port)

/-- A HEART of this device on a port, with bits of its activity in STATE (R250, R267; 17 R624, R632). -/
def heartWith (s : State) (p act : Nat) (lost : Bool) : State :=
  let seq := (s.link.heartSeq + 1) % 65536
  sendCell { s with link.heartSeq := seq } p
    (heartCell s.sys.deviceId seq (stateCode s.sys.st + act) (flag lost 0 + flag (s.sys.role == .tile && feeding s p) 1))

/-- A HEART with the activity of a unit of a pair. -/
def sendHeart (s : State) (p : Nat) (lost : Bool) : State :=
  heartWith s p (if paired s then (if s.pair.active then 16 else 32) else 0) lost

/-- The port that faces away from the active upstream port. -/
def otherPort (s : State) : Nat := if s.link.tile.activeUp = 1 then 0 else 1

/-- The HEART with UPSTREAM_LOST on the other port, unless that port is fenced (R267, R275). -/
def lossHeart (s : State) : State :=
  let p := otherPort s
  if fenced s 2 p then { s with link.tile.lossBeat := s.time.loc }
  else sendHeart { s with link.tile.lossBeat := s.time.loc } p true

/-- The flips held were accepted while no port fed: emission does not resume at them (R268). -/
def flipsBefore (s : State) : State := { s with tl.early := s.tl.early ++ s.tl.flips }

/-- The TILE goes dark: HOLD_EXPIRED (R268). -/
def goDark (s : State) : State :=
  raise { flipsBefore s with link.tile.dark := true, link.tile.expired := true } 0x0206
    (args [(4, (s.time.loc - s.link.tile.heldSince) / msTicks)])

/-- UPSTREAM_LOST (R267): the active upstream port stops feeding. -/
def upstreamLost (s : State) : State :=
  let a := s.link.tile.activeUp
  if s.sys.role ≠ .tile ∨ s.sys.st = .reset ∨ 2 ≤ a ∨ s.link.tile.fed = false ∨ feeding s a then s else
  let s1 := raise { s with link.tile.fed := false, link.tile.holding := true, link.tile.heldSince := s.time.loc } 0x0204 (args [(4, a)])
  let s2 := lossHeart s1
  if keyU s 0x0207 0 2 = 0 ∧ feeding s (1 - a) = false then goDark s2 else s2

def execUpstreamLost (s : State) : Host.Outcome State Fault Refusal := live s upstreamLost

/-- UPSTREAM_LOST_HEART_REPEAT (R267): every 1 ms while no port feeds. -/
def lossHeartRepeat (s : State) : State :=
  if s.sys.role ≠ .tile ∨ s.link.tile.holding = false ∨ feeding s 0 ∨ feeding s 1 ∨
      s.time.loc < s.link.tile.lossBeat + msTicks then s else lossHeart s

def execUpstreamLostHeartRepeat (s : State) : Host.Outcome State Fault Refusal := live s lossHeartRepeat

/-- HOLD_LIMIT_EXPIRY (R268): no port has fed for HOLD_LIMIT. -/
def holdLimitExpiry (s : State) : State :=
  if s.sys.role ≠ .tile ∨ s.link.tile.holding = false ∨ s.link.tile.expired ∨ feeding s 0 ∨ feeding s 1 ∨
      s.time.loc < s.link.tile.heldSince + keyU s 0x0207 0 2 * msTicks then s else goDark s

def execHoldLimitExpiry (s : State) : Host.Outcome State Fault Refusal := live s holdLimitExpiry

/-! ### Raster (R237–R240; 02 R53–R56) -/

/-- A FRAME_START keeps the port's feed (R266). -/
def feedPort (s : State) (p : Nat) : State :=
  let was := feeding s p
  let s1 := { s with link.tile.suppressed := s.link.tile.suppressed.filter (· != p) }
  let w := wport s1 p
  setWport s1 p { w with lastStart := some s.time.loc, feedSince := if was then w.feedSince else s.time.loc }

/-- Q of R236: triplets per line. -/
def tripletsOf (w v : Nat) : Nat := cdiv (w * v) 16

/-- Data cells of a frame (R238), by the TILE's GEOMETRY. -/
def frameCells (s : State) : Nat := 3 * tripletsOf s.link.tile.wc s.link.tile.views * s.link.tile.hc

/-- FRAME_START_CELL (R238, R240, R266): on the active upstream port it begins raster reception. -/
def frameStartCell (port num w h vm1 : Nat) (s : State) : State :=
  if s.sys.role ≠ .tile ∨ 2 ≤ port ∨ portLocked s port = false ∨ s.sys.st = .reset ∨ s.sys.st = .boot then s else
  let s0 := feedPort (capCell s port (loc256 s) (syncCell 2 num (leBytes 2 w ++ leBytes 2 h ++ [b8 vm1]))) port
  let s1 := if port ≠ s0.link.tile.activeUp ∧ chooseUp s0 = port then switchUp s0 port else s0
  if port ≠ s1.link.tile.activeUp then s1 else
  let t := s1.link.tile
  -- The active port feeds again: the hold ends; emission resumes at its first accepted flip (R268).
  let s2 := { (if t.dark && t.holding then flipsBefore s1 else s1) with
    link.tile.fed := true, link.tile.holding := false, link.tile.expired := false }
  let s3 := { abandonRx s2 port with link.tile.rxDone := false }
  if t.geomKnown = false ∨ w ≠ t.wc ∨ h ≠ t.hc ∨ vm1 % 4 + 1 ≠ t.views then
    let s4 := bump { s3 with link.tile.geomRun := true, tl.rx := Rx.cold } 2 port 6
    if t.geomRun then s4 else raise s4 0x0203 (args [(4, w), (4, h), (4, vm1 % 4 + 1)])
  else
    let on := timelineOn s
    let some_ := decide (0 < frameCells s)
    { s3 with link.tile.rxOn := some_, link.tile.rxDone := !some_, link.tile.rxFrame := num % 65536, link.tile.rxCells := 0, link.tile.rxStale := false
              link.tile.geomRun := false
              tl.rx := { Rx.cold with active := on, frame := num % 65536 } }

def execFrameStartCell (port num w h vm1 : Nat) (s : State) : Host.Outcome State Fault Refusal :=
  live s (frameStartCell port num w h vm1)

/-- Write one pixel of the raster where it lies in the rectangle and in a view below VIEW_COUNT (R239). -/
def takePixel (line : Nat) (s : State) (i px : Nat) : State :=
  let t := s.link.tile
  let v := i / max 1 t.wc
  let x := i % max 1 t.wc
  if v < min t.views (viewCount s) ∧ t.gx ≤ x ∧ x < t.gx + t.rw ∧ t.gy ≤ line ∧ line < t.gy + t.rh then
    let key := v * 65536 + (line - t.gy)
    { s with
      tl.basin := tabSet 0 s.tl.basin (recvBank s * 131072 + v * 32768 + (line - t.gy) * t.rw + (x - t.gx)) px
      tl.rx.fill := tabUpd 0 s.tl.rx.fill key (· + 1) }
  else s

/-- The 16 pixels of a complete triplet of three 256-bit cells (R237). -/
def tripletPixels (l : List Nat) : List Nat :=
  let w := l.getD 0 0 + l.getD 1 0 * 2 ^ 256 + l.getD 2 0 * 2 ^ 512
  (List.range 16).map fun p => bits w (48 * p) 48

/-- DATA_CELL (R237–R240; 02 R56): the next data cell of the raster, as its 256 payload bits. One after the last abandons
the frame. STALE_RASTER counts a raster that a flip time has made stale once, at its first cell dropped (DESIGN CHOICE,
log 52). -/
def dataCell (port payload : Nat) (s : State) : State :=
  let t := s.link.tile
  if s.sys.role ≠ .tile ∨ port ≠ t.activeUp ∨ portLocked s port = false then s
  else if t.rxDone then bump { s with link.tile.rxDone := false, tl.rx.active := false } 2 port 6
  else if t.rxOn = false then s
  else
    let q := tripletsOf t.wc t.views
    let n := t.rxCells
    let more := decide (n + 1 < frameCells s)
    let s1 := { s with link.tile.rxCells := n + 1, link.tile.rxOn := more, link.tile.rxDone := !more }
    if s1.tl.rx.active = false then (if t.rxStale then bump { s1 with link.tile.rxStale := false } 4 0 6 else s1)
    else
      let l := s1.tl.rx.triplet ++ [payload % 2 ^ 256]
      if l.length < 3 then { s1 with tl.rx.triplet := l } else
      let line := n / (3 * q)
      let first := n % (3 * q) / 3 * 16
      let s2 := { s1 with tl.rx.triplet := [] }
      let ps := tripletPixels l
      (List.range 16).foldl (fun u p =>
        if first + p < t.wc * t.views then takePixel line u (first + p) (ps.getD p 0) else u) s2

def execDataCell (port payload : Nat) (s : State) : Host.Outcome State Fault Refusal := live s (dataCell port payload)

/-- TILE_CRC_CELL (R243–R245; 02 R54): the CRC of this TILE's position for a frame; the first is kept. -/
def tileCrcCell (port num : Nat) (crcs : List (Nat × Nat)) (s : State) : State :=
  if s.sys.role ≠ .tile ∨ port ≠ s.link.tile.activeUp ∨ timelineOn s = false then s else
  match crcs.find? fun p => p.1 == s.link.tile.position with
  | none => s
  | some p =>
    if s.tl.rx.frame ≠ num % 65536 ∨ s.tl.rx.crc.isSome then s else
    let s1 := capCell s port (loc256 s) (syncCell 3 num (b8 crcs.length :: crcs.flatMap fun x => b8 x.1 :: leBytes 4 x.2))
    { s1 with tl.rx.crc := some (num % 65536, p.2 % 2 ^ 32) }

def execTileCrcCell (port num : Nat) (crcs : List (Nat × Nat)) (s : State) : Host.Outcome State Fault Refusal :=
  live s (tileCrcCell port num crcs)

/-- DECISION_CELL (R245): the first decision for a frame is kept, 1 ADVANCE or 2 REPEAT. A different one is counted, once:
its own repeats are repeats (3 and 4 note that). -/
def decisionCell (port num : Nat) (rep : Bool) (s : State) : State :=
  if s.sys.role ≠ .tile ∨ port ≠ s.link.tile.activeUp ∨ timelineOn s = false then s else
  let n := num % 65536
  let v := if rep then 2 else 1
  match tabGet 0 s.tl.decisions n with
  | 0 =>
    let s1 := capCell s port (loc256 s) (syncCell 4 num [b8 (b2n rep)])
    -- Decisions of frames 32 768 or more behind are forgotten, so that a number can be decided again.
    let keep := s1.tl.decisions.filter fun p => decide ((p.1 + 65536 - n) % 65536 ≥ 32768)
    { s1 with tl.decisions := tabSet 0 keep n v }
  | d => if d = v ∨ 2 < d then s else bump { s with tl.decisions := tabSet 0 s.tl.decisions n (d + 2) } 2 port 7

def execDecisionCell (port num : Nat) (rep : Bool) (s : State) : Host.Outcome State Fault Refusal :=
  live s (decisionCell port num rep)

/-! ### Enumeration of a TILE (R249, R254–R259) -/

/-- The TILE's device ID for a position taken from a TOKEN (R256). -/
def tokenId (pos sender cascade : Nat) : Nat := sender % 8 * 2048 + cascade % 8 * 256 + pos % 256

/-- A REPORT of this TILE upstream (R249, R257). -/
def sendReport (s : State) (pos flags epoch : Nat) : State :=
  let p := if s.link.tile.activeUp = 1 then 1 else 0
  if fenced s 2 p then s else
  sendCell s p (reportCell pos s.sys.deviceId Config.uniqueId.toNat (runHdr s).major (runHdr s).minor flags s.sys.tileId epoch)

/-- TOKEN with the next position on port B (R257): 0 after position 255. -/
def sendToken (s : State) : State :=
  let t := s.link.tile
  let s1 := { s with link.tile.tokenSentB := true }
  if fenced s 2 1 then s1 else
  sendCell s1 1 (tokenCell (if t.position = 255 then 0 else t.position + 1) t.senderIx t.cascade t.tokenFull t.epoch)

/-- PORT_B_LOCKED (R257): the TILE sends the next TOKEN. -/
def portBLocked (s : State) : State :=
  if s.sys.role ≠ .tile ∨ s.link.tile.placed = false ∨ s.link.tile.portBOn = false ∨ portLocked s 1 = false ∨ s.link.tile.tokenSentB
  then s else sendToken s

def execPortBLocked (s : State) : Host.Outcome State Fault Refusal := live s portBLocked

/-- A TILE takes a TOKEN's position: always with FULL, else only where it holds none; its device ID
stays with a TOKEN that is not FULL (R256, R257; 18_startup_update R665). -/
def takePosition (pos sender cascade : Nat) (full : Bool) (s : State) : State :=
  if s.link.tile.placed && !full then s else
  let id := if s.sys.unassigned || full then tokenId pos sender cascade else s.sys.deviceId
  { s with
    sys.deviceId := id, sys.unassigned := false
    link.tile.placed := true, link.tile.position := id % 256, link.tile.senderIx := id / 2048
    link.tile.cascade := id / 256 % 8, evs.upCredits := 8
    link.tile.activeUp := if s.link.tile.activeUp = 2 ∨ full then 0 else s.link.tile.activeUp }

/-- ENUM_TOKEN (R249, R257): a TILE on port A takes a position, reports it and enables port B, whose lane trains. One that
keeps its position passes the TOKEN on without a REPORT, so that the present tail sends it (R260; DEDUCED, log 70). A
SENDER's ring-return port answers with RETURN. -/
def enumToken (port pos sender cascade : Nat) (full : Bool) (epoch : Nat) (s : State) : State :=
  if s.sys.st = .reset ∨ s.sys.st = .boot ∨ portLocked s port = false then s else
  match s.sys.role with
  | .tile =>
    if port ≠ 0 then s
    else if pos = 0 then sendReport s 0 16 epoch
    else
      let s1 := { takePosition pos sender cascade full s with link.tile.epoch := epoch, link.tile.tokenFull := full }
      let s2 := if s.link.tile.placed && !full then s1 else sendReport s1 s1.link.tile.position 0 epoch
      let s3 := { powerLane s2 1 with
        link.tile.portBOn := true, link.tile.tokenSentB := false, link.tile.tailReported := false
        link.tile.portBSince := s.time.loc }
      drainUp 64 (portBLocked s3)
  | .sender =>
    if keyU s 0x0201 port 1 % 4 = 2 ∨ (pairPort s port && !s.pair.active) then
      sendCell s port (reportCell pos s.sys.deviceId Config.uniqueId.toNat (runHdr s).major (runHdr s).minor 2 0 epoch)
    else s
  | _ => s

def execEnumToken (port pos sender cascade : Nat) (full : Bool) (epoch : Nat) (s : State) : Host.Outcome State Fault Refusal :=
  live s (enumToken port pos sender cascade full epoch)

/-- ENUM_HOP_TIMEOUT (R257): port B has not locked; `signal` tells whether it finds any. A TILE has no key
for the timeout, so the SENDER's default and range bound it (DESIGN CHOICE, log 20). -/
def enumHopTimeout (signal : Bool) (s : State) : State :=
  let t := s.link.tile
  if s.sys.role ≠ .tile ∨ t.placed = false ∨ t.portBOn = false ∨ portLocked s 1 ∨ t.tailReported ∨
      s.time.loc < t.portBSince + 20 * msTicks then s else
  sendReport { s with link.tile.tailReported := true } t.position (1 + flag signal 2) t.epoch

def execEnumHopTimeout (signal : Bool) (s : State) : Host.Outcome State Fault Refusal := live s (enumHopTimeout signal)

/-- ENUM_GEOMETRY (R249, R259): the TILE takes its rectangle and acknowledges it. -/
def enumGeometry (port dest x y rw rh wc hc vm1 epoch : Nat) (s : State) : State :=
  if s.sys.role ≠ .tile ∨ 2 ≤ port ∨ s.link.tile.placed = false ∨ dest ≠ s.sys.deviceId ∨ s.sys.st = .reset ∨ s.sys.st = .boot then s else
  let ok := decide (rw * rh ≤ 32768)
  sendReport { s with
    link.tile.geomKnown := true, link.tile.geomOk := ok, link.tile.gx := x, link.tile.gy := y, link.tile.rw := rw, link.tile.rh := rh
    link.tile.wc := wc, link.tile.hc := hc, link.tile.views := vm1 % 4 + 1, link.tile.geomEpoch := epoch }
    s.link.tile.position (flag ok 3) epoch

def execEnumGeometry (port dest x y rw rh wc hc vm1 epoch : Nat) (s : State) : Host.Outcome State Fault Refusal :=
  live s (enumGeometry port dest x y rw rh wc hc vm1 epoch)

end Sys2Proof.Machine
end

