-- ==== Sys2Proof/Machine/LinkSender.lean ====
section
/-! DEFINITION. The Wotor link of a SENDER: enumeration, MGMT messages, rings, peer links and bundles
(07_cascade_link). MGMT reassembly serves every role. -/

namespace Sys2Proof.Machine

/-- The Cascade that a port of the SENDER serves: its own, or the one whose ring it closes. -/
def cascOf (s : State) (p : Nat) : Nat := if portMode s p = 2 then returnOf s p else p

/-! ### Enumeration (R256–R260) -/

/-- The GEOMETRY of a position, from the map and OUTPUT_TIMING (R249, R259). -/
def sendGeometry (s : State) (n pos : Nat) : State :=
  let o := outp s n
  let r := tabGet (0, 0, 0, 0) o.map pos
  match relayPort s n pos with
  | none => s
  | some p => sendCell s p (geometryCell (tileId s n pos) r.1 r.2.1 r.2.2.1 r.2.2.2 o.width o.height o.views (casc s n).epoch)

/-- GEOMETRY to every enumerated TILE of a Cascade (R259). -/
def sendGeometries (s : State) (n : Nat) : State := (tilesOf s n).foldl (fun t p => sendGeometry t n p) s

/-- TILEs found on a Cascade. -/
def tileCount (s : State) (n : Nat) : Nat := (tilesOf s n).length

/-- The first TOKEN: POSITION 1 with FULL, else the position after the present tail, to which the TILEs pass it on (R257,
R260; log 70). A fenced port sends none (R275). -/
def sendFirstToken (s : State) (n : Nat) : State :=
  let c := casc s n
  if portLocked s n && !fenced s 2 n then
    sendCell (setCasc s n { c with tokenSent := true, lastReport := s.time.loc }) n
      (tokenCell (if c.full then 1 else min 255 (tileCount s n + 1)) (wallIndex s n) n c.full c.epoch)
  else s

/-- The enumeration of a Cascade begins with a new EPOCH (R257, R259); a standby enumerates no
paired port (17 R621). -/
def startEnum (full : Bool) (tag : Option Nat) (s : State) (n : Nat) : State :=
  if pairPort s n ∧ s.pair.active = false then s else
  let c := casc s n
  let c1 := { c with running := true, ended := false, full := full, epoch := (c.epoch + 1) % 65536, lastReport := s.time.loc
                     tokenSent := false, entries := if full then [] else c.entries, tag := tag }
  let s1 := powerLane { s with link.ports := tabUpd WPort.cold s.link.ports n (fun w => { w with enabled := true }) } (8 + n)
  sendFirstToken (setCasc s1 n c1) n

/-- What a SENDER's lanes and enumerations follow: SENDER_INDEX, CASCADE_MODE and CASCADE_RATE (R259). -/
def linkKeys (s : State) : List Nat := [senderIndex s] ++ (List.range 8).map (fun p => keyU s 0x0201 p 1) ++ (List.range 8).map fun p => keyU s 0x0202 p 1

/-- On entry to STANDBY after boot every port in cascade mode is enumerated with FULL = 1 (R259). -/
def bootEnum (s : State) : State :=
  if s.link.sealKeys.isEmpty then
    { (List.range 8).foldl (fun t p => if portMode t p = 1 then startEnum true none t p else t) s with link.sealKeys := linkKeys s }
  else s

/-- CMD_DONE of ENUMERATE once every Cascade it named has ended (log 21). -/
def enumTagDone (s : State) (tag : Option Nat) : State :=
  match tag with
  | some t => if (List.range 8).any fun n => (casc s n).tag == some t && (casc s n).running then s else cmdDone s t 0x20 .ok
  | none => s

/-- The enumeration of a Cascade ends: ENUM_DONE, and ENUM_COUNT_MISMATCH (R258). -/
def endEnum (s : State) (n flags : Nat) : State :=
  let c := casc s n
  let found := tileCount s n
  let tail := found
  let ents := c.entries.map fun (p, e) => (p, { e with tail := p == tail && !e.ret })
  let s1 := setCasc s n { c with running := false, ended := true, entries := ents }
  let s2 := raise s1 0x0201 (args [(4, n), (4, found), (4, flags)])
  let want := keyU s 0x0203 n 1
  let s3 := if want ≠ 0 ∧ want ≠ found then raise s2 0x0202 (args [(4, n), (4, want), (4, found)]) else s2
  enumTagDone s3 c.tag

/-- A REPORT's FLAGS. -/
def rTail (f : Nat) : Bool := bit f 0
def rReturn (f : Nat) : Bool := bit f 1

/-- The link of a Cascade holds up to a position: its REPORT came over it. -/
def linkHolds (s : State) (n pos : Nat) : State :=
  { s with link.broken := s.link.broken.filter fun d => !(d / 256 == tileId s n pos / 256 && decide (d % 256 < pos)) }

/-- ENUM_REPORT (R257–R259): a REPORT that arrives on a port of the SENDER. A TILE's first one in the EPOCH brings its
GEOMETRY; one with TAIL says nothing of GEOM_OK. -/
def enumReport (port pos dev uid major minor flags straps epoch : Nat) (s : State) : State :=
  if s.sys.role ≠ .sender ∨ 8 ≤ port ∨ portLocked s port = false then s else
  let n := cascOf s port
  let c := casc s n
  if c.running && epoch == c.epoch then
    let s0 := linkHolds (setCasc s n { c with lastReport := s.time.loc }) n pos
    if bit flags 4 then endEnum s0 n 2
    else
      let e := topo s0 n pos
      if e.present && e.epoch == epoch && e.uniqueId != uid then
        cascadeProto (endEnum s0 n 4) n 3
      else
        let first := !(e.present && e.epoch == epoch)
        let e1 : TopoEntry := { e with
          present := true, ret := rReturn flags, devId := dev, uniqueId := uid, fwMajor := major, fwMinor := minor
          straps := straps, epoch := epoch, tail := rTail flags
          geomOk := if rTail flags && !first then e.geomOk else bit flags 3
          credits := if e.present && e.uniqueId == uid then e.credits else 4 }
        let s1 := setTopo (if first then { s0 with time.pathSent := tabSet [] s0.time.pathSent (tileId s0 n pos) [] } else s0) n pos e1
        let s2 := if s.sys.sealed && !rReturn flags && first then sendGeometry s1 n pos else s1
        if rReturn flags then endEnum s2 n 1
        else if rTail flags then endEnum s2 n (flag (bit flags 2) 3)
        else s2
  else if (topo s n pos).present && (topo s n pos).uniqueId == uid then
    setTopo s n pos { topo s n pos with geomOk := bit flags 3, straps := straps, fwMajor := major, fwMinor := minor }
  else s

def execEnumReport (port pos dev uid major minor flags straps epoch : Nat) (s : State) : Host.Outcome State Fault Refusal :=
  live s (enumReport port pos dev uid major minor flags straps epoch)

/-- ENUM_END_TIMEOUT (R258): no REPORT for ENUM_HOP_TIMEOUT plus 1 ms. -/
def enumEndTimeout (n : Nat) (s : State) : State :=
  if s.sys.role ≠ .sender ∨ (casc s n).running = false ∨
      s.time.loc < (casc s n).lastReport + (keyU s 0x0204 0 2 + 1) * msTicks then s else endEnum s n 0

def execEnumEndTimeout (n : Nat) (s : State) : Host.Outcome State Fault Refusal := live s (enumEndTimeout n)

/-- ENUMERATE (R260). A named port that is not in cascade mode is passed over (log 21). -/
def bodyEnumerate : Body := fun c s =>
  let full := bit (pw c 0) 8
  let ports := (List.range 8).filter fun n => bit (pw c 0) n && portMode s n == 1 && !(pairPort s n && !s.pair.active)
  if full && s.sys.st != .standby then (s, rBad .stateReject 0)
  else if ports.any fun n => (casc s n).running then (s, rBad .busy 0)
  else if ports.isEmpty then (s, rBad .badParam 0)
  else (ports.foldl (startEnum full (some c.tag)) s, rAccepted)

def opEnumerate : OpSpec := opS 0x20 stRdRnHo false (some 1)
def execEnumerate (c : Cmd) (s : State) : Host.Outcome State Fault Refusal := live s (runCmd opEnumerate noBuild bodyEnumerate c)

/-- The four words of a topology entry (R260). -/
def topoWords (e : TopoEntry) : List Word :=
  if e.present = false then [0, 0, 0, 0] else
  [w32 (flag e.geomOk 22 + flag e.dark 21 + flag e.holding 20 + flag e.fedReturn 19 + flag e.ret 18 + flag e.tail 17 + 2 ^ 16 + e.devId % 0x4000),
   w32 e.uniqueId, w32 (e.uniqueId / 2 ^ 32), w32 (e.fwMajor % 256 * 2 ^ 24 + e.fwMinor % 256 * 65536 + e.straps % 65536)]

/-- TOPO_READ (R260). -/
def bodyTopoRead : Body := fun c s =>
  let n := pw c 0 % 8
  let first := bits (pw c 0) 8 8
  let count := bits (pw c 0) 16 8
  if count = 0 ∨ 15 < count then (s, rBad .badParam 0) else
  let k := min count (256 - first)
  (s, rWords (w32 (n + first * 256 + k * 65536 + tileCount s n * 2 ^ 24) ::
    (List.range k).flatMap fun i => topoWords (topo s n (first + i))))

def opTopoRead : OpSpec := opS 0x21 [] false (some 1)
def execTopoRead (c : Cmd) (s : State) : Host.Outcome State Fault Refusal := live s (runCmd opTopoRead noBuild bodyTopoRead c)

/-! ### MGMT (R247, R248, R261–R265) -/

/-- Whether the device takes part in MGMT: a TILE without a position does not (R256). -/
def mgmtReady (s : State) : Bool :=
  match s.sys.role with
  | .tile => s.link.tile.placed
  | .factory => false
  | _ => true

/-- MGMT cells are consumed on this port (R275): not on a fenced port. -/
def mgmtOpen (s : State) (p : Nat) : Bool := portExists s p && portLocked s p && !fenced s 2 p

/-- The fragment's message is discarded: counted once, and passed over up to its LAST fragment (R248). -/
def discardMsg (s : State) (r : Reasm) (last : Bool) : State :=
  reasmFail (if last ∨ 4096 ≤ s.link.reasm.length + s.link.done.length then s
    else { s with link.reasm := s.link.reasm ++ [{ r with next := 0, data := [] }] }) r.port

/-- A fragment taken: on LAST its message is complete. -/
def takeFrag (s : State) (r : Reasm) (last : Bool) : State :=
  if last then { s with link.done := s.link.done ++ [r] } else { s with link.reasm := s.link.reasm ++ [r] }

/-- A first fragment begins its message, where there is room: 4096 messages are held (01 R39; DESIGN CHOICE, log 66). -/
def firstFrag (s : State) (r : Reasm) (last : Bool) : State :=
  if s.link.reasm.length + s.link.done.length < 4096 then takeFrag s r last else discardMsg s r last

/-- MGMT_CELL (R247, R248): a fragment for this device, reassembled by SRC and TAG. One of another KIND is out of sequence. -/
def mgmtCellIn (port kind frag : Nat) (last bc : Bool) (dest src tag : Nat) (data : List Byte) (s : State) : State :=
  if s.sys.st = .reset ∨ s.sys.st = .boot then bump s 0x10 0 1
  else if mgmtReady s = false then bump s 0x10 0 1
  else if mgmtOpen s port = false ∨ (bc = false ∧ dest ≠ s.sys.deviceId) ∨ (bc ∧ s.sys.role ≠ .tile) then s
  else
    let s1 := capCell s port (loc256 s) (mgmtCell kind frag last bc dest src tag data)
    let mine := fun (r : Reasm) => r.src == src && r.tag == tag
    let s2 := { s1 with link.reasm := s1.link.reasm.filter fun r => !mine r }
    let piece := (data ++ List.replicate 22 (b8 0)).take 22
    let new : Reasm := { port := port, src := src, tag := tag, kind := kind, next := 1, data := piece }
    match s1.link.reasm.find? mine with
    | none => if frag = 0 then firstFrag s2 new last else discardMsg s2 new last
    | some r =>
      if r.next = 0 then (if frag = 0 then firstFrag s2 new last else if last then s2 else s1)
      else if frag = r.next ∧ frag < 12 ∧ kind = r.kind then takeFrag s2 { r with next := frag + 1, data := r.data ++ piece } last
      else if frag = 0 then firstFrag (reasmFail s2 port) new last
      else discardMsg s2 new last

def execMgmtCell (port kind frag : Nat) (last bc : Bool) (dest src tag : Nat) (data : List Byte) (s : State) :
    Host.Outcome State Fault Refusal := live s (mgmtCellIn port kind frag last bc dest src tag data)

/-- The credit of a TILE's command returns (R262, R263). -/
def restoreCredit (s : State) (dev : Nat) : State :=
  match tileOf s dev with
  | some (n, pos) =>
    let e := topo s n pos
    if e.present then setTopo s n pos { e with credits := min 4 (e.credits + 1) } else s
  | none => s

/-- A response of the SENDER's own making to a relayed or broadcast command. -/
def relayAnswer (s : State) (path origin tag : Nat) (notify ends : Bool) (words : List Word) : State :=
  { s with cmds.responses := s.cmds.responses ++
      [{ path := path, origin := origin, notify := notify, tag := tag, ends := ends, hw := false, words := words }] }

/-- The response of a broadcast (R264). -/
def bcastWords (s : State) (b : Bcast) : List Word :=
  let all := (b.answers ++ b.waiting.map fun d => (d, statusCode .timeout))
  let bad := (all.filter fun p => p.2 != 0).foldl (fun m p => match m with
    | none => some p
    | some q => if p.1 < q.1 then some p else some q) (none : Option (Nat × Nat))
  let oks := (all.filter fun p => p.2 == 0).length
  let st := (bad.getD (0, 0)).2
  let dev := (bad.getD (0, 0)).1
  let head := respWords s b.tag ⟨.ok, 0, [w32 (dev % 0x4000 * 65536 + oks % 65536)]⟩ false
  match head with
  | w :: r => w32 (w.toNat + st * 2 ^ 24) :: r
  | [] => []

/-- The broadcast is answered once every TILE has answered or MGMT_TIMEOUT has expired (R264). -/
def endBcast (s : State) (b : Bcast) : State :=
  relayAnswer { s with link.bcast := none } b.path b.origin b.tag b.notify true (bcastWords s b)

/-- The response of a relayed command, with RELAYED set; one that comes too late is counted (R263). -/
def relayedResponse (s : State) (r : Reasm) (ws : List Word) (w0 st : Nat) : State :=
  match s.link.relays.find? fun x => x.tag == r.tag && x.target == r.src with
  | none => if r.tag = 0xFFF ∧ s.link.ownAsk.contains r.src then { s with link.ownAsk := s.link.ownAsk.erase r.src }
      else bump s 2 r.port 4
  | some x =>
    let s1 := restoreCredit { s with link.relays := s.link.relays.erase x } x.target
    let words := w32 (putBit w0 9 true) :: (ws.drop 1).take (w0 % 256 + 1)
    relayAnswer s1 x.path x.origin x.tag x.notify (st != statusCode .accepted) words

/-- A response message: of the outstanding broadcast, of a relayed command, or late (R261–R264). -/
def mgmtResponse (s : State) (r : Reasm) : State :=
  let ws := wordsOf r.data
  let w0 := (ws.getD 0 0).toNat
  let st := w0 / 2 ^ 24
  match s.link.bcast with
  | some b =>
    if b.tag = r.tag ∧ b.waiting.contains r.src then
      let b1 := { b with waiting := b.waiting.erase r.src, answers := b.answers ++ [(r.src, st)] }
      if b1.waiting.isEmpty then endBcast s b1 else { s with link.bcast := some b1 }
    else relayedResponse s r ws w0 st
  | none => relayedResponse s r ws w0 st

/-- A TILE's link on port B was up and is lost, or holds: HOP_DELAY's second entry tells (R261; log 67). -/
def noteBreak (s : State) (dev : Nat) (old new : List Int) : State :=
  if new.getD 1 0 ≠ 0xFFFFFF then { s with link.broken := s.link.broken.filter (· != dev) }
  else if old.isEmpty ∨ old.getD 1 0 = 0xFFFFFF ∨ s.link.broken.contains dev then s
  else { s with link.broken := s.link.broken ++ [dev] }

/-- A relayed event is complete: HOP_DELAY feeds the path table (09_time R335), CMD_DONE ends the tag's
flight (13_mailbox R495), and the event is delivered as the SENDER's own (R265; 13 R508). -/
def eventDone (s : State) (dev : Nat) (r : EvRec) : State :=
  let code := ((r.getD 0 []).getD 0 0).toNat % 65536
  let bytes := bytesOf ((r.getD 0 []).drop 3) ++ (r.drop 1).flatMap fun x => bytesOf (x.drop 1)
  let hop : List Int := [(leAt bytes 0 3 : Int), (leAt bytes 3 3 : Int), sgn 8 (leAt bytes 6 1), sgn 8 (leAt bytes 7 1)]
  let s1 := if code = 0x0306 then noteBreak { s with time.hops := tabSet [] s.time.hops dev hop } dev (tabGet [] s.time.hops dev) hop
    else if code = 0x0001 then dropTag s (leAt bytes 0 2)
    else s
  deliver s1 r

/-- Events a SENDER has queued return their credits to the TILE (R265). -/
def returnCredit (s : State) (port dev : Nat) : State :=
  sendCells s port (mgmtCells 3 false dev s.sys.deviceId 0 12 0 [b8 1])

/-- One event record of another device (R247, R265). -/
def mgmtEvent (s : State) (r : Reasm) : State :=
  let rec_ := (wordsOf r.data).take 4
  let got := tabGet [] s.link.evParts r.src ++ [rec_]
  if bit (rec_.getD 0 0).toNat 31 then { s with link.evParts := tabSet [] s.link.evParts r.src got }
  else returnCredit (eventDone { s with link.evParts := tabSet [] s.link.evParts r.src [] } r.src got) r.port r.src

/-- MGMT_MESSAGE (R261–R265): the oldest complete message is consumed. A command's own effect is that of its
row, with path 11. -/
def mgmtMessage (s : State) : State :=
  match s.link.done with
  | [] => s
  | r :: rest =>
    let s1 := { s with link.done := rest }
    match r.kind, s.sys.role with
    | 1, .sender => mgmtResponse s1 r
    | 2, .sender => mgmtEvent s1 r
    | 3, .tile => drainUp 64 { s1 with evs.upCredits := s1.evs.upCredits + (r.data.getD 0 0).toNat }
    | _, _ => s1

def execMgmtMessage (s : State) : Host.Outcome State Fault Refusal := live s mgmtMessage

/-- A relayed command times out (R263). -/
def relayTimeout (s : State) (x : Relay) : State :=
  let s1 := restoreCredit { s with link.relays := s.link.relays.erase x } x.target
  relayAnswer s1 x.path x.origin x.tag x.notify true (respWords s1 x.tag (rBad .timeout x.target) false)

/-- MGMT_TIMEOUT (R263, R264). -/
def mgmtTimeoutDue (s : State) : State :=
  let s1 := (s.link.relays.filter fun x => decide (x.deadline ≤ s.time.loc)).foldl relayTimeout s
  match s1.link.bcast with
  | some b => if b.deadline ≤ s.time.loc then endBcast s1 b else s1
  | none => s1

def execMgmtTimeout (s : State) : Host.Outcome State Fault Refusal := live s mgmtTimeoutDue

/-! ### Replies and rings (R225, R246, R269, R270) -/

/-- Every TILE of a Cascade reports port A as its active upstream port. -/
def allOnA (s : State) (n : Nat) : Bool := (tilesOf s n).all fun p => !(topo s n p).fedReturn

/-- The return feeds of a Cascade note when every TILE is fed by port A again (R270). -/
def noteFed (s : State) (n : Nat) : State :=
  let ok := allOnA s n
  (List.range 8).foldl (fun t p =>
    let w := wport t p
    if portMode t p = 2 ∧ returnOf t p = n ∧ w.returnFeed then
      setWport t p { w with allFedAt := if ok then (if w.allFedAt.isSome then w.allFedAt else some t.time.loc) else none }
    else t) s

/-- The outputs of the group (06_scanout R224), those of them that run, and their largest D_tail, 1/256 tick. -/
def groupAll (s : State) : List Nat := (List.range 8).filter (bit (keyU s 0x0911 0 1))
def groupOuts (s : State) : List Nat := (groupAll s).filter fun o => (outp s o).enable
def groupTail (s : State) : Int := ((groupOuts s).map (dTail s)).foldl max 0

/-- g_n − f_n in 1/256 tick (06 R225). -/
def groupLag (s : State) : Int := 2 * groupTail s + 256 * ((keyU s 0x0913 0 4 : Int) - keyU s 0x0912 0 4)

/-- The instant g_n of a flip time has passed (06 R225). -/
def pastDecision (s : State) (f : Int) : Bool := decide (f * 256 + groupLag s < nowSys s * 256)

/-- A LATE report (06_scanout R225): counted, and kept for the group's decision when it arrives by g_n. -/
def lateReport (s : State) (o frame dev : Nat) : State :=
  let s1 := bump s 9 o 4
  if bit (keyU s 0x0911 0 1) o = false then s1
  else match s.send.group.due.find? fun p => p.1 == frame with
  | none => if s.send.group.decided.any fun p => p.1 == frame then bump s1 9 o 5 else s1
  | some (_, f) =>
    if pastDecision s f then bump s1 9 o 5
    else if (tabGet none s.send.group.late frame).isSome then s1
    else { s1 with send.group.late := tabSet none s1.send.group.late frame (some dev) }

/-- REPLY_CELL (R243, R246; 06_scanout R225). -/
def replyCell (port frame dev flags lates : Nat) (s : State) : State :=
  if s.sys.role ≠ .sender ∨ 8 ≤ port ∨ portLocked s port = false then s else
  let s0 := capCell s port (loc256 s) (syncCell 8 frame (leBytes 2 dev ++ [b8 flags, b8 0] ++ leBytes 4 lates))
  let n := cascOf s port
  match tileOf s dev with
  | none => s0
  | some (_, pos) =>
    let e := topo s0 n pos
    let s1 := if e.present then setTopo s0 n pos { e with holding := bit flags 3, dark := bit flags 4, fedReturn := portMode s port == 2 } else s0
    let s2 := noteFed s1 n
    if bit flags 0 then lateReport s2 n (frame % 65536) dev else s2

def execReplyCell (port frame dev flags lates : Nat) (s : State) : Host.Outcome State Fault Refusal :=
  live s (replyCell port frame dev flags lates)

/-- A port that closes a ring: in ring-return mode, or a standby's paired port (R268; 17 R622); and the output it serves. -/
def returnPort (s : State) (p : Nat) : Bool := portMode s p == 2 || (pairPort s p && !s.pair.active)
def ringOf (s : State) (p : Nat) : Nat := if portMode s p = 2 then returnOf s p else p

/-- A HEART with UPSTREAM_LOST at a return port (R269): it takes over while its output runs and RING_TAKEOVER is 1. The
raster follows at the next latch point. A standby's port only notes it (17 R625). -/
def ringTakeover (port src : Nat) (s : State) : State :=
  let w := wport s port
  let n := returnOf s port
  let s1 := setWport s port { w with lostSeen := true }
  if portMode s port = 2 ∧ keyU s 0x0206 0 1 = 1 ∧ (outp s n).started ∧ portMode s n = 1 ∧ w.returnFeed = false ∧ w.takeoverPending = false then
    raise (bump (setWport s1 port { wport s1 port with takeoverPending := true, takeoverFrom := src % 256, allFedAt := none }) 2 port 8)
      0x0207 (args [(4, n), (4, src)])
  else s1

/-- RING_OPEN (R270): a return port loses lock while no UPSTREAM_LOST has arrived. -/
def ringOpen (port : Nat) (s : State) : State :=
  let w := wport s port
  if s.sys.role ≠ .sender ∨ returnPort s port = false ∨ portLocked s port ∨ w.lostSeen ∨ w.ringUp = false then s else
  raise (setWport s port { w with ringUp := false }) 0x0208 (args [(4, ringOf s port)])

def execRingOpen (port : Nat) (s : State) : Host.Outcome State Fault Refusal := live s (ringOpen port)

/-- RING_RESTORED (R270): 2 s after every TILE is fed by port A again. -/
def ringRestored (port : Nat) (s : State) : State :=
  let w := wport s port
  match w.allFedAt with
  | none => s
  | some t =>
    if w.returnFeed = false ∨ s.time.loc < t + 2 * secTicks then s else
    raise (setWport s port { w with returnFeed := false, takeoverPending := false, lostSeen := false, allFedAt := none }) 0x0209
      (args [(4, returnOf s port)])

def execRingRestored (port : Nat) (s : State) : Host.Outcome State Fault Refusal := live s (ringRestored port)

/-! ### Bundles (R235, R272, R273) -/

/-- 4 codewords, the skew that a bundle's lanes may have (R273); and whether two instants lie within it. -/
def withinSkew (s : State) (first a b : Nat) : Bool := decide ((max a b - min a b) * 100 ≤ 4 * codeword100 (wport s first).rate)

/-- The lanes of a bundle hold MARK cells of equal SEQ within the skew (R273); a lane whose next MARK has come is ahead of
the others by no more than that. -/
def bundleAligned (s : State) (first : Nat) : Bool :=
  let lanes := (bundlePorts s first).map fun p => (wport s p).marks
  (lanes.headD []).any fun m =>
    let got := lanes.map fun l => l.find? fun x => x.1 == m.1
    got.all Option.isSome && got.all (fun a => got.all fun b => withinSkew s first (a.getD m).2 (b.getD m).2) &&
      lanes.all fun l => match l.head? with
        | some x => x.1 == m.1 || withinSkew s first x.2 s.time.loc
        | none => false

/-- The bundle's lanes are all locked and, with more than one lane, aligned (R273). -/
def bundleOk (s : State) (first : Nat) : Bool :=
  ((bundlePorts s first).all (portLocked s)) && (bundleWidth s first == 1 || bundleAligned s first)

/-- MARK_CELL (R235, R273): a MARK of a bundle's lane, at its arrival. -/
def markCellIn (port seq width : Nat) (s : State) : State :=
  if s.sys.role ≠ .sender ∨ portMode s port ≠ 3 ∨ portLocked s port = false ∨ width ≠ bundleWidth s port then s else
  let w := wport s port
  setWport s port { w with marks := ((seq % 2 ^ 32, s.time.loc) :: w.marks).take 2 }

def execMarkCell (port seq width : Nat) (s : State) : Host.Outcome State Fault Refusal := live s (markCellIn port seq width)

/-- The lane of a bundle that is not locked; 0 where the skew is at fault. -/
def badLane (s : State) (first : Nat) : Nat :=
  ((List.range (bundleWidth s first)).find? fun i => !portLocked s (first + i)).getD 0

/-- BUNDLE_CHANGE (R273): a peer bundle goes down, or forms again. -/
def bundleChange (first : Nat) (s : State) : State :=
  let w := wport s first
  if s.sys.role ≠ .sender ∨ portMode s first ≠ 3 ∨ bundleFirst s first ≠ first then s
  else if w.bundleUp ∧ bundleOk s first = false then
    raise (setWport s first { w with bundleUp := false, bundleFell := true }) 0x020A (args [(4, first), (4, badLane s first)])
  else if w.bundleUp = false ∧ bundleOk s first then
    let s1 := setWport s first { w with bundleUp := true }
    if w.bundleFell then raise s1 0x020B (args [(4, first), (4, bundleWidth s first)]) else s1
  else s

def execBundleChange (first : Nat) (s : State) : Host.Outcome State Fault Refusal := live s (bundleChange first)

end Sys2Proof.Machine
end

