-- ==== Sys2Proof/Machine/Images.lean ====
section
/-! DEFINITION. Loading, verifying, confirming and forwarding images (18_startup_update R655–R672, R677, R679),
the PCIe link (R662) and DRAM training (R661). -/

namespace Sys2Proof.Machine

/-! ### Slots and the boot control record (R655–R658) -/

/-- The running slot and the inactive one (R666). -/
def runSlot (s : State) : Nat := s.img.running.getD s.img.active
def idleSlot (s : State) : Nat := 1 - runSlot s

/-- The running image is TRIAL. -/
def runningTrial (s : State) : Bool := s.img.running.isSome && (imgSlot s (runSlot s)).st == 3

/-- Flash address of a slot, and the flash length of a slot (R655). -/
def slotBase (k : Nat) : Nat := 0x100000 + k * 0x1000000
def slotBytes : Nat := 0x1000000

/-- The transfer that a slot holds; a part is delivered with one the spec does not give (log 19). -/
def slotData (x : ImgSlot) : List Byte :=
  if x.data.isEmpty then (List.range Config.factoryBytes).map Config.factoryByte else x.data

/-- The 20 bytes of the boot control record (R656). -/
def bootRecord (m : Image) : List Byte :=
  let front := leBytes 4 0x4C435647 ++ leBytes 4 m.seq ++
    leBytes 4 (m.trialBoots % 256 * 65536 + m.b.st % 16 * 4096 + m.a.st % 16 * 256 + m.active % 2) ++ leBytes 4 m.floor
  front ++ leBytes 4 (crc32 front)

/-- A changed record goes into the other copy, with SEQ one above (R656). -/
def writeBoot (s : State) : State :=
  let m := s.img
  let seq := (m.seq + 1) % 2 ^ 32
  let s1 := { s with
    img.seq := seq, img.copies := tabSet none m.copies (seq % 2) (some ⟨seq, m.active, m.trialBoots, m.a.st, m.b.st, m.floor⟩) }
  emit s1 (.flash (s1.img.seq % 2 * 0x10000) (bootRecord s1.img))

/-- Set a slot's state. -/
def setSlotSt (s : State) (k st : Nat) : State := setImgSlot s k { imgSlot s k with st := st }

/-- The header a transfer carries (R657). -/
def parseHdr (d : List Byte) : ImgHdr :=
  { abi := leAt d 0x16 2, roles := leAt d 0x10 1 % 8, major := leAt d 0x0B 1, minor := leAt d 0x0A 1, patch := leAt d 0x08 2
    build := leAt d 0x0C 4, secVer := leAt d 0x18 4, keyIx := leAt d 0x14 1 % 4 }

/-- The role's bit of ROLES. -/
def roleBit (r : Role) : Nat :=
  match r with
  | .tile => 0
  | .sender => 1
  | _ => 2

/-- The result of R658 for a header and transfer: the first check that fails. Whether the signature and the body's
hash hold is the environment's, since it alone has the keys and the opaque body. -/
def verifyCode (s : State) (d : List Byte) (h : ImgHdr) (sigOk hashOk : Bool) : Nat :=
  if leAt d 0 4 ≠ 0x4D495647 ∨ leAt d 4 2 ≠ 1 ∨ leAt d 6 2 ≠ 512 then 1
  else if Config.keyUsable (BitVec.ofNat 2 h.keyIx) = false then 2
  else if sigOk = false then 3
  else if leAt d 0x12 2 ≠ 0x4201 ∨ bit h.roles (roleBit s.sys.role) = false then 4
  else if h.secVer < s.img.floor then 5
  else if hashOk = false then 6 else 0

/-! ### Sessions (R666–R669) -/

/-- A session or a forward is in progress. -/
def imgBusy (s : State) : Bool := s.img.session.isSome || s.img.forward.isSome

/-- An open session is closed and discarded; an IMAGE_END under way ends with BUSY (log 23). -/
def dropSession (s : State) : State :=
  let s1 := match s.img.verifying with
    | some tag => cmdDone s tag 0xB2 .busy
    | none => s
  { s1 with img.session := none, img.verifying := none, img.eraseOnly := false }

/-- IMAGE_BEGIN (R667). A slot that is EMPTY is erased already. -/
def bodyImageBegin : Body := fun c s =>
  let total := pw c 0
  let w := pw c 1
  if total % 4 ≠ 0 ∨ total < 516 ∨ 16773632 < total then (s, rBad .badParam 0)
  else if runningTrial s ∨ s.img.forward.isSome then (s, rBad .busy 0)
  else if (s.img.session.isSome ∨ s.img.eraseOnly) ∧ bit w 16 = false then (s, rBad .busy 0)
  else
    let s1 := dropSession s
    let k := idleSlot s1
    let done := if (imgSlot s1 k).st = 0 then slotBytes else 0
    let s2 := writeBoot (setImgSlot s1 k { st := 1, hdr := ImgHdr.zero, data := [] })
    if bit w 17 then ({ s2 with img.erased := 0, img.eraseOnly := true }, rOk)
    else ({ s2 with img.erased := done, img.session := some { id := w % 65536, total := total, got := [] } }, rOk)

def opImageBegin : OpSpec := opTSB 0xB0 [] false (some 2)
def execImageBegin (c : Cmd) (s : State) : Host.Outcome State Fault Refusal := live s (runCmd opImageBegin noBuild bodyImageBegin c)

/-- FLASH_ERASE_DONE (R667): a number of bytes of the inactive slot is erased; an ERASE_ONLY slot becomes EMPTY. -/
def flashErased (n : Nat) (s : State) : State :=
  if s.img.session.isNone ∧ s.img.eraseOnly = false then s else
  let s1 := { s with img.erased := min slotBytes (s.img.erased + n) }
  if s1.img.eraseOnly ∧ s1.img.erased = slotBytes then
    { writeBoot (setSlotSt s1 (idleSlot s1) 0) with img.eraseOnly := false }
  else s1

def execFlashEraseDone (n : Nat) (s : State) : Host.Outcome State Fault Refusal := live s (flashErased n)

/-- Slot offset of a transfer offset: the body lies at 0x1000 (R657). -/
def slotOff (off : Nat) : Nat := if off < 512 then off else off - 512 + 0x1000

/-- Write transfer bytes into the flash: the header's part and the body's (R657). -/
def flashChunk (s : State) (k off : Nat) (d : List Byte) : State :=
  let n := 512 - off
  let s1 := if off < 512 then emit s (.flash (slotBase k + off) (d.take n)) else s
  if n < d.length then emit s1 (.flash (slotBase k + slotOff (max off 512)) (d.drop n)) else s1

/-- IMAGE_CHUNK (R668). -/
def bodyImageChunk : Body := fun c s =>
  let n := c.len - 2
  let off := pw c 0
  if c.len < 3 then (s, rBad .badLength 0xFFFF) else
  match s.img.session with
  | none => (s, rBad .badParam 1)
  | some x =>
    let got := x.got.length
    if x.id ≠ pw c 1 % 65536 then (s, rBad .badParam 1)
    else if off = got ∧ off + 4 * n ≤ x.total then
      if s.img.erased < slotOff (off + 4 * n - 1) + 1 then (s, rBad .busy 0)
      else
        let d := (bytesOf (c.payload.drop 2)).take (4 * n)
        let s1 := flashChunk (bump s 0x10 0 2) (idleSlot s) off d
        ({ s1 with img.session := some { x with got := x.got ++ d } }, rOk)
    else if off + 4 * n ≤ got then (bump s 0x10 0 3, rOk)
    else (s, rBad .badParam 0)

def opImageChunk : OpSpec := opTSB 0xB1 [] false none
def execImageChunk (c : Cmd) (s : State) : Host.Outcome State Fault Refusal := live s (runCmd opImageChunk noBuild bodyImageChunk c)

/-- IMAGE_END (R669). -/
def bodyImageEnd : Body := fun c s =>
  match s.img.session with
  | none => (s, rBad .badParam 0)
  | some x =>
    if x.id ≠ pw c 0 % 65536 ∨ x.got.length < x.total then (s, rBad .badParam 0)
    else if s.img.verifying.isSome then (s, rBad .busy 0)
    else ({ s with img.verifying := some c.tag }, rAccepted)

def opImageEnd : OpSpec := opTSB 0xB2 [] false (some 1)
def execImageEnd (c : Cmd) (s : State) : Host.Outcome State Fault Refusal := live s (runCmd opImageEnd noBuild bodyImageEnd c)

/-- CMD_DONE's status for a result of R658 (R669). -/
def verifyStatus (r : Nat) : Status :=
  if r = 0 then .ok else if r = 1 ∨ r = 4 then .badParam else .authFail

/-- IMAGE_VERIFIED (R669): the slot becomes VALID or REJECTED, and the session closes. -/
def imageVerified (sigOk hashOk : Bool) (s : State) : State :=
  match s.img.verifying, s.img.session with
  | some tag, some x =>
    let k := idleSlot s
    let h := parseHdr x.got
    let r := verifyCode s x.got h sigOk hashOk
    let s1 := writeBoot (setImgSlot { s with img.session := none, img.verifying := none } k
      { st := if r = 0 then 2 else 5, hdr := h, data := x.got })
    cmdDone (raise s1 0x1001 (args [(1, k), (1, r), (4, h.build)])) tag 0xB2 (verifyStatus r)
  | _, _ => s

def execImageVerified (sigOk hashOk : Bool) (s : State) : Host.Outcome State Fault Refusal := live s (imageVerified sigOk hashOk)

/-! ### Confirmation and status (R677, R679) -/

/-- The running TRIAL image is confirmed (R677). -/
def confirmImage (s : State) : State :=
  let k := runSlot s
  let s1 := setSlotSt s k 4
  let s2 := if (imgSlot s1 (1 - k)).st = 4 then setSlotSt s1 (1 - k) 2 else s1
  let v := (runHdr s2).secVer
  let s3 := writeBoot { s2 with img.floor := max s2.img.floor v, img.trialAt := none, img.fallback := false, img.record := none }
  raise (emit s3 (.record 2 1 [])) 0x1004 (args [(1, k), (4, v)])

/-- IMAGE_CONFIRM (R677). -/
def bodyImageConfirm : Body := fun _ s =>
  if runningTrial s = false then (s, rOk)
  else if s.img.selftest = 0 then (s, rBad .busy 0)
  else if s.img.selftest = 1 then (confirmImage s, rOk)
  else (s, rBad .faultActive 39)

def opImageConfirm : OpSpec := opTSB 0xB4 [] true (some 0)
def execImageConfirm (c : Cmd) (s : State) : Host.Outcome State Fault Refusal := live s (runCmd opImageConfirm noBuild bodyImageConfirm c)

/-- The four words of a slot in IMAGE_STATUS; header fields of EMPTY and WRITING read 0 (R679). -/
def slotWords (x : ImgSlot) : List Word :=
  let h := if x.st < 2 then ImgHdr.zero else x.hdr
  [w32 (h.abi % 65536 * 65536 + h.roles % 8 * 256 + x.st % 8), w32 (h.major % 256 * 2 ^ 24 + h.minor % 256 * 65536 + h.patch % 65536),
   w32 h.build, w32 h.secVer]

/-- ms until the earliest expiry of the trial watchdog, 30 s after the start (R677, R679). -/
def trialLeft (s : State) : Nat :=
  match s.img.trialAt with
  | some t => if runningTrial s then (t + 30 * secTicks - s.time.loc) / msTicks else 0
  | none => 0

/-- IMAGE_STATUS (R679). -/
def bodyImageStatus : Body := fun _ s =>
  let m := s.img
  let x := m.session.getD { id := 0, total := 0, got := [] }
  let depth := match m.forward with
    | some f => f.depth
    | none => 0
  let cause := match m.record with
    | some r => r.cause
    | none => 0
  (s, rWords ([w32 (trialLeft s % 65536 * 65536 + m.selftest % 4 * 256 + flag m.forward.isSome 7 + flag m.session.isSome 6 +
      flag (runningTrial s) 5 + flag m.fallback 4 + runSlot s),
    w32 x.got.length, w32 x.total, w32 (depth % 256 * 65536 + x.id % 65536)] ++ slotWords m.a ++ slotWords m.b ++
    [w32 m.floor, w32 (cause % 256)]))

def opImageStatus : OpSpec := opTSB 0xB6 [] false (some 0)
def execImageStatus (c : Cmd) (s : State) : Host.Outcome State Fault Refusal := live s (runCmd opImageStatus noBuild bodyImageStatus c)

/-! ### Forwarding (R670, R671) -/

/-- The neighbour: the port that faces away from the active upstream port, and the device ID behind it; none
beyond an end of the Cascade (R670). -/
def neighbour (s : State) : Nat × Option Nat :=
  let t := s.link.tile
  if t.placed = false ∨ s.sys.unassigned then (otherPort s, none)
  else if otherPort s = 1 then (1, if t.tailReported ∨ t.position = 255 then none else some (s.sys.deviceId + 1))
  else (0, if t.position ≤ 1 then none else some (s.sys.deviceId - 1))

/-- A command of the forward to the neighbour (R671). -/
def sendForward (s : State) (f : Forward) (op tag : Nat) (payload : List Word) : State :=
  let words := w32 (op * 2 ^ 24 + tag % 4096 * 2 ^ 12 + payload.length % 256) :: w32 (f.dest % 0x4000) :: payload
  sendCells s (neighbour s).1 (mgmtCells 0 false f.dest s.sys.deviceId tag 12 0 (bytesOf words))

/-- Tag of the `i`-th chunk of a forward. -/
def forwardTag (i : Nat) : Nat := 0xFC0 + i % 64

/-- One chunk of at most 60 words at an offset. -/
def sendChunk (s : State) (f : Forward) (tag off : Nat) : State :=
  let ws := wordsOf ((f.data.drop off).take 240)
  sendForward (bump s 0x10 0 4) f 0xB1 tag ([w32 off, w32 f.session] ++ ws)

/-- Fill the window of IMAGE_FORWARD_WINDOW chunks; at the end of the transfer, IMAGE_END. -/
def fillForward : Nat → State → Forward → State
  | 0, s, f => { s with img.forward := some f }
  | n + 1, s, f =>
    if f.next < f.data.length then
      if f.open_.length < keyU s 0x1001 0 1 then
        let tag := forwardTag (f.next / 240)
        fillForward n (sendChunk s f tag f.next) { f with next := f.next + 240, open_ := f.open_ ++ [(f.next, tag)] }
      else { s with img.forward := some f }
    else if f.open_.isEmpty ∧ f.stage = 1 then
      { sendForward s f 0xB2 (forwardTag (f.next / 240)) [w32 f.session] with img.forward := some { f with stage := 2 } }
    else { s with img.forward := some f }

/-- The forward ends: IMAGE_FORWARD's CMD_DONE, and FORWARD_DONE upstream (R670). -/
def endForward (s : State) (f : Forward) (status : Nat) : State :=
  let s1 := raise { s with img.forward := none } 0x1006 (args [(2, f.dest), (1, status), (1, f.depth)])
  raise (dropTag s1 f.tag) 0x0001 (args [(2, f.tag), (1, status), (1, 0xB5)])

/-- IMAGE_FORWARD (R670). The session identifier it uses is its tag (DESIGN CHOICE, log 23). -/
def bodyImageForward : Body := fun c s =>
  let depth := pw c 0 % 256
  let runs := bit (pw c 0) 8
  let st := (imgSlot s (idleSlot s)).st
  let nb := neighbour s
  if depth = 0 ∨ depth = 255 ∨ (runs = false ∧ st ≠ 2 ∧ st ≠ 4) ∨ (runs ∧ runningTrial s) then (s, rBad .badParam 0)
  else if imgBusy s then (s, rBad .busy 0)
  else match nb.2 with
    | none => (s, rBad .unreachable ((if nb.1 = 1 then s.sys.deviceId + 1 else s.sys.deviceId - 1) % 0x4000))
    | some d =>
      if portLocked s nb.1 = false then (s, rBad .unreachable d) else
      let data := slotData (imgSlot s (if runs then runSlot s else idleSlot s))
      let f : Forward := { tag := c.tag, depth := depth, data := data, dest := d, stage := 0, next := 0, open_ := [], session := c.tag }
      ({ sendForward s f 0xB0 0xFC0 [w32 data.length, w32 f.session] with img.forward := some f }, rAccepted)

def opImageForward : OpSpec := opT 0xB5 [] false (some 1)
def execImageForward (c : Cmd) (s : State) : Host.Outcome State Fault Refusal := live s (runCmd opImageForward noBuild bodyImageForward c)

/-- FORWARD_CHUNK_RESPONSE (R671): the neighbour's answer to the command with this tag. A chunk answered BUSY is
sent again, and so are the chunks that it refused because they came before that one. -/
def forwardResponse (tag status : Nat) (s : State) : State :=
  match s.img.forward with
  | none => s
  | some f =>
    match f.stage with
    | 0 => if tag ≠ 0xFC0 then s else if status = 0 then fillForward 64 s { f with stage := 1 } else endForward s f status
    | 1 =>
      match f.open_.find? fun p => p.2 == tag with
      | none => s
      | some p =>
        if status = 0 then fillForward 64 s { f with open_ := f.open_.erase p }
        else if status = 0x22 ∨ (status = 0x12 ∧ f.open_.any fun q => decide (q.1 < p.1)) then sendChunk s f tag p.1
        else endForward s f status
    | _ => if tag = forwardTag (f.next / 240) ∧ status ≠ 0 ∧ status ≠ 1 then endForward s f status else s

def execForwardChunkResponse (tag status : Nat) (s : State) : Host.Outcome State Fault Refusal := live s (forwardResponse tag status)

/-- FORWARD_DONE (R670): the neighbour's IMAGE_END has completed with a status; on OK the forward chains. A status
other than OK also ends a forward whose neighbour answers no more. -/
def forwardDone (status : Nat) (s : State) : State :=
  match s.img.forward with
  | none => s
  | some f =>
    if status = 0 then
      if f.stage ≠ 2 then s
      else if 1 < f.depth then endForward (sendForward s f 0xB5 0xFC0 [w32 (f.depth - 1)]) f 0
      else endForward s f 0
    else endForward s f status

def execForwardDone (status : Nat) (s : State) : Host.Outcome State Fault Refusal := live s (forwardDone status)

/-! ### PCIe and DRAM (R661, R662) -/

/-- PCIE_LINK_UP (R662): after reset release in the roles with a PCIe endpoint (01 R21). -/
def pcieLinkUp (s : State) : State :=
  if s.sys.role = .tile ∨ s.sys.st = .reset then s else { s with sys.pcieUp := true }

def execPcieLinkUp (s : State) : Host.Outcome State Fault Refusal := live s pcieLinkUp

/-- PCIE_HOT_RESET (R662): the endpoint's configuration space and BAR settings only, which are the PCI
configuration header's own and no register of BAR0; the link is down until it trains again. -/
def pcieHotReset (s : State) : State := { s with sys.pcieUp := false }

def execPcieHotReset (s : State) : Host.Outcome State Fault Refusal := live s pcieHotReset

/-- DRAM_TRAINING_DONE (R661): at 7500 MT/s, else once at 6400 MT/s. -/
def dramTrainingDone (ok7500 ok6400 : Bool) (s : State) : State :=
  if s.sys.role = .tile ∨ s.sys.st = .reset ∨ s.sys.st = .boot ∨ s.sys.dramTrained ∨ s.sys.dramFailed then s
  else if ok7500 ∨ ok6400 then
    let rate := if ok7500 then 7500 else 6400
    raise { s with sys.dramTrained := true, sys.dramRate := rate, sys.dramMib := Config.dramMib.toNat } 0x1007
      (args [(2, rate), (1, if ok7500 then 1 else 2)])
  else fire { s with sys.dramFailed := true } 5 0 1

def execDramTrainingDone (ok7500 ok6400 : Bool) (s : State) : Host.Outcome State Fault Refusal := live s (dramTrainingDone ok7500 ok6400)

end Sys2Proof.Machine
end

