-- ==== Sys2Proof/Machine/Lanes.lean ====
section
/-! DEFINITION. Serial lanes: training, equaliser adaptation, alignment, loopbacks, eye scans, faults, and
the source ports (08_lanes). -/

namespace Sys2Proof.Machine

/-! ### Loss of signal and training (R282, R285–R288, R295) -/

/-- LANE_LOSS_OF_SIGNAL (R295): a lane in loss of signal is not locked and does not train. -/
def laneLos (l : Nat) (s : State) : State :=
  let x := lane s l
  if x.st = 0 ∨ x.los then s else
  let s1 := loseLock s l 0
  let y := lane s1 l
  setLane s1 l { y with los := true, st := if y.st = 6 ∨ y.st = 8 then y.st else 1, failSince := none, found := false, verify := false }

def execLaneLossOfSignal (l : Nat) (s : State) : Host.Outcome State Fault Refusal := live s (laneLos l)

/-- LANE_SIGNAL_RETURN (R295, R299): the lane trains. -/
def laneSignal (l : Nat) (s : State) : State :=
  let x := lane s l
  if x.st = 0 ∨ x.los = false then s else
  let s1 := setLane s l { x with los := false }
  if x.st = 1 then startTraining s1 l (bundleLane s l) else s1

def execLaneSignalReturn (l : Nat) (s : State) : Host.Outcome State Fault Refusal := live s (laneSignal l)

/-- This end asks the far end to precode, by PRECODE_POLICY; never in N10 (R284, R288). -/
def asksPrecode (s : State) (l : Nat) (tap1Over : Bool) : Bool :=
  (lane s l).mode != 2 && (match keyU s 0x0114 0 1 with
    | 0 => false
    | 1 => tap1Over
    | _ => true)

/-- LINK_TRAINING_DONE (R285–R288, R293): training ends with the codes found, the far end's requests for precoding
and markers, and whether DFE tap 1 exceeds 0.35 of the main cursor. A receiver below the effective EQ_TARGET with which this
training began is not ready, so training cannot end there. A density freeze stays (R290, R291). -/
def trainingDone (l eye ctle : Nat) (vga : Int) (dfe txffe : List Int) (snr : Int) (tap1Over preAsked markAsked : Bool) (s : State) : State :=
  let x := lane s l
  if x.st ≠ 2 ∨ x.los ∨ eye < x.eqGoal then s else
  let d := (dfe ++ List.replicate 12 0).take 12
  setLane s l { x with
    st := if x.markReq then 4 else 3
    ctle := min 31 ctle, vga := vga, dfe := d.map (satS 8), txffe := (txffe ++ [0, 0, 0, 0]).take 4, snr := snr
    preTx := preAsked && x.mode != 2, preRx := asksPrecode s l tap1Over, markTx := markAsked
    snap := some { ctle := min 31 ctle, vga := vga, dfe := d.map (satS 8), snr := snr }
    snapAt := s.time.loc, driftAt := s.time.loc, holdUntil := 0
    failRun := 0, failSince := none, attempts := 0, found := false, verify := false, hits := [], huntAt := s.time.loc }

def execLinkTrainingDone (l eye ctle : Nat) (vga : Int) (dfe txffe : List Int) (snr : Int) (tap1Over preAsked markAsked : Bool) (s : State) :
    Host.Outcome State Fault Refusal := live s (trainingDone l eye ctle vga dfe txffe snr tap1Over preAsked markAsked)

/-- TRAINING_TIMEOUT (R287): 5 ms without an end; the next attempt begins 1 ms later. -/
def trainingTimeout (l cause : Nat) (s : State) : State :=
  let x := lane s l
  if x.st ≠ 2 ∨ s.time.loc < x.trainAt + 5 * msTicks then s else
  let s1 := bump (setLane s l { x with
    trainAt := s.time.loc + msTicks, dwellAt := s.time.loc + msTicks, eqGoal := eqTarget s l, failRun := x.failRun + 1
    failSince := some (x.failSince.getD x.trainAt) }) 1 l 3
  if x.failRun = 0 then raise s1 0x0105 (args [(4, l), (4, cause)]) else s1

def execTrainingTimeout (l cause : Nat) (s : State) : Host.Outcome State Fault Refusal := live s (trainingTimeout l cause)

/-- RATE_SEARCH_DWELL_EXPIRY (R282): port A of a TILE saw no training frames for 4 ms; W0, W1, N10, and again. -/
def rateSearch (s : State) : State :=
  let x := lane s 0
  if s.sys.role ≠ .tile ∨ x.st ≠ 2 ∨ s.time.loc < x.dwellAt + 4 * msTicks then s else
  setLane s 0 { x with mode := (x.mode + 1) % 3, dwellAt := s.time.loc, trainAt := s.time.loc, eqGoal := eqTarget s 0 }

def execRateSearchDwellExpiry (s : State) : Host.Outcome State Fault Refusal := live s rateSearch

/-! ### Alignment and lock (R233, R296–R299) -/

/-- A lane of the Wotor link. -/
def isWotor (s : State) (l : Nat) : Bool :=
  match laneUse s l with
  | .wotor _ => true
  | _ => false

/-- The search by windows ends without alignment: after a search without retraining the link retrains; else it
changes to marker alignment (R297 step 5, R298, R299). -/
def searchFailed (s : State) (l : Nat) : State :=
  let x := lane s l
  if x.research then startTraining s l (bundleLane s l)
  else
    let s1 := if x.fallbackRaised then s else raise (setLane s l { x with fallbackRaised := true }) 0x0103 (args [(4, l)])
    startTraining s1 l true

/-- Candidates of a window of 128 bits: 64 in PAM4, 128 in NRZ; bits from one to the next (R296). -/
def windowCount (mode : Nat) : Nat := if mode = 2 then 128 else 64
def candidateBits (mode : Nat) : Nat := if mode = 2 then 1 else 2

/-- QUALITY and OFFSET of a test, from the decodable codewords of each candidate: the largest count, and the place in bits of
the lowest candidate that has it (R296). -/
def testResult (x : Lane) (results : List Nat) : Lane :=
  let q := results.foldl max 0
  { x with quality := q, offset := results.findIdx (· == q) * candidateBits x.mode }

/-- The receiver slips by a number of bits (R297, R300). -/
def slip (x : Lane) (n : Nat) : Lane := { x with position := (x.position + n) % 5440 }

/-- ALIGNMENT_ATTEMPT (R296, R297): one test over 16 codewords, of a window or of a single candidate; `at_` is the alignment
position at which it ran, and `results` holds the decodable codewords of each candidate. What was tested at a position that
the receiver has left tells nothing. QUALITY of 14 slips by OFFSET to the candidate, which is then tested alone; what fails slips by
128 bits. -/
def alignmentAttempt (l at_ : Nat) (results : List Nat) (s : State) : State :=
  let x := lane s l
  if x.st ≠ 3 ∨ x.found ∨ isWotor s l = false ∨ x.position ≠ at_ then s else
  let x1 := testResult { x with attempts := x.attempts + 1 } ((results.map (min 16)).take (if x.verify then 1 else windowCount x.mode))
  let good := decide (14 ≤ x1.quality)
  if x.verify && good then setLane s l { x1 with found := true, verify := false, cleanRun := 0, uncorrRun := 0 }
  else
    let s1 := setLane s l { slip x1 (if good then x1.offset else 128) with verify := good }
    if 64 ≤ x.attempts + 1 then searchFailed s1 l else s1

def execAlignmentAttempt (l at_ : Nat) (results : List Nat) (s : State) : Host.Outcome State Fault Refusal :=
  live s (alignmentAttempt l at_ results)

/-- A marker period in bits, and in ticks by lane mode (R298). -/
def markerBits : Nat := 16384 * 5440
def markerTicks (mode : Nat) : Nat := 16384 * codeword100 mode / 100

/-- The bytes that bits spell, each byte from bit 0 up. -/
def bytesOfBits : Nat → List Bool → List Byte
  | 0, _ => []
  | n + 1, l => b8 (bitsNat (l.take 8)) :: bytesOfBits n (l.drop 8)

/-- The tests of a hit (R298): of 315 line bits the first 58, the latest last, are the descrambler's history; the flag is 0;
the payload gives TYPE 0x06, a valid CHECK and WIDTH 1, 2 or 4. -/
def markFound (line : List Bool) : Bool :=
  let c := bytesOfBits 32 (descramble (bitsNat (line.take 58).reverse) (line.drop 59))
  !(line.getD 58 true) && cellType c == 6 && cellOk c && [1, 2, 4].contains (leAt c 6 1)

/-- MARKER_HIT (R298): a pair one period apart confirms alignment, and
the codeword begins 4883 bits before the second hit. -/
def markerHit (l : Nat) (hit : HitObs) (s : State) : State :=
  let x := lane s l
  if x.st ≠ 4 ∨ x.found ∨ markFound hit.line = false then s
  else if markerBits ≤ hit.pos ∧ x.hits.contains (hit.pos - markerBits) then
    setLane s l { x with found := true, hits := [], cleanRun := 0, uncorrRun := 0, position := (hit.pos + 5440 - 4883) % 5440 }
  else setLane s l { x with hits := (x.hits.filter fun h => decide (hit.pos < h + markerBits)) ++ [hit.pos] }

def execMarkerHit (l : Nat) (hit : HitObs) (s : State) : Host.Outcome State Fault Refusal := live s (markerHit l hit)

/-- MARKER_HUNT_TIMEOUT (R298): no pair within 8 periods; the link retrains without MARK_REQ, which a peer
bundle's lane keeps (R298). -/
def markerTimeout (l : Nat) (s : State) : State :=
  let x := lane s l
  if x.st ≠ 4 ∨ x.found ∨ s.time.loc < x.huntAt + 8 * markerTicks x.mode then s else startTraining s l (bundleLane s l)

def execMarkerHuntTimeout (l : Nat) (s : State) : Host.Outcome State Fault Refusal := live s (markerTimeout l)

/-- The lanes of a bundle number their codewords together from the lock of the last of them (07 R272, R273; log 65). -/
def startBundle (s : State) (first : Nat) : State :=
  if (bundlePorts s first).all (portLocked s) then
    (bundlePorts s first).foldl (fun t q => setTx t q { txPort t q with base := s.time.loc, index := 0, marks := 0 }) s
  else s

/-- What a port does as it locks: its codewords begin with index 0, and a SENDER that enumerates sends its first TOKEN (R233,
R234, R257). -/
def portLocks (s : State) (p : Nat) : State :=
  let s0 := setTx (setWport s p { wport s p with
    lockedAt := some s.time.loc, rate := (lane s (portLane s p)).mode, ringUp := true, lostSeen := false, marks := [] }) p
      { TxPort.cold with base := s.time.loc }
  let s1 := if bundleLane s0 (portLane s0 p) then startBundle s0 (bundleFirst s0 p) else s0
  if s.sys.role = .sender ∧ (casc s1 p).running ∧ (casc s1 p).tokenSent = false ∧ portMode s1 p = 1 then sendFirstToken s1 p else s1

/-- LANE_LOCK (R233): alignment holds and 1024 consecutive codewords have decoded. -/
def laneLock (l : Nat) (s : State) : State :=
  let x := lane s l
  if x.found = false ∨ x.cleanRun < 1024 ∨ (x.st ≠ 3 ∧ x.st ≠ 4) then s else
  match laneUse s l with
  | .wotor p => portLocks (gainLock s l) p
  | _ => s

def execLaneLock (l : Nat) (s : State) : Host.Outcome State Fault Refusal := live s (laneLock l)

/-- LANE_LOCK_LOSS (R233, R299): after 8 consecutive uncorrectable codewords the lane searches once more by the
method it last locked with. An alignment found that never locked is given up for the same search. -/
def laneLockLoss (l : Nat) (s : State) : State :=
  let x := lane s l
  if x.uncorrRun < 8 ∨ isWotor s l = false then s
  else if x.st = 5 then
    let s1 := loseLock s l 1
    let y := lane s1 l
    setLane s1 l { y with st := if x.lastMark then 4 else 3, markMode := x.lastMark, research := true, hits := [], huntAt := s.time.loc
                          uncorrRun := 0 }
  else if x.found then setLane s l { x with found := false, verify := false, uncorrRun := 0, hits := [] }
  else s

def execLaneLockLoss (l : Nat) (s : State) : Host.Outcome State Fault Refusal := live s (laneLockLoss l)

/-! ### Adaptation (R289–R294) -/

/-- A far-end loopback, in which the receiver adapts normally (R308). -/
def farEnd (x : Lane) : Bool := x.st == 6 && x.loop == 3

/-- CAPO_AUTO: frozen by the density monitor, in loss of signal, unlocked and not training, or in a near-end loopback. -/
def capoAuto (x : Lane) : Bool :=
  x.autoHold || x.los || (x.st != 5 && x.st != 2 && !farEnd x) || x.loop == 1 || x.loop == 2

/-- The lane adapts: none of its three holds is set and no revert holds it (R291, R293, R308). -/
def adapts (s : State) (l : Nat) : Bool :=
  let x := lane s l
  (x.st == 5 || farEnd x) && !capoAuto x && !capoHeld s 0 l && !x.driftHold && decide (x.holdUntil ≤ s.time.loc)

/-- The generator drives the transmit path; the checker counts errors in what is received (R308). -/
def generates (x : Lane) : Bool := x.pattern != 0 && (x.loop == 1 || x.loop == 2)
def checks (x : Lane) : Bool := x.pattern != 0 && x.loop != 0

/-- The checker's errors in a window (R308, R313). -/
def countErrors (s : State) (l errors : Nat) : State :=
  if checks (lane s l) then setLane s l { lane s l with patErr := min 0xFFFFFFFF ((lane s l).patErr + errors) } else s

/-- DENSITY_WINDOW_END (R290): windows of 4096 UI, of 1024 UI while frozen, in which a checker that runs counts too. -/
def densityWindow (l : Nat) (w : DensityObs) (s0 : State) : State :=
  let s := countErrors s0 l w.errors
  let x := lane s l
  let m := keyU s 0x0110 0 1
  if x.st = 0 then s
  else if x.autoHold then (if m * 1024 ≤ w.count * 100 then setLane s l { x with autoHold := false } else s)
  else if w.count * 100 < m * 4096 then bump (setLane s l { x with autoHold := true }) 1 l 4
  else s

def execDensityWindowEnd (l : Nat) (window : DensityObs) (s : State) : Host.Outcome State Fault Refusal := live s (densityWindow l window)

/-- One step of a code, at most 1 (R289). -/
def codeStep (d : Int) : Int := clampI (-1) 1 d

/-- ADAPTATION_STEP (R289): the signs the LMS found, and the lane's SNR over 2¹⁶ symbols. -/
def adaptationStep (l : Nat) (dCtle dVga : Int) (dDfe : List Int) (snr : Int) (s : State) : State :=
  let x := lane s l
  if x.st = 0 then s else
  let x1 := { x with snr := snr }
  if adapts s l = false then setLane s l x1 else
  setLane s l { x1 with
    ctle := (clampI 0 31 ((x.ctle : Int) + codeStep dCtle)).toNat, vga := x.vga + codeStep dVga
    dfe := (List.range 12).map fun i => satS 8 (x.dfe.getD i 0 + codeStep (dDfe.getD i 0)) }

def execAdaptationStep (l : Nat) (dCtle dVga : Int) (dDfe : List Int) (snr : Int) (s : State) : Host.Outcome State Fault Refusal :=
  live s (adaptationStep l dCtle dVga dDfe snr)

/-- Distance of the present codes from the snapshot: the CTLE and the 12 DFE taps (R293). -/
def driftDistance (x : Lane) (p : Snapshot) : Nat :=
  ((x.ctle : Int) - p.ctle).natAbs + ((List.range 12).map fun i => (x.dfe.getD i 0 - p.dfe.getD i 0).natAbs).sum

/-- SNAP_PERIOD in ticks. -/
def snapPeriod (s : State) : Nat := keyU s 0x0111 0 2 * msTicks

/-- The snapshot is loaded: DRIFT_REVERT, adaptation held for one SNAP_PERIOD, CAPO_DRIFT after the third revert
within 60 s (R293, R294). -/
def revertLane (s : State) (l : Nat) (x : Lane) (p : Snapshot) : State :=
  let rs := (x.reverts.filter fun t => decide (s.time.loc < t + 60 * secTicks)) ++ [s.time.loc]
  raise (bump (setLane s l { x with
      ctle := p.ctle, vga := p.vga, dfe := p.dfe, reverts := rs, holdUntil := s.time.loc + snapPeriod s
      driftHold := x.driftHold || decide (3 ≤ rs.length), driftAt := s.time.loc }) 1 l 5) 0x0104
    (args [(4, l), (4, uns 32 x.snr), (4, uns 32 p.snr)])

/-- DRIFT_CHECK (R293): every 1 ms. -/
def driftCheck (l : Nat) (s : State) : State :=
  let x := lane s l
  match x.snap with
  | none => s
  | some p =>
    if x.st ≠ 5 ∨ s.time.loc < x.driftAt + msTicks then s
    else if keyU s 0x0112 0 1 < driftDistance x p ∧ x.snr < p.snr + keyU s 0x0113 0 1 then revertLane s l x p
    else setLane s l { x with driftAt := s.time.loc }

def execDriftCheck (l : Nat) (s : State) : Host.Outcome State Fault Refusal := live s (driftCheck l)

/-- SNAPSHOT_PERIOD_EXPIRY (R293): a distance check due in the same millisecond is made first. -/
def snapshotExpiry (l : Nat) (s0 : State) : State :=
  if s0.time.loc < (lane s0 l).snapAt + snapPeriod s0 ∨ (lane s0 l).st ≠ 5 then s0 else
  let s := driftCheck l s0
  let x := lane s l
  if adapts s l = false then s else
  let now : Snapshot := { ctle := x.ctle, vga := x.vga, dfe := x.dfe, snr := x.snr }
  match x.snap with
  | some p => setLane s l { x with snapAt := s.time.loc, snap := some (if p.snr ≤ x.snr then now else p) }
  | none => setLane s l { x with snapAt := s.time.loc, snap := some now }

def execSnapshotPeriodExpiry (l : Nat) (s : State) : Host.Outcome State Fault Refusal := live s (snapshotExpiry l)

/-! ### Lane faults (R306) -/

/-- LANE_FAULT (R306; detail 1 quad PLL, 2 uncorrectable codewords, 3 losses of lock, 4 training). A quad PLL
fault names the lowest lane of the quad; the others hold by the lane's own counts. A count that fired begins anew. -/
def laneFault (l cause : Nat) (s : State) : State :=
  let x := lane s l
  match cause with
  | 1 => if 16 ≤ l then s else fire s 9 (l / 4 * 4) 1
  | 2 => if x.st ≠ 5 ∨ x.uncorr ≤ keyU s 0x0116 0 4 then s
         else fire (setLane s l { x with uncorr := 0, secStart := s.time.loc }) 9 l 2
  | 3 => if (x.losses.filter fun t => decide (s.time.loc < t + 60 * secTicks)).length ≤ keyU s 0x0117 0 1 then s
         else fire (setLane s l { x with losses := [] }) 9 l 3
  | _ => match x.failSince with
    | some t => if x.los ∨ s.time.loc < t + secTicks ∨ cause ≠ 4 then s
                else fire (setLane s l { x with failSince := some s.time.loc }) 9 l 4
    | none => s

def execLaneFault (l cause : Nat) (s : State) : Host.Outcome State Fault Refusal := live s (laneFault l cause)

/-- FENCE_RELEASE of a lane retrains it (R306). -/
def unfenceLane (s : State) (l : Nat) : State := powerLane s l

/-! ### Manual alignment (R300) -/

/-- The lane's automatic search is suspended: STATE reads MANUAL and the lane holds no lock. -/
def suspendSearch (s : State) (l : Nat) : State :=
  if (lane s l).st = 8 then s else
  endLock (setLane s l { lane s l with st := 8, tests := 0, found := false, verify := false }) l

/-- The response of LANE_BITSLIP: QUALITY, OFFSET and tests since suspension. -/
def bitslipWords (x : Lane) : List Word := [w32 (x.quality % 256 * 2 ^ 24 + x.offset % 256 * 65536 + x.tests % 65536)]

/-- A test of the window by command: what each candidate decodes of 16 codewords is a free value (log 7). -/
def testWindow (s : State) (l : Nat) : State :=
  let x := lane s l
  let results := (List.range (windowCount x.mode)).map fun k => Config.free s.sys.free (0x800 + k) % 17
  nextFree (setLane s l (testResult { x with tests := x.tests + 1 } results))

/-- LANE_BITSLIP, all three operations (R300). -/
def laneBitslip : Body := fun c s =>
  let w := pw c 0
  let l := w % 16
  let op := bits w 8 2
  let count := w / 65536
  let x := lane s l
  if isWotor s l = false ∨ x.st = 2 ∨ fenced s 1 l ∨ op = 3 then (s, rBad .badParam 0)
  else if op = 1 ∧ (5439 < count ∨ (x.mode ≠ 2 ∧ count % 2 = 1)) then (s, rBad .badParam 0)
  else
    let s1 := suspendSearch s l
    let s2 := if op = 0 then testWindow s1 l
      else if op = 1 then setLane s1 l (slip (lane s1 l) count)
      else
        let y := lane s1 l
        setLane s1 l { y with st := if y.los then 1 else if y.markMode then 4 else 3, attempts := 0, hits := [], huntAt := s.time.loc }
    (s2, rWords (bitslipWords (lane s2 l)))

def opLaneBitslip : OpSpec := opTSB 0xC2 [.service] false (some 1)
def execLaneBitslipTest (c : Cmd) (s : State) : Host.Outcome State Fault Refusal :=
  live s (runCmd opLaneBitslip noBuild laneBitslip c)
def execLaneBitslipSlip (c : Cmd) (s : State) : Host.Outcome State Fault Refusal :=
  live s (runCmd opLaneBitslip noBuild laneBitslip c)
def execLaneBitslipAuto (c : Cmd) (s : State) : Host.Outcome State Fault Refusal :=
  live s (runCmd opLaneBitslip noBuild laneBitslip c)

/-! ### Loopback and status (R307–R309, R313) -/

/-- A PAM4 pattern, an NRZ pattern. -/
def pamPattern (p : Nat) : Bool := p == 3 || p == 4
def nrzPattern (p : Nat) : Bool := p == 1 || p == 2

/-- What a lane's line transmitter sends, and what its generator drives (R308). -/
def linePath (s : State) (l : Nat) : State :=
  let x := lane s l
  emit s (.lanePath l (match x.loop with
    | 0 => 0
    | 3 => 2
    | _ => 1) (if generates x then x.pattern else 0))

/-- A loopback begins: the lane serves no function, its port is not locked, and a source port goes down with it (R304,
R309). -/
def beginLoop (s : State) (l : Nat) : State :=
  let s1 := linePath (endLock s l) l
  match laneUse s1 l with
  | .source p => downSource s1 p 0
  | _ => s1

/-- LANE_LOOPBACK (R307–R309). -/
def bodyLaneLoopback : Body := fun c s =>
  let w := pw c 0
  let l := w % 16
  let mode := bits w 4 3
  let pat := bits w 8 4
  let x := lane s l
  if 3 < mode ∨ 4 < pat then (s, rBad .badParam 0)
  else if fenced s 1 l then (s, rBad .faultActive 9)
  else if (pamPattern pat && laneModeOf s l == 2) || (nrzPattern pat && laneModeOf s l != 2) then (s, rBad .badParam 0)
  else
    let err := if mode = x.loop ∧ pat = x.pattern then x.patErr else 0
    let x1 := { x with loop := mode, pattern := pat, patErr := err }
    if mode ≠ 0 then (beginLoop (setLane s l { x1 with st := 6, found := false, verify := false, mode := laneModeOf s l }) l, rOk)
    else if x.st = 6 then
      let s1 := linePath (setLane s l { x1 with st := if laneUse s l = .none then 0 else 1 }) l
      (if x.los ∨ laneUse s l = .none then s1 else startTraining s1 l (bundleLane s l), rOk)
    else (setLane s l x1, rOk)

def opLaneLoopback : OpSpec := opTSB 0xC1 [.standby, .service] false (some 1)
def execLaneLoopback (c : Cmd) (s : State) : Host.Outcome State Fault Refusal :=
  live s (runCmd opLaneLoopback noBuild bodyLaneLoopback c)

/-- The 8 words of a lane (R313). -/
def laneWords (s : State) (l : Nat) : List Word :=
  let x := lane s l
  let st := if fenced s 1 l then 7 else x.st
  let b := fun i => uns 8 (x.dfe.getD i 0)
  let t := fun i => uns 8 (x.txffe.getD i 0)
  let taps := fun i => b i + b (i + 1) * 256 + b (i + 2) * 65536 + b (i + 3) * 2 ^ 24
  let head := match laneUse s l with
    | .head _ => true
    | _ => false
  [w32 (st * 2 ^ 28 + (if x.st = 0 then 3 else x.mode) * 2 ^ 26 + x.loop % 4 * 2 ^ 24 + flag x.los 23 + flag x.preTx 22 +
      flag x.preRx 21 + flag (x.st == 5 && x.markMode) 20 + flag (capoAuto x) 19 + flag (capoHeld s 0 l) 18 + flag x.driftHold 17),
   w32 (uns 16 x.snr * 65536 + x.eye % 256 * 256 + x.ctle % 32), w32 (taps 0),
   w32 ((if x.mode = 2 then 0 else t 0) + t 1 * 256 + t 2 * 65536 + t 3 * 2 ^ 24),
   w32 (if head then 0 else counter s 1 l 0), w32 (counter s 1 l 1),
   w32 (min 0xFFFF (counter s 1 l 2) * 65536 + x.attempts % 65536), w32 x.patErr]

/-- LANE_STATUS (R313). -/
def bodyLaneStatus : Body := fun c s =>
  let first := pw c 0 % 16
  let n := bits (pw c 0) 4 3
  if n = 0 ∨ 16 < first + n then (s, rBad .badParam 0)
  else (s, rWords ((List.range n).flatMap fun i => laneWords s (first + i)))

def opLaneStatus : OpSpec := opTSB 0xC0 [] false (some 1)
def execLaneStatus (c : Cmd) (s : State) : Host.Outcome State Fault Refusal :=
  live s (runCmd opLaneStatus noBuild bodyLaneStatus c)

/-! ### Eye scan (R310–R312) -/

/-- A scan runs in the quad of a lane (R311). -/
def quadScan (s : State) (l : Nat) : Bool :=
  (List.range 4).any fun i => (tabGet EyeScan.cold s.lanes.scans (l / 4 * 4 + i)).running

/-- Points of a grid: phases −64 … 63, voltages −63 … 63 in steps of 2 ^ code (R310). -/
def scanPoints (phase volt : Nat) : Nat := (127 / 2 ^ phase + 1) * (126 / 2 ^ volt + 1)

/-- LANE_EYE_SCAN start (R311). -/
def eyeStart (c : Cmd) (s : State) : State × Reply :=
  let w := pw c 0
  let l := w % 16
  let ph := bits w 13 3
  let vo := bits w 10 3
  let eye := bits w 8 2
  let dwell := bits w 16 4
  if dwell < 6 ∨ 12 < dwell ∨ 4 < ph ∨ 4 < vo ∨ eye = 3 then (s, rBad .badParam 0)
  else if 1024 < scanPoints ph vo ∨ (eye ≠ 0 ∧ (lane s l).mode = 2) ∨ (lane s l).st ≠ 5 then (s, rBad .badParam 0)
  else if quadScan s l then (s, rBad .busy 0)
  else
    let e : EyeScan := { lane := l, points := scanPoints ph vo, running := true, tag := c.tag, aborted := false, codes := [] }
    ({ s with lanes.scans := tabSet EyeScan.cold s.lanes.scans l e }, rAccepted)

/-- LANE_EYE_SCAN read (R312): the codes of the lane's last scan, 4 a word. -/
def eyeRead (c : Cmd) (s : State) : State × Reply :=
  let e := tabGet EyeScan.cold s.lanes.scans (pw c 0 % 16)
  let got := (e.codes.drop (pw c 1 % 65536)).take 240
  (s, rWords (w32 (got.length % 256 * 65536 + e.points % 65536) :: wordsOf (got.map b8)))

/-- LANE_EYE_SCAN (R310): OP selects. -/
def laneEyeScan : Body := fun c s => if bit (pw c 0) 31 then eyeRead c s else eyeStart c s

def opLaneEyeScan : OpSpec := opTSB 0xC3 [] false (some 2)
def execLaneEyeScanStart (c : Cmd) (s : State) : Host.Outcome State Fault Refusal :=
  live s (runCmd opLaneEyeScan noBuild laneEyeScan c)
def execLaneEyeScanRead (c : Cmd) (s : State) : Host.Outcome State Fault Refusal :=
  live s (runCmd opLaneEyeScan noBuild laneEyeScan c)

/-- The code of a point with `e` errors is the environment's; an aborted scan keeps what it found. -/
def scanCodes (e : EyeScan) (codes : List Nat) : List Nat := (codes.map (· % 256)).take e.points

/-- EYE_SCAN_DONE (R311, R312): the scan of a lane ends, or has aborted with the lane's lock. -/
def eyeScanDone (l : Nat) (codes : List Nat) (s : State) : State :=
  let e := tabGet EyeScan.cold s.lanes.scans l
  if e.running = false then s else
  let s1 := { s with lanes.scans := tabSet EyeScan.cold s.lanes.scans l { e with running := false, codes := scanCodes e codes } }
  cmdDone (raise s1 0x0108 (args [(4, l), (4, e.points), (4, b2n e.aborted)])) e.tag 0xC3 .ok

def execEyeScanDone (l : Nat) (codes : List Nat) (s : State) : Host.Outcome State Fault Refusal := live s (eyeScanDone l codes)

/-- HOURLY_EYE_SCAN (R312): the eye height of a locked lane enters the history of chapter 15. -/
def hourlyEyeScan (l eye : Nat) (s : State) : State :=
  let x := lane s l
  if x.st ≠ 5 ∨ quadScan s l ∨ (x.eyeAt ≠ 0 ∧ s.time.loc < x.eyeAt - 1 + 3600 * secTicks) then s else
  let s1 := setLane s l { x with eye := min 255 eye, eyeAt := s.time.loc + 1 }
  { s1 with th.age.eyes := s1.th.age.eyes ++ [(s1.th.age.hours, l, eye)] }

def execHourlyEyeScan (l eye : Nat) (s : State) : Host.Outcome State Fault Refusal := live s (hourlyEyeScan l eye)

/-! ### Source ports (R301–R305) -/

/-- Auto-negotiation of the modes that have it advertises the configured mode alone, with RS-FEC and without pause (R301,
R302). -/
def negotiates (mode : Nat) : Bool := mode == 1 || mode == 2 || mode == 4 || mode == 5
def sourceLanesUp (s : State) (p : Nat) : State :=
  let s1 := (sourceLanes s p).foldl powerLane s
  if negotiates (srcPort s p).mode ∧ (sourceLanes s p).any (fun l => (lane s l).st == 0 && !fenced s 1 l) then emit s1 (.autoneg p (srcPort s p).mode true false) else s1

/-- A new SOURCE_PORT_MODE takes effect: the port ends in its old one and has never been up in the new one (R304, R305). -/
def sourceMode (s : State) (p : Nat) : State :=
  if (srcPort s p).mode = keyU s 0x0100 p 1 then s else
  let s1 := downSource ([2 * p, 2 * p + 1].foldl idleLane s) p 0
  setSrcPort s1 p { srcPort s1 p with mode := keyU s 0x0100 p 1, everUp := false }

/-- SOURCE_PORT_START (R305): the lanes of an enabled source port come up in its mode. -/
def sourceStart (p : Nat) (s : State) : State :=
  if portOn s p = false ∨ s.sys.st = .reset ∨ s.sys.st = .boot ∨ 4 ≤ p then s else sourceLanesUp (sourceMode s p) p

/-- FENCE_RELEASE of a source port restarts auto-negotiation and training (R304). -/
def unfenceSource (s : State) (p : Nat) : State := sourceLanesUp s p

def execSourcePortStart (p : Nat) (s : State) : Host.Outcome State Fault Refusal := live s (sourceStart p)

/-- A source port goes up: its lanes hold alignment-marker lock (R304). -/
def upSource (s : State) (p : Nat) : State :=
  let x := srcPort s p
  let s1 := setSrcPort s p { x with up := true, everUp := true, recorded := false, secStart := s.time.loc, uncorr := 0 }
  raise ((sourceLanes s p).foldl gainLock s1) 0x0106 (args [(4, p), (4, x.mode)])

/-- Every lane of the port has signal and has trained. -/
def sourceReady (s : State) (p : Nat) : Bool := (sourceLanes s p).all fun l => (lane s l).st == 3

/-- Uncorrectable codewords of a locked lane in the second that runs (R306). -/
def laneUncorr (s : State) (l n : Nat) : State :=
  let x := lane s l
  if x.st ≠ 5 then s
  else if x.secStart + secTicks ≤ s.time.loc then setLane s l { x with secStart := s.time.loc, uncorr := n }
  else setLane s l { x with uncorr := x.uncorr + n }

/-- The port's FEC counts, to its first lane (R306, R313, R316), and SRC_UNCORR_MAX in one second (R304). -/
def sourceFec (s : State) (p corrected uncorr : Nat) : State :=
  let x := srcPort s p
  let new := decide (x.secStart + secTicks ≤ s.time.loc)
  let n := (if new then 0 else x.uncorr) + uncorr
  let s1 := laneUncorr (bumpN (bumpN s 1 (2 * p) 0 corrected) 1 (2 * p) 1 uncorr) (2 * p) uncorr
  let lim := keyU s 0x0118 0 4
  let s2 := setSrcPort s1 p { x with uncorr := n, secStart := if new then s.time.loc else x.secStart }
  if lim < n ∧ n ≤ lim + uncorr then fire s2 43 p 2 else s2

/-- SOURCE_PORT_CHANGE (R304): the port's lock, and the FEC counts since the last one. A port down for 1 s that
has been up is recorded. -/
def sourceChange (p : Nat) (lock : Bool) (corrected uncorr : Nat) (s : State) : State :=
  if portOn s p = false ∨ 4 ≤ p then s else
  let x := srcPort s p
  if lock then
    if x.up then sourceFec s p corrected uncorr else if sourceReady s p then upSource s p else s
  else if x.up then downSource ((sourceLanes s p).foldl (fun t l => loseLock t l 1) s) p 0
  else if x.everUp ∧ x.recorded = false ∧ x.downAt + secTicks ≤ s.time.loc then
    fire (setSrcPort s p { x with recorded := true }) 43 p 1
  else s

def execSourcePortChange (p : Nat) (lock : Bool) (corrected uncorr : Nat) (s : State) : Host.Outcome State Fault Refusal :=
  live s (sourceChange p lock corrected uncorr)

/-- A source port's MAC address, first octet most significant, and its IPv4 address (R303). -/
def portMac (s : State) (p : Nat) : Nat := keyU s 0x0101 (6 * p) 6
def portIp (s : State) (p : Nat) : Nat := keyU s 0x0102 (5 * p) 4

/-- The Ethernet group address of an IPv4 multicast address. -/
def groupMac (ip : Nat) : Nat := 0x01005E000000 + ip % 2 ^ 23

/-- The PTP multicast addresses of IEEE 1588 over Ethernet and over IPv4. -/
def ptpMacs : List Nat := [0x011B19000000, 0x0180C200000E, groupMac 0xE0000181, groupMac 0xE000006B]

/-- The MAC's address filter (R303). -/
def acceptsMac (s : State) (p dst : Nat) : Bool :=
  dst == portMac s p || dst == 0xFFFFFFFFFFFF || ptpMacs.contains dst ||
    s.send.streams.any fun x => match x.2 with
      | some y => y.bind.port == p && decide (y.bind.dst / 2 ^ 28 = 14) && groupMac y.bind.dst == dst
      | none => false

/-- ETHERNET_FRAME (R303): filtered, counted, and an ARP request for the port's own address answered. Stream
packets and PTP messages in accepted frames act by their own rows. -/
def ethernetFrame (p len : Nat) (fcs : Bool) (dst arpFor asker : Nat) (s : State) : State :=
  if portOn s p = false ∨ (srcPort s p).up = false ∨ 4 ≤ p then s
  else if fcs = false ∨ len < 64 ∨ 9216 < len then bump s 1 p 7
  else if acceptsMac s p dst = false then bump s 1 p 8
  else
    let s1 := bump s 1 p 6
    if arpFor ≠ 0 ∧ arpFor = portIp s p then emit s1 (.arp p arpFor (portMac s p) asker) else s1

def execEthernetFrame (p len : Nat) (fcs : Bool) (dst arpFor asker : Nat) (s : State) : Host.Outcome State Fault Refusal :=
  live s (ethernetFrame p len fcs dst arpFor asker)

end Sys2Proof.Machine
end

