-- ==== Sys2Proof/Machine/Ageing.lean ====
section
/-! DEFINITION. Reading temperatures, thermal limits, ageing monitors, margin replanning and CAPO_SET
(15_thermal_ageing R574, R585, R590–R595; 13_mailbox R516). -/

namespace Sys2Proof.Machine

/-! ### Temperatures and limits (R574, R585) -/

/-- A temperature as 16 bits; 0x8000 where disabled or without a reading (R568). -/
def temp16 (s : State) (i : Nat) : Nat :=
  match tempOf s i with
  | some t => uns 16 t
  | none => 0x8000

/-- Inputs that satisfy a test, as a 28-bit mask. -/
def inputMask (p : Nat → Bool) : Nat := ((List.range 28).map fun i => flag (p i) i).sum

/-- The shutdown record is held (R583). -/
def shutHeld (s : State) : Bool :=
  (s.nv.shutRec.getD 0 0).toNat == 1 && s.nv.shutRec.length == 36 && crc32 (s.nv.shutRec.take 32) == leAt s.nv.shutRec 32 4

/-- The 29 words of THERMAL_READ (R585). With no valid rate or T_hot the value is free (log 11). -/
def thermalWords (s : State) : List Word :=
  let h := (tHot s).getD (Config.free s.sys.free 140 % 24, sgn 16 (Config.free s.sys.free 141))
  let rate := match rateMax s with
    | some (_, r) => uns 16 r
    | none => Config.free s.sys.free 142 % 65536
  [w32 (flag (shutHeld s) 28 + flag (s.sys.role == .bed && s.th.stopMade) 27 + flag s.th.rise 26 + flag s.th.throttle 25 +
      flag s.th.warn 24 + s.th.floor % 16 * 2 ^ 20 + s.th.level % 16 * 65536 + uns 16 h.2),
   w32 (h.1 % 32 * 65536 + rate)] ++
  ((List.range 14).map fun k => w32 (temp16 s (2 * k + 1) * 65536 + temp16 s (2 * k))) ++
  [w32 (inputMask (sensorValid s)), w32 (inputMask fun i => sensorOn s i && (sensor s i).failed),
   w32 (s.th.iCore % 65536 * 65536 + s.th.vCore % 65536), w32 (s.th.age.avsFloor % 65536)] ++
  (if shutHeld s then wordsN 9 s.nv.shutRec else List.replicate 9 0)

/-- THERMAL_READ (R585). -/
def bodyThermalRead : Body := fun c s =>
  let r := rWords (thermalWords s)
  if bit (pw c 0) 0 ∧ shutHeld s then (raise (emit { s with nv.shutRec := [] } (.record 2 0 [])) 0x0E06 [], r) else (s, r)

def opThermalRead : OpSpec := opTSB 0x90 [] false (some 1)
def execThermalRead (c : Cmd) (s : State) : Host.Outcome State Fault Refusal := live s (runCmd opThermalRead noBuild bodyThermalRead c)

/-- THERMAL_LIMITS_SET (R574). -/
def bodyThermalLimitsSet : Body := fun c s =>
  let warn := pw c 0 % 65536
  let thr := pw c 0 / 65536
  let shut := pw c 1 % 65536
  let rise := pw c 1 / 65536
  if warn < 640 ∨ 1680 < warn ∨ thr < warn + 16 ∨ 1760 < thr then (s, rBad .badParam 0)
  else if shut < thr + 80 ∨ 1920 < shut ∨ rise < 16 ∨ 320 < rise then (s, rBad .badParam 1)
  else ({ s with th.limWarn := warn, th.limThrottle := thr, th.limShut := shut, th.limRise := rise
                 th.warnRun := 0, th.throttleRun := 0, th.shutRun := 0, th.riseRun := 0 }, rOk)

def opThermalLimitsSet : OpSpec := opTSB 0x91 [.standby] true (some 2)
def execThermalLimitsSet (c : Cmd) (s : State) : Host.Outcome State Fault Refusal :=
  live s (runCmd opThermalLimitsSet noBuild bodyThermalLimitsSet c)

/-! ### Monitors (R590) -/

/-- AGEING_SAMPLE (R590): one operating hour has passed. `ratio` holds d of every ring-oscillator pair, ppm; the
rest are the least and greatest s_min and voltage of the hour. -/
def ageingSample (ratio : List Nat) (sLo sHi vLo vHi : Nat) (s : State) : State :=
  let a := s.th.age
  if s.sys.st = .reset ∨ s.sys.st = .boot ∨ s.time.loc < a.hourAt + 3600 * secTicks then s else
  { s with
    th.age.hours := a.hours + 1, th.age.hourAt := a.hourAt + 3600 * secTicks
    th.age.dMax := ratio.foldl max 0
    th.age.logic := a.logic ++ [(a.hours + 1) :: sLo :: sHi :: vLo :: vHi :: ratio] }

def execAgeingSample (ratio : List Nat) (sLo sHi vLo vHi : Nat) (s : State) : Host.Outcome State Fault Refusal :=
  live s (ageingSample ratio sLo sHi vLo vHi)

/-- Write the histories into the ageing area that was not written last (R590; 18 R655). -/
def ageSave (s : State) : State :=
  let k := if s.nv.ageLast = 1 then 1 else 0
  let a := { s.th.age with savedAt := s.th.age.hours }
  emit { s with th.age := a, nv.age := tabSet Ageing.cold s.nv.age k a, nv.ageLast := k + 1 } (.flash (0x2400000 + k * 0x40000) [])

/-- AGEING_SAVE (R590): every 24 h. -/
def ageingSave (s : State) : State :=
  if s.sys.st = .reset ∨ s.sys.st = .boot ∨ s.th.age.hours < s.th.age.savedAt + 24 then s else ageSave s

def execAgeingSave (s : State) : Host.Outcome State Fault Refusal := live s ageingSave

/-! ### Margins (R593) -/

/-- A of a string (R592): 0x8000 until a replan changes it. -/
def stringAge (s : State) (n : Nat) : Nat :=
  let v := tabGet 0 s.th.age.stringA n
  if v = 0 then 0x8000 else v

/-- The largest positive WEAR_COMP target among lamps in OK or SUSPECT. -/
def wearPeak (s : State) : Nat :=
  s.fret.targets.foldl (fun m p => if (lampH s p.1).health < 2 then max m (p.2.getD 0).toNat else m) 0

/-- A domain is used in the role (R593). -/
def domainUsed (role : Role) (d : Nat) : Bool :=
  match d with
  | 0 => true
  | 1 => true
  | 4 => role == .bed
  | _ => role == .tile

/-- The largest value of a table. -/
def tabMax (t : Tab Nat) : Nat := t.foldl (fun m p => max m p.2) 0

/-- The largest A of the strings. -/
def stringPeak (s : State) : Nat := ((List.range 12).map (stringAge s)).foldl max 0

/-- The margin of a domain, whole percent, truncated (R593); free for a domain the role has not. -/
def margin (s : State) (d : Nat) : Nat :=
  if domainUsed s.sys.role d = false then Config.free s.sys.free (150 + d) % 256 else
  match d with
  | 0 => (850 - s.th.age.avsFloor) * 100 / 200
  | 1 => (20 - tabMax s.th.age.laneInc) * 100 / 20
  | 2 => (50 - tabMax s.th.age.railA) * 100 / 50
  | 3 => (2047 - wearPeak s) * 100 / 2047
  | _ => (0xA000 - stringPeak s) * 100 / 0x2000

/-! ### Replanning (R591–R594) -/

/-- The median of a lane's eye heights over the last 24 operating hours; the lower one of two (DEDUCED, log 24). -/
def eyeMedian (a : Ageing) (l : Nat) : Option Nat :=
  let v := (a.eyes.filter fun e => e.2.1 == l && decide (a.hours < e.1 + 24)).map fun e => (e.2.2 : Int)
  if v.isEmpty then none else some (lowMedian v).toNat

/-- LOGIC (R592). -/
def replanLogic (s : State) : State :=
  { s with th.age.avsFloor := min 850 (max s.th.age.avsFloor (650 + 5 * cdiv s.th.age.dMax 1000)) }

/-- LANES (R592): 2 mV for each whole 5 mV lost since the previous replan. -/
def replanLane (s : State) (l : Nat) : State :=
  match eyeMedian s.th.age l with
  | none => s
  | some m =>
    let base := tabGet 0 s.th.age.eyeBase l
    let drop := if base = 0 then 0 else base - 1 - m
    { s with th.age.laneInc := tabUpd 0 s.th.age.laneInc l fun v => min 20 (v + 2 * (drop / 5))
             th.age.eyeBase := tabSet 0 s.th.age.eyeBase l (m + 1) }

/-- HEADROOM (R592): more than 10⁻⁴ of a rail's checks deviated by more than 2 %. -/
def replanRail (s : State) (n : Nat) : State :=
  let c := tabGet 0 s.th.age.railChecks n
  let d := tabGet 0 s.th.age.railDev n
  { s with th.age.railA := if c < d * 10000 then tabUpd 0 s.th.age.railA n (fun v => min 50 (v + 5)) else s.th.age.railA
           th.age.railLeast := tabSet 0 s.th.age.railLeast n 0
           th.age.railChecks := tabSet 0 s.th.age.railChecks n 0, th.age.railDev := tabSet 0 s.th.age.railDev n 0 }

/-- STRINGS (R592): η of the period that ends, from its samples scaled by 2¹⁶; η₀ is that of the first full period. -/
def replanString (s : State) (n : Nat) : State :=
  let a := s.th.age
  let k := tabGet 0 a.etaN n
  let clear := { s with th.age.etaSum := tabSet 0 a.etaSum n 0, th.age.etaN := tabSet 0 a.etaN n 0, th.age.etaSkip := tabSet 0 a.etaSkip n 0 }
  if k = 0 then clear else
  let eta := tabGet 0 a.etaSum n / k
  let eta0 := tabGet 0 a.eta0 n
  if eta0 = 0 then
    if tabGet 0 a.etaSkip n = 1 then clear else { clear with th.age.eta0 := tabSet 0 a.eta0 n eta }
  else
    let old : Int := stringAge s n
    let raw := if eta = 0 then 0xA000 else rdiv ((eta0 : Int) * 0x8000) eta
    let v := clampI 0x8000 0xA000 (clampI (old - 0x100) (old + 0x100) raw)
    { clear with th.age.stringA := tabSet 0 a.stringA n v.toNat }

/-- What a replan of the domains in `mask` changes (R592). -/
def replanChanges (mask : Nat) (s : State) : State :=
  let on := fun d => bit mask d && domainUsed s.sys.role d
  let s1 := if on 0 then replanLogic s else s
  let s2 := if on 1 then (List.range 16).foldl replanLane s1 else s1
  let s3 := if on 2 then (List.range 12).foldl replanRail s2 else s2
  let s4 := if on 3 then wearTargets s3 else s3
  if on 4 then (List.range 12).foldl replanString s4 else s4

/-- POLICY records of the engine inputs a replan changed (R591; 14_spillway R555). -/
def replanPolicy (old s : State) : State :=
  let put := fun (t : State) (d : Nat) (changed : Bool) (vals : List Byte) =>
    if changed then capRec t 0x0B d 0 (leBytes 4 d ++ leBytes 4 0 ++ vals) else t
  let bytes := fun (t : Tab Nat) => t.flatMap fun p => leBytes 2 p.1 ++ leBytes 2 p.2
  let s1 := put s 1 (decide (s.th.age.laneInc ≠ old.th.age.laneInc)) (bytes s.th.age.laneInc)
  let s2 := put s1 2 (decide (s.th.age.railA ≠ old.th.age.railA)) (bytes s.th.age.railA)
  let s3 := put s2 3 (decide (s.fret.targets ≠ old.fret.targets)) (s.fret.targets.flatMap fun p => leBytes 4 p.1 ++ leBytes 2 (uns 16 (p.2.getD 0)))
  put s3 4 (decide (s.th.age.stringA ≠ old.th.age.stringA)) (bytes s.th.age.stringA)

/-- One domain's margin against MARGIN_FLOOR: AGEING_MARGIN once for each crossing (R593). -/
def checkMargin (s : State) (d : Nat) : State :=
  if domainUsed s.sys.role d = false then s else
  let m := margin s d
  if m < keyU s 0x0E08 d 1 then
    if tabGet 0 s.th.age.below d = 1 then s
    else fire { s with th.age.below := tabSet 0 s.th.age.below d 1 } 35 d m
  else { s with th.age.below := tabSet 0 s.th.age.below d 0 }

/-- MARGIN_REPLANNED (R592, R594): dry run and the five margins of the state reached. -/
def replanned (s at_ : State) (dry : Bool) : State :=
  raise s 0x0E08 (args ((1, b2n dry) :: (List.range 5).map fun d => (1, margin at_ d)))

/-- A replan, scheduled or commanded (R591–R594). -/
def replan (mask : Nat) (dry : Bool) (s : State) : State :=
  let m := if mask = 0 then 31 else mask
  let t := replanChanges m s
  if dry then replanned s t true else
  let t1 := bump { replanPolicy s t with th.age.lastReplan := s.th.age.hours } 0x0E 0 6
  let t2 := (List.range 5).foldl checkMargin t1
  replanned (ageSave t2) t2 false

/-- Run the replan that waits (R591). -/
def runReplan (s : State) (r : Replan) : State :=
  let s1 := replan r.mask r.dry { s with th.pendReplan := none }
  match r.tag with
  | some t => cmdDone s1 t 0x93 .ok
  | none => s1

/-- REPLAN_DUE (R591): a replan commanded or due by its period, unless CAPO_SET holds it. -/
def replanDue (s : State) : State :=
  if s.sys.st = .reset ∨ s.sys.st = .boot ∨ capoHeld s 4 0 then s else
  match s.th.pendReplan with
  | some r => runReplan s r
  | none =>
    if s.th.age.lastReplan + keyU s 0x0E07 0 2 ≤ s.th.age.hours then replan 0 false s else s

def execReplanDue (s : State) : Host.Outcome State Fault Refusal := live s replanDue

/-- MARGIN_REPLAN (R594). -/
def bodyMarginReplan : Body := fun c s =>
  let mask := pw c 0 % 32
  if mask ≠ 0 ∧ ((List.range 5).any fun d => bit mask d && domainUsed s.sys.role d) = false then (s, rBad .roleReject 0)
  else if s.th.pendReplan.isSome then (s, rBad .busy 0)
  else ({ s with th.pendReplan := some { mask := mask, dry := bit (pw c 0) 31, tag := some c.tag } }, rAccepted)

def opMarginReplan : OpSpec := opTSB 0x93 stRdRnHo true (some 1)
def execMarginReplan (c : Cmd) (s : State) : Host.Outcome State Fault Refusal := live s (runCmd opMarginReplan noBuild bodyMarginReplan c)

/-- METRIC of a domain (R595). -/
def metric (s : State) (d : Nat) : Nat :=
  if domainUsed s.sys.role d = false then Config.free s.sys.free (160 + d) else
  match d with
  | 0 => s.th.age.dMax
  | 1 =>
    match (List.range 16).filter fun l => (lane s l).eyeAt != 0 with
    | [] => Config.free s.sys.free 166
    | l :: r => r.foldl (fun m k => min m (lane s k).eye) (lane s l).eye
  | 2 => tabMax s.th.age.railA
  | 3 => wearPeak s
  | _ => stringPeak s

/-- AGEING_REPORT (R595). -/
def bodyAgeingReport : Body := fun _ s =>
  let row := fun d =>
    [w32 (flag (!domainUsed s.sys.role d) 25 + flag (tabGet 0 s.th.age.below d == 1) 24 + d * 65536 + keyU s 0x0E08 d 1 % 256 * 256 +
        margin s d % 256), w32 (metric s d)]
  (s, rWords ((List.range 5).flatMap row ++
    [w32 s.th.age.hours, w32 s.th.age.lastReplan, w32 (s.th.age.lastReplan + keyU s 0x0E07 0 2)]))

def opAgeingReport : OpSpec := opTSB 0x92 [] false (some 0)
def execAgeingReport (c : Cmd) (s : State) : Host.Outcome State Fault Refusal := live s (runCmd opAgeingReport noBuild bodyAgeingReport c)

/-! ### CAPO_SET (13_mailbox R516) -/

/-- Instances of a policy in the role (R516; 12 R442); none where the policy is not in the role. -/
def capoInstances (s : State) (policy : Nat) : Option (List Nat) :=
  match policy, s.sys.role with
  | 0, _ => some (List.range 16)
  | 1, .tile => some (List.range 12)
  | 1, .bed => some ((List.range 28).filter fun i => i != 15 || !peerLane s)
  | 2, .tile => some [0]
  | 3, _ => some [0]
  | 4, _ => some [0]
  | 5, _ => some [0]
  | _, _ => none

/-- Hold or release one instance; releasing a lane clears CAPO_DRIFT (08 R294). -/
def capoOne (hold : Bool) (policy : Nat) (s : State) (i : Nat) : State :=
  let rest := s.capo.filter fun p => p != (policy, i)
  let s1 := { s with capo := if hold then rest ++ [(policy, i)] else rest }
  if policy = 0 ∧ hold = false then setLane s1 i { lane s1 i with driftHold := false } else s1

/-- CAPO_SET (R516). A release of policy 4 lets a due replan run (15 R591). -/
def bodyCapoSet : Body := fun c s =>
  let hold := bit (pw c 0) 31
  let pol := bits (pw c 0) 8 4
  let inst := pw c 0 % 256
  if 5 < pol then (s, rBad .badParam 0) else
  match capoInstances s pol with
  | none => (s, rBad .roleReject 0)
  | some l =>
    if inst ≠ 0xFF ∧ l.contains inst = false then (s, rBad .badParam 0) else
    let s1 := (if inst = 0xFF then l else [inst]).foldl (capoOne hold pol) s
    let s2 := if pol = 4 ∧ hold = false then replanDue s1 else s1
    (s2, rWords [w32 (s2.capo.filter fun p => p.1 == pol).length])

def opCapoSet : OpSpec := opTSB 0x09 [] true (some 1)
def execCapoSet (c : Cmd) (s : State) : Host.Outcome State Fault Refusal := live s (runCmd opCapoSet noBuild bodyCapoSet c)

end Sys2Proof.Machine
end

