-- ==== Sys2Proof/Machine/Axes.lean ====
section
/-! DEFINITION. Auxiliary step axes: moves, homing, following of coarse steps, stall (10_jets_motion R398–R403). -/

namespace Sys2Proof.Machine

/-! ### Configuration (R404) -/

/-- A word of AXIS_CONFIG: 0 STEP_RATE_MAX, 1 widths, 2 ENC_RATIO, 3 STALL_WINDOW, 4 HOME_A, 5 inversions. -/
def axisW (s : State) (a i : Nat) : Nat := keyU s (0x0A10 + a) (4 * i) 4

/-- Ticks between steps at STEP_RATE_MAX. -/
def minSpacing (s : State) (a : Nat) : Nat := 10000000000 / max 1 (axisW s a 0)

/-- LOCAL time as an integer. -/
def nowLocal (s : State) : Int := (s.time.loc : Int)

/-- A position is a signed 32-bit count. -/
def stepPos (x : Int) : Int := sgn 32 (uns 32 x)

/-! ### Motions (R370 in steps and seconds) -/

/-- The profile of a move. -/
def axisProfile (x : Axis) : Profile := if x.kind = 1 then sCurve x.v x.a x.j x.dist else trapezoid x.v x.a x.dist

/-- Seconds of a number of ticks. -/
def secondsOf (t : Int) : Rat := mkRat t 10000000000

/-- Speed in a profile's acceleration. -/
def accSpeed (p : Profile) (t : Rat) : Rat :=
  match p.j with
  | none => p.a1 * t
  | some j =>
    let tj := p.a1 / j
    let ta := p.v / p.a1
    if t ≤ tj then j * t * t / 2
    else if t ≤ ta then j * tj * tj / 2 + p.a1 * (t - tj)
    else p.v - j * (ta + tj - t) * (ta + tj - t) / 2

/-- Distance of the motion `tau` ticks after its start, before any deceleration. -/
def freeDist (x : Axis) (tau : Int) : Rat :=
  let t := secondsOf (max 0 tau)
  match x.kind with
  | 2 => if t * x.a ≤ x.v then x.a * t * t / 2 else x.v * t - (x.v : Rat) * x.v / (2 * x.a)
  | 3 => x.v * t
  | _ =>
    let p := axisProfile x
    let tj := profTicks p
    if (tj : Int) ≤ tau then x.dist else profDist p (max 0 tau * p.t / tj)

/-- Speed of the motion, steps per second. -/
def freeSpeed (x : Axis) (tau : Int) : Rat :=
  let t := secondsOf (max 0 tau)
  match x.kind with
  | 2 => min x.v (x.a * t)
  | 3 => x.v
  | _ =>
    let p := axisProfile x
    if p.t ≤ t then 0
    else
      let u := if 2 * t ≤ p.t then t else p.t - t
      if u ≤ accTime p then accSpeed p u else p.v

/-- A deceleration from `v0` as the mirror of an acceleration (R399 OP 2). -/
def decProfile (v0 : Rat) (a j : Nat) : Profile :=
  if j = 0 then { d := 0, v := v0, a1 := a, j := none, dacc := v0 * v0 / (2 * a), t := v0 / a }
  else
    let a1 := min (a : Rat) (fSqrt (v0 * j))
    if v0 = 0 then { d := 0, v := 0, a1 := 1, j := none, dacc := 0, t := 0 }
    else { d := 0, v := v0, a1 := a1, j := some j, dacc := v0 * (v0 / a1 + a1 / j) / 2, t := v0 / a1 + a1 / j }

/-- Distance of the motion at a LOCAL time, with its deceleration. -/
def axisDist (x : Axis) (t : Int) : Rat :=
  match x.dec with
  | none => freeDist x (t - x.start)
  | some (td, a, j) =>
    if t ≤ td then freeDist x (t - x.start)
    else
      let p := decProfile (freeSpeed x (td - x.start)) a j
      let u := secondsOf (t - td)
      freeDist x (td - x.start) + (if p.t ≤ u then p.dacc else p.dacc - accDist p (p.t - u))

/-- The motion's end: the tick after which it moves no more; none for a motion without one. -/
def motionEnds (x : Axis) : Option Int :=
  match x.dec with
  | some (td, a, j) => some (td + (ratRound ((decProfile (freeSpeed x (td - x.start)) a j).t * 10000000000 + 1 / 2)))
  | none => if 2 ≤ x.kind then none else some (x.start + (if x.dist = 0 then 0 else profTicks (axisProfile x)))

/-- The first tick at which the motion's distance reaches the next step (R399). -/
def motionNext (x : Axis) : Option Int :=
  let n : Rat := x.emitted + 1
  let k := searchLe (fun t => decide (axisDist x (x.start + t) < n)) 52 0
  if axisDist x (x.start + k + 1) < n then none else some (x.start + k + 1)

/-- The next step of an axis: its tick and direction, before DIR_SETUP and the rate limit. -/
def nextStep (x : Axis) : Option (Int × Bool) :=
  match x.st with
  | 2 => (motionNext x).map fun t => (t, x.forward)
  | 4 => (motionNext x).map fun t => (t, x.forward)
  | 3 => match x.plan with
    | some (t0, m, d, e) => if m ≤ e then none else some (t0 + ((e + 1) * d / m : Nat), x.forward)
    | none => none
  | _ => none

/-- When the step is placed: DIR stands DIR_SETUP before it, steps keep their least spacing (R398). -/
def stepTick (s : State) (a : Nat) (t : Int) : Int :=
  let x := axis s a
  max t (max (x.dirAt + axisW s a 1 / 65536) (x.lastStep + minSpacing s a))

/-- Change the direction. -/
def turnAxis (x : Axis) (fwd : Bool) (now : Int) : Axis :=
  if x.forward = fwd then x else { x with forward := fwd, dirAt := now }

/-- The state an axis rests in. -/
def restState (x : Axis) : Nat := if x.homed then 1 else 0

/-- Following ends once no step is pending (R399 OP 4). -/
def endFollow (x : Axis) : Axis :=
  let pending := match x.plan with
    | some (_, m, _, e) => decide (e < m)
    | none => false
  if x.ending && !pending then { x with st := restState x, plan := none, lastEdge := none, ending := false } else x

/-- The pulse of a step: STEP_WIDTH, and DIR and STEP by DIR_INVERT and STEP_INVERT (R398, R404). -/
def stepPulse (s : State) (a : Nat) (fwd : Bool) (t : Int) : Out :=
  .step a (fwd.xor (bit (axisW s a 5) 1)) (!bit (axisW s a 5) 0) (uns 64 t) (axisW s a 1 % 65536)

/-- AXIS_STEP: the next step, when its tick has come. -/
def axisStep (a : Nat) (s : State) : State :=
  let x := axis s a
  match nextStep x with
  | some (t, fwd) =>
    let t1 := stepTick s a t
    if s.sys.role ≠ .bed ∨ 8 ≤ a ∨ nowLocal s < t1 then s else
    let y := { x with
      pos := stepPos (x.pos + (if fwd then 1 else -1)), lastStep := t1, emitted := if x.st = 3 then x.emitted else x.emitted + 1
      plan := x.plan.map fun p => (p.1, p.2.1, p.2.2.1, p.2.2.2 + 1) }
    emit (setAxis s a (endFollow y)) (stepPulse s a fwd t1)
  | none => s

def execAxisStep (a : Nat) (s : State) : Host.Outcome State Fault Refusal := live s (axisStep a)

/-! ### AXIS_MOVE (R399, R400) -/

/-- A field of AXIS_MOVE at fault for the operation. -/
def moveFault (s : State) (a op : Nat) (c : Cmd) : Option Nat :=
  if op ≤ 1 ∧ (pw c 2 = 0 ∨ axisW s a 0 < pw c 2) then some 2
  else if op ≤ 2 ∧ pw c 3 = 0 then some 3
  else if op ≤ 2 ∧ bits (pw c 0) 8 2 = 1 ∧ pw c 4 = 0 then some 4
  else if op ≤ 2 ∧ 1 < bits (pw c 0) 8 2 then some 0
  else none

/-- OP 0 and 1: the move begins. -/
def startAxis (s : State) (a : Nat) (c : Cmd) (d : Int) : State :=
  let x := turnAxis (axis s a) (decide (0 ≤ d)) (nowLocal s)
  setAxis s a { x with
    st := 2, op := 0x57, tag := c.tag + 1, kind := bits (pw c 0) 8 2, start := nowLocal s, dist := d.natAbs, v := pw c 2, a := pw c 3, j := pw c 4
    emitted := 0, dec := none }

/-- OP 2: the axis decelerates from its present speed; a following axis from its plan's (DEDUCED, log 32). -/
def decelAxis (s : State) (a : Nat) (c : Cmd) : State :=
  let x := axis s a
  let now := nowLocal s
  let j := if bits (pw c 0) 8 2 = 1 then pw c 4 else 0
  let y := match x.st with
    | 2 => x
    | 4 => x
    | 3 => match x.plan with
      | some (_, m, d, e) => { x with kind := 3, start := now, v := if e < m then m * 10000000000 / max 1 d else 0, emitted := 0 }
      | none => { x with kind := 3, start := now, v := 0, emitted := 0 }
    | _ => { x with kind := 3, start := now, v := 0, emitted := 0 }
  setAxis s a { y with st := 2, dec := some (x.dec.getD (now, pw c 3, j)), decTag := c.tag + 1, plan := none, lastEdge := none, ending := false, zSeen := false }

def bodyAxisMove : Body := fun c s =>
  let w := pw c 0
  let a := w % 16
  let op := bits w 4 3
  let x := axis s a
  if 8 ≤ a ∨ 5 < op then (s, rBad .badParam 0)
  else if fenced s 10 a then (s, rBad .faultActive (fencedBy s 10 a))
  else if op = 0 ∧ x.st = 0 then (s, rBad .badParam 0)
  else if (op = 0 ∨ op = 1 ∨ op = 3) ∧ axisMoves x then (s, rBad .busy 0)
  else match moveFault s a op c with
    | some i => (s, rBad .badParam i)
    | none => match op with
      | 0 => (startAxis s a c (sgn 32 (pw c 1) - x.pos), rAccepted)
      | 1 => (startAxis s a c (sgn 32 (pw c 1)), rAccepted)
      | 2 => if x.decTag ≠ 0 then (s, rBad .busy 0) else (decelAxis s a c, rAccepted)
      | 3 => (setAxis s a { x with st := 3, input := bits w 10 2, target := x.pos, lastEdge := none, plan := none, ending := false }, rOk)
      | 4 => (if x.st = 3 then setAxis s a (endFollow { x with ending := true }) else s, rOk)
      | _ => (stopAxis s a 0, rOk)

def opAxisMove : OpSpec := opB 0x57 rdRnHo false (some 5)
/-- AXIS_MOVE: the OP of the command's word decides (R399). -/
def runAxisMove (c : Cmd) (s : State) : State := runCmd opAxisMove noBuild bodyAxisMove c s
def execAxisMoveAbsolute (c : Cmd) (s : State) : Host.Outcome State Fault Refusal := live s (runAxisMove c)
def execAxisMoveRelative (c : Cmd) (s : State) : Host.Outcome State Fault Refusal := live s (runAxisMove c)
def execAxisDecelerate (c : Cmd) (s : State) : Host.Outcome State Fault Refusal := live s (runAxisMove c)
def execAxisFollow (c : Cmd) (s : State) : Host.Outcome State Fault Refusal := live s (runAxisMove c)
def execAxisEndFollowing (c : Cmd) (s : State) : Host.Outcome State Fault Refusal := live s (runAxisMove c)
def execAxisQuickStop (c : Cmd) (s : State) : Host.Outcome State Fault Refusal := live s (runAxisMove c)

/-- AXIS_DONE (R399): a move or a deceleration has ended. -/
def axisDone (a : Nat) (s : State) : State :=
  let x := axis s a
  if x.st ≠ 2 ∨ (motionNext x).isSome then s else
  match motionEnds x with
  | some t =>
    if nowLocal s < t then s else
    let s1 := setAxis s a { x with st := restState x, dec := none }
    endAxisTags (raise s1 0x0A0E (args [(4, a), (4, uns 32 x.pos)])) a (if x.dec.isSome then 0x20 else 0) 0
  | none => s

def execAxisDone (a : Nat) (s : State) : Host.Outcome State Fault Refusal := live s (axisDone a)

/-! ### Homing (R401) -/

/-- The encoder count that stands for a position. -/
def alignEnc (s : State) (a : Nat) (pos : Int) : Int := rdiv (pos * 65536) (max 1 (axisW s a 2))

/-- MODE 0: the present position becomes POSITION. -/
def homeHere (s : State) (a : Nat) (pos : Int) : State :=
  raise (setAxis s a { axis s a with st := 1, homed := true, pos := pos, enc := alignEnc s a pos }) 0x0A0F (args [(4, a), (4, uns 32 pos)])

def bodyAxisHome : Body := fun c s =>
  let a := pw c 0 % 16
  let mode := bits (pw c 0) 4 2
  let x := axis s a
  if 8 ≤ a ∨ mode = 3 then (s, rBad .badParam 0)
  else if fenced s 10 a then (s, rBad .faultActive (fencedBy s 10 a))
  else if axisMoves x then (s, rBad .busy 0)
  else if mode = 0 then (homeHere s a (sgn 32 (pw c 1)), rOk)
  else if pw c 2 = 0 ∨ axisW s a 0 < pw c 2 then (s, rBad .badParam 2)
  else
    let y := turnAxis x (mode == 1) (nowLocal s)
    (setAxis s a { y with
      st := 4, op := 0x58, tag := c.tag + 1, kind := 2, start := nowLocal s, v := pw c 2, a := axisW s a 4, j := 0, emitted := 0, dec := none
      homePos := sgn 32 (pw c 1), zSeen := false }, rAccepted)

def opAxisHome : OpSpec := opB 0x58 rdRnHo false (some 3)
/-- AXIS_HOME: the MODE of the command's word decides (R401). -/
def runAxisHome (c : Cmd) (s : State) : State := runCmd opAxisHome noBuild bodyAxisHome c s
def execAxisHomeSet (c : Cmd) (s : State) : Host.Outcome State Fault Refusal := live s (runAxisHome c)
def execAxisHomeSearch (c : Cmd) (s : State) : Host.Outcome State Fault Refusal := live s (runAxisHome c)

/-- ENCODER_Z_EDGE: the step count at the edge becomes POSITION; the axis decelerates at HOME_A. -/
def zEdge (a : Nat) (s : State) : State :=
  let x := axis s a
  if x.st ≠ 4 ∨ x.zSeen then s
  else setAxis s a { x with zSeen := true, pos := x.homePos, enc := alignEnc s a x.homePos, dec := some (nowLocal s, axisW s a 4, 0) }

def execEncoderZEdge (a : Nat) (s : State) : Host.Outcome State Fault Refusal := live s (zEdge a)

/-- HOMING_DONE: the axis has come to rest behind the Z edge. -/
def homingDone (a : Nat) (s : State) : State :=
  let x := axis s a
  if x.st ≠ 4 ∨ x.zSeen = false ∨ (motionNext x).isSome then s else
  match motionEnds x with
  | some t =>
    if nowLocal s < t then s else
    endAxisTags (raise (setAxis s a { x with st := 1, homed := true, dec := none, zSeen := false }) 0x0A0F (args [(4, a), (4, uns 32 x.pos)])) a 0 0
  | none => s

def execHomingDone (a : Nat) (s : State) : Host.Outcome State Fault Refusal := live s (homingDone a)

/-- HOMING_TIMEOUT: no Z edge within 2³¹ steps. -/
def homingTimeout (a : Nat) (s : State) : State :=
  let x := axis s a
  if x.st ≠ 4 ∨ x.zSeen ∨ x.emitted < 2 ^ 31 then s else stopAxis s a 3

def execHomingTimeout (a : Nat) (s : State) : Host.Outcome State Fault Refusal := live s (homingTimeout a)

/-! ### Following (R402) -/

/-- A following axis replans at an edge of its input. -/
def followEdge (fwd : Bool) (s : State) (a : Nat) : State :=
  let x := axis s a
  let now := nowLocal s
  let hi := keyU s 0x0A04 0 4
  let lo := 256 * 10000000000 / max 1 (axisW s a 0)
  let d := match x.lastEdge with
    | some t => min hi (max lo (now - t).toNat)
    | none => hi
  let target := stepPos (x.target + (if fwd then 256 else -256))
  let diff := stepPos (target - x.pos)
  let m := diff.natAbs
  let room := d / max 1 (minSpacing s a)
  let d1 := if room < m then m * minSpacing s a else d
  let y := turnAxis x (if m = 0 then x.forward else decide (0 < diff)) now
  setAxis (if room < m then bumpN s 0x0A a 7 (m - room) else s) a
    { y with target := target, lastEdge := some now, plan := if m = 0 then none else some (now, m, d1, 0) }

/-- STEP_IN_EDGE: a rising edge of STEP_IN of a pair, with DIR_IN sampled at it; a recorded input. -/
def stepInEdge (input : Nat) (fwd : Bool) (s : State) : State :=
  if s.sys.role ≠ .bed then s else
  let s1 := capRec s 0x0A (2 + input) 0 (leBytes 4 2 ++ leBytes 4 (b2n fwd))
  ((List.range 8).filter fun a => (axis s a).st == 3 && (axis s a).input == input && !(axis s a).ending).foldl (followEdge fwd) s1

def execStepInEdge (input : Nat) (fwd : Bool) (s : State) : Host.Outcome State Fault Refusal := live s (stepInEdge input fwd)

/-! ### Stall (R403) -/

/-- One axis at a head frame: its encoder count, and the stall check of an axis that is not UNCERTAIN or HOMING
(DEDUCED, log 32). -/
def stallCheck (enc : List Int) (s : State) (a : Nat) : State :=
  let x := axis s a
  let raw := enc.getD a x.encRaw
  let d := raw - x.encRaw
  let y := { x with encRaw := raw, enc := x.enc + (if bit (axisW s a 5) 2 then -d else d) }
  let s1 := setAxis s a y
  let w := axisW s a 3
  let diff := y.pos - rdiv (y.enc * axisW s a 2) 65536
  if w = 0 ∨ x.st = 0 ∨ x.st = 4 ∨ diff.natAbs ≤ w then s1
  else pauseBuild (fire (stopAxis s1 a 1) 25 a (uns 32 (satS 32 diff))) 6

/-- The stall checks of a head frame; the counts are recorded inputs (14 R555). -/
def stallChecks (enc : List Int) (s : State) : State :=
  (List.range 8).foldl (stallCheck enc) (if enc.isEmpty then s else capRec s 0x0A 8 0 (enc.flatMap fun e => leBytes 4 (uns 32 e)))

end Sys2Proof.Machine
end

