-- ==== Sys2Proof/Machine/JetPlan.lean ====
section
/-! DEFINITION. Jet records, spans and runs: what a head's jets become on its timeline (10_jets_motion R356–R378). -/

namespace Sys2Proof.Machine

/-! ### Fields of a jet record (R356) -/

def jw (w : List Nat) (i : Nat) : Nat := w.getD i 0
def jetX (w : List Nat) : Int := sgn 32 (jw w 0)
def jetY (w : List Nat) : Int := sgn 32 (jw w 1)
def jetZ (w : List Nat) : Int := sgn 24 (jw w 2)
def jetProfile (w : List Nat) : Nat := bits (jw w 2) 24 8
def jetSpeed (w : List Nat) : Nat := jw w 3 % 2 ^ 24
def jetWeir (w : List Nat) : Nat := bits (jw w 3) 24 8
def jetFlag (w : List Nat) (i : Nat) : Bool := bit (jw w 4) (24 + i)
/-- 0 JUMP, 1 MARK, 2 DWELL, 3 STITCH. -/
def jetType (w : List Nat) : Nat := bits (jw w 4) 20 2
def jetHead (w : List Nat) : Nat := bits (jw w 4) 16 4
def jetPower (w : List Nat) : Nat := jw w 4 % 65536
def jetAnchor (w : List Nat) : Nat := jw w 5 + jw w 6 % 65536 * 2 ^ 32
def jetStitch (w : List Nat) : Nat := jw w 6 / 65536
def anchored (w : List Nat) : Bool := jetFlag w 0

/-- MARK or STITCH; a lasing jet (R357). -/
def isMark (w : List Nat) : Bool := jetType w == 1 || jetType w == 3
def isLasing (w : List Nat) : Bool := isMark w || (jetType w == 2 && jetPower w != 0)

/-- The end point of a jet that starts at (x, y) (R357). -/
def jetEnd (w : List Nat) (x y : Int) : Int × Int := if jetType w = 2 then (x, y) else (jetX w, jetY w)

/-! ### Run-ups, corners and runs (R373–R375) -/

/-- Length of the segment from (x, y) to the jet's end. -/
def jetLength (w : List Nat) (x y : Int) : Nat := segLength (jetX w - x) (jetY w - y)

/-- The jet at (x, y) has a run-up (R373); a jet of no length has no direction (log 28). -/
def hasRunUp (hd : BHead) (pj : Bool) (w : List Nat) (x y : Int) : Bool :=
  pj && isMark w && hw hd 16 != 0 && !jetFlag w 1 && jetLength w x y != 0

/-- Where the head must stand before the jet: its run-up start, or its start point. -/
def approach (hd : BHead) (pj : Bool) (w : List Nat) (x y : Int) : Int × Int :=
  if hasRunUp hd pj w x y then runUpStart x y (jetX w - x) (jetY w - y) (jetLength w x y) (hw hd 16) else (x, y)

/-- A corner hold follows the first of two jets with directions (dx, dy) and (ex, ey) (R374). -/
def cornerHold (s : State) (hd : BHead) (w : List Nat) (dx dy : Int) (w2 : List Nat) (ex ey : Int) : Bool :=
  isMark w && isMark w2 && hw hd 15 != 0 && !jetFlag w2 2 && turnsMore dx dy ex ey (keyU s 0x0A01 0 2)

/-- The gate stays open from the jet at (x, y) to the next one (R375). -/
def runGoesOn (s : State) (hd : BHead) (w : List Nat) (x y : Int) (w2 : List Nat) : Bool :=
  let e := jetEnd w x y
  let f := jetEnd w2 e.1 e.2
  isLasing w && isLasing w2 && !jetFlag w2 3 && !anchored w2 &&
    !cornerHold s hd w (e.1 - x) (e.2 - y) w2 (f.1 - e.1) (f.2 - e.2)

/-- The jets of the run that begins the list; `none` where the queue does not hold it whole (R380). -/
def scanRun (s : State) (hd : BHead) (count : Nat) : List (Nat × List Nat) → Int → Int → Option (List (Nat × List Nat))
  | [], _, _ => none
  | (k, w) :: r, x, y =>
    if k + 1 = count then some [(k, w)] else
    match r with
    | [] => none
    | (_, w2) :: _ =>
      let e := jetEnd w x y
      if runGoesOn s hd w x y w2 then (scanRun s hd count r e.1 e.2).map ((k, w) :: ·) else some [(k, w)]

/-- Jets of the queue from the head's next one. -/
def queueFrom (b : BList) : List (Nat × List Nat) := b.queue.filter fun p => decide (b.next ≤ p.1)

/-- The head's next unit: a run, or one jet that does not lase; `none` where it is not scheduled. A JUMP needs the
jet behind it for its end point (DEDUCED, log 29). -/
def nextUnit (s : State) (hd : BHead) (b : BList) : Option (List (Nat × List Nat)) :=
  match queueFrom b with
  | [] => none
  | (k, w) :: r =>
    if isLasing w then scanRun s hd b.count ((k, w) :: r) b.px b.py
    else if jetType w = 0 ∧ k + 1 < b.count ∧ r.isEmpty then none
    else some [(k, w)]

/-! ### Spans (R369–R373) -/

/-- A point of the plan: time, the list's point and focus, whether a jump reaches it, and where the head stands. -/
structure PlanAt where
  t : Int
  px : Int
  py : Int
  pz : Int
  pj : Bool
  bx : Int
  bby : Int

/-- The span of a jet, with the jet behind it (R372). -/
def planSpan (s : State) (hd : BHead) (p : PlanAt) (k : Nat) (w : List Nat) (next : Option (List Nat)) (last : Bool) : Span × PlanAt :=
  match jetType w with
  | 0 =>
    let e := match next with
      | some n => approach hd true n (jetX w) (jetY w)
      | none => (jetX w, jetY w)
    let m := p.t + jumpTicks (segLength (e.1 - p.bx) (e.2 - p.bby)) (hw hd 7) (hw hd 8) (hw hd 9)
    ({ ix := k, w := w, start := p.t, motion := p.t, motionEnd := m, stop := m + hw hd 14, px := p.px, py := p.py, pz := p.pz, pj := p.pj
       ax := p.bx, ay := p.bby, ex := e.1, ey := e.2, z1 := jetZ w },
      { t := m + hw hd 14, px := jetX w, py := jetY w, pz := jetZ w, pj := true, bx := e.1, bby := e.2 })
  | 2 =>
    let e := p.t + jetSpeed w * 100
    ({ ix := k, w := w, start := p.t, motion := p.t, motionEnd := e, stop := e, px := p.px, py := p.py, pz := p.pz, pj := p.pj
       ax := p.bx, ay := p.bby, ex := p.bx, ey := p.bby, z1 := jetZ w },
      { p with t := e, pz := jetZ w, pj := false })
  | _ =>
    let a := approach hd p.pj w p.px p.py
    let m := if hasRunUp hd p.pj w p.px p.py then p.t + markTicks (hw hd 16) (jetSpeed w) else p.t
    let e := m + markTicks (jetLength w p.px p.py) (jetSpeed w)
    let corner := match next with
      | some n =>
        let f := jetEnd n (jetX w) (jetY w)
        cornerHold s hd w (jetX w - p.px) (jetY w - p.py) n (f.1 - jetX w) (f.2 - jetY w)
      | none => false
    let stop := if last then e + (if corner then hw hd 15 else hw hd 13) else e
    ({ ix := k, w := w, start := p.t, motion := m, motionEnd := e, stop := stop, px := p.px, py := p.py, pz := p.pz, pj := p.pj
       ax := a.1, ay := a.2, ex := jetX w, ey := jetY w, z1 := jetZ w },
      { t := stop, px := jetX w, py := jetY w, pz := jetZ w, pj := false, bx := jetX w, bby := jetY w })

/-- The spans of a unit in turn; `after` is the jet behind the unit. -/
def planSpans (s : State) (hd : BHead) (after : Option (List Nat)) : PlanAt → List (Nat × List Nat) → List Span
  | _, [] => []
  | p, (k, w) :: r =>
    let n := match r with
      | [] => after
      | (_, w2) :: _ => some w2
    let q := planSpan s hd p k w n r.isEmpty
    q.1 :: planSpans s hd after q.2 r

/-- Where the plan of the head's next unit begins. -/
def planStart (hd : BHead) (b : BList) (t : Int) : PlanAt :=
  { t := t, px := b.px, py := b.py, pz := b.pz, pj := b.pj, bx := hd.bx, bby := hd.bby }

/-- The gate-open interval of a unit's spans (R375). -/
def gateOf (hd : BHead) (l : List Span) : Option (Int × Int) :=
  match l, l.getLast? with
  | a :: _, some z =>
    if isLasing a.w then
      some (if isMark a.w then a.motion + hw hd 11 else a.start, if isMark z.w then z.motionEnd + hw hd 12 else z.stop)
    else none
  | _, _ => none

/-- The state of the list and the head when the span of their plan ends; used to plan the unit behind it. -/
def afterSpan (hd : BHead) (b : BList) (sp : Span) : BHead × BList :=
  let e := jetEnd sp.w sp.px sp.py
  ({ hd with bx := sp.ex, bby := sp.ey, fz := sp.z1 },
    { b with next := sp.ix + 1, px := e.1, py := e.2, pz := sp.z1, pj := jetType sp.w == 0 })

/-- The head and list as they will stand at the end of the unit in progress. -/
def afterUnit (hd : BHead) (b : BList) : BHead × BList :=
  match b.span with
  | some sp => (b.rest.getLast?.map (afterSpan hd b)).getD (afterSpan hd b sp)
  | none => (hd, b)

/-- When the unit in progress ends; where it has ended, the boundary. -/
def unitEnd (b : BList) : Int :=
  match b.span with
  | some sp => (b.rest.getLast?.map (·.stop)).getD sp.stop
  | none => b.at_

/-- The bed point and focus of a span at a time (R369–R373). -/
def spanPoint (hd : BHead) (sp : Span) (t : Int) : Int × Int × Int :=
  match jetType sp.w with
  | 0 =>
    let q := jumpFrac (segLength (sp.ex - sp.ax) (sp.ey - sp.ay)) (hw hd 7) (hw hd 8) (hw hd 9) (t - sp.motion)
    (lerpFrac sp.ax sp.ex q, lerpFrac sp.ay sp.ey q, lerpFrac sp.pz sp.z1 q)
  | 2 => (sp.ax, sp.ay, sp.z1)
  | _ =>
    if t < sp.motion then
      (lerp sp.ax sp.px (t - sp.start) (sp.motion - sp.start), lerp sp.ay sp.py (t - sp.start) (sp.motion - sp.start), sp.pz)
    else
      let tau := t - sp.motion
      let d := sp.motionEnd - sp.motion
      (lerp sp.px sp.ex tau d, lerp sp.py sp.ey tau d, lerp sp.pz sp.z1 tau d)

/-- The bed point of a run at a time: that of its first span not yet ended, else of its last. -/
def runPoint (hd : BHead) : List Span → Int → Option (Int × Int)
  | [], _ => none
  | sp :: r, t =>
    if t < sp.stop ∨ r.isEmpty then
      let p := spanPoint hd sp t
      some (p.1, p.2.1)
    else runPoint hd r t

/-! ### Queues and validation (R377–R379, R381) -/

/-- A jet record in DRAM. -/
def readJet (s : State) (addr : Nat) : List Nat := (List.range 8).map fun i => rdLe s (addr + 4 * i) 4

/-- A point lies in the head window (R363). -/
def inWindow (hd : BHead) (x y : Int) : Bool :=
  let n : Int := 64 * hw hd 3
  decide (hwS hd 1 ≤ x) && decide (x ≤ hwS hd 1 + n) && decide (hwS hd 2 ≤ y) && decide (y ≤ hwS hd 2 + n)

/-- The jets of a stitch pair meet R381; each is identifier, head, start, end, anchor, T. -/
def pairMeets (a b : List Int) : Bool :=
  let lead := if a.getD 6 0 ≤ b.getD 6 0 then a else b
  let trail := if a.getD 6 0 ≤ b.getD 6 0 then b else a
  trail.getD 2 0 == lead.getD 4 0 && trail.getD 3 0 == lead.getD 5 0 && trail.getD 6 0 == lead.getD 6 0 + lead.getD 7 0

/-- A STITCH enters: alone, or closing its pair; a third jet of one identifier, or two on one head, break it (log 29). -/
def stitchOk (s : State) (me : List Int) : Bool :=
  let id := me.getD 0 0
  match s.bed.build.pairs.filter fun p => p.getD 0 0 == id with
  | [] => true
  | [o] => o.getD 1 0 != me.getD 1 0 && (s.bed.build.relaxed.contains id.toNat || pairMeets o me)
  | _ => false

/-- The reason for which jet `k` is invalid, 0 for none (R378); `run` is the length of its run with it. -/
def jetReason (s : State) (h : Nat) (hd : BHead) (b : BList) (k run : Nat) (w : List Nat) : Nat :=
  let e := jetEnd w b.vx b.vy
  let a := approach hd (!b.vPrev.isEmpty && jetType b.vPrev == 0) w b.vx b.vy
  let speedOk := decide (0 < jetSpeed w) && decide (jetSpeed w ≤ hw hd 6)
  let t := if isMark w then markTicks (jetLength w b.vx b.vy) (jetSpeed w) else jetSpeed w * 100
  if jetHead w ≠ h then 1
  else if inWindow hd e.1 e.2 = false ∨ inWindow hd a.1 a.2 = false then 2
  else if isMark w ∧ speedOk = false then 3
  else if jetType w ≠ 0 ∧ t < 20000 then 4
  else if k = 0 ∧ jetType w ≠ 0 then 5
  else if anchored w ∧ jetAnchor w < b.vAnchor.getD 0 then 6
  else if jetType w = 3 ∧ (anchored w = false ∨ jetStitch w = 0 ∨
      stitchOk s [jetStitch w, h, b.vx, b.vy, e.1, e.2, jetAnchor w, t] = false) then 7
  else if 2048 < run then 8
  else 0

/-- Jet `k` enters the queue and is checked; JET_INVALID (R378, R379). -/
def enterJet (s : State) (h k : Nat) (w : List Nat) : State :=
  let hd := bhead s h
  let b := blist s h
  let e := jetEnd w b.vx b.vy
  let goesOn := !b.vPrev.isEmpty && isLasing b.vPrev && isLasing w && !jetFlag w 3 && !anchored w &&
    !cornerHold s hd b.vPrev b.vdx b.vdy w (e.1 - b.vx) (e.2 - b.vy)
  let run := if goesOn then b.vRun + 1 else 1
  let first := if goesOn then b.vRunFirst else k
  let r := jetReason s h hd b k run w
  let t := markTicks (jetLength w b.vx b.vy) (jetSpeed w)
  let b1 := { b with
    queue := b.queue ++ [(k, w)], fetched := k + 1, vx := e.1, vy := e.2, vdx := e.1 - b.vx, vdy := e.2 - b.vy, vPrev := w
    vRun := if isLasing w then run else 0, vRunFirst := first
    vAnchor := if anchored w then some (jetAnchor w) else b.vAnchor, bad := if r = 0 then b.bad else some (first, k) }
  let s1 := setList s h b1
  let s2 := if jetType w = 3 ∧ r = 0 then
      { s1 with bed.build.pairs := s1.bed.build.pairs ++ [[(jetStitch w : Int), h, b.vx, b.vy, e.1, e.2, jetAnchor w, t]] }
    else s1
  if r = 0 then s2 else raise s2 0x0A08 (args [(4, h), (4, k), (4, r)])

/-- Read the next `n` jets of a head's list into its queue, up to an invalid one. -/
def fillQueue (s : State) (h n : Nat) : State :=
  (List.range n).foldl (fun t _ =>
    let b := blist t h
    if b.bad.isSome ∨ b.count ≤ b.fetched then t
    else enterJet t h b.fetched (readJet t (b.addr + 32 * b.fetched))) s

end Sys2Proof.Machine
end

