-- ==== Sys2Proof/Machine/Weir.lean ====
section
/-! DEFINITION. The Weir, a ramp limiter (12_loops R454–R457). -/

namespace Sys2Proof.Machine

/-- RISE, FALL and ACCEL of an entry (R454). -/
structure WeirPar where
  rise : Nat
  fall : Nat
  accel : Nat

/-- Output w of a Weir (R456). -/
def weirOut (x : Weir) : Int := (x.y + 2 ^ 31) / 2 ^ 32

/-- A Weir set to a value with slope 0 (R455). -/
def weirSet (v : Int) : Weir := { y := v * 2 ^ 32, v := 0, t := v * 2 ^ 32, ae := 0, arrived := false, raised := false }

/-- A new target (R456): the Weir, and 1 where the braking exceeds ACCEL or stops at once. -/
def weirTarget (x : Weir) (p : WeirPar) (target : Int) : Weir × Nat :=
  let t := target * 2 ^ 32
  if t = x.t then (x, 0) else
  let d := t - x.y
  let x1 := { x with t := t, ae := 0, arrived := false, raised := false }
  if p.accel = 0 ∨ x.v = 0 then (x1, 0)
  else if d = 0 then ({ x1 with v := 0 }, 1)
  else if decide (0 < x.v) == decide (0 < d) then
    let need := cdiv (x.v.natAbs * x.v.natAbs * 65536) (2 * d.natAbs)
    if p.accel < need then ({ x1 with ae := need }, 1) else (x1, 0)
  else (x1, 0)

/-- The value and slope after `n` ticks, before the arrival test (R456). -/
def weirMove (x : Weir) (p : WeirPar) (n : Nat) : Int × Int :=
  let d := x.t - x.y
  let lim : Int := if 0 < d then p.rise else p.fall
  if p.accel = 0 then
    let s := if lim = 0 then d else clampI (-(lim * n)) (lim * n) d
    (x.y + s, if n = 0 then x.v else Int.tdiv s n)
  else
    let ae : Int := if x.ae = 0 then p.accel else x.ae
    let vb0 : Int := isqrt ((2 * ae * d.natAbs) / 65536).toNat
    let vb := if lim = 0 then vb0 else min vb0 lim
    let dv := ae * n / 65536
    let v := clampI (x.v - dv) (x.v + dv) (if 0 < d then vb else -vb)
    (x.y + v * n, v)

/-- A step of `n` ticks (R456): the value never passes its target. -/
def weirStep (x : Weir) (p : WeirPar) (n : Nat) : Weir :=
  let d := x.t - x.y
  if d = 0 ∧ x.v = 0 then { x with arrived := true, ae := 0 } else
  let m := weirMove x p n
  if m.1 = x.t ∨ decide (0 < x.t - m.1) ≠ decide (0 < d) then { x with y := x.t, v := 0, arrived := true, ae := 0 }
  else { x with y := m.1, v := m.2 }

end Sys2Proof.Machine
end

