-- ==== Sys2Proof/Machine/LoopOps.lean ====
section
/-! DEFINITION. Loop slots: definitions, the update, open loop and saturation (12_loops R442–R472). -/

namespace Sys2Proof.Machine

/-! ### Slots and their definitions -/

/-- The slot exists in the role (R442). -/
def slotExists (s : State) (k : Nat) : Bool :=
  match s.sys.role with
  | .tile => decide (k < 12)
  | .bed => decide (k < 28) && !(k == 15 && peerLane s)
  | _ => false

/-- Kind of a slot: 0 headroom, 1 head, 2 string (R442). -/
def slotKind (s : State) (k : Nat) : Nat := if s.sys.role = .tile then 0 else if k < 16 then 1 else 2

def loopSlot (s : State) (k : Nat) : LoopSlot := tabGet LoopSlot.cold s.loops.slots k
def setLoop (s : State) (k : Nat) (l : LoopSlot) : State := { s with loops.slots := tabSet LoopSlot.cold s.loops.slots k l }

/-- The definition that a slot holds until LOOP_DEFINE, as its 8 words (R467, R469). -/
def loopDefault (kind : Nat) : List Nat :=
  match kind with
  | 0 => [3 * 4096 + 1, 0x100, 0xFFFF0000, 4095 * 65536, 0, 10000000, 16 * 256, 2048]
  | 1 => [6 * 4096, 0, 0xFFFF0000, 8192 * 65536 + 0xE000, 0, 2048000, 64 * 65536 + 16 * 256, 2048]
  | _ => [4 * 4096, 0x1000, 4095 * 65536, 512 * 65536 + 0xFE00, 0x8000 * 65536, 10000000, 256 * 65536 + 16 * 256, 0]

/-- Word `i` of a slot's definition, and its fields (R467). -/
def loopWord (s : State) (k i : Nat) : Nat := ((loopSlot s k).defn.getD (loopDefault (slotKind s k))).getD i 0
def loopSource (s : State) (k : Nat) : Nat := bits (loopWord s k 0) 18 2
def loopInvert (s : State) (k : Nat) : Bool := bit (loopWord s k 0) 17
def loopShift (s : State) (k : Nat) : Nat := bits (loopWord s k 0) 12 4
def loopWeirIx (s : State) (k : Nat) : Nat := loopWord s k 0 % 256
def loopKi (s : State) (k : Nat) : Int := sgn 32 (loopWord s k 1)
def loopOutMax (s : State) (k : Nat) : Nat := loopWord s k 2 / 65536
def loopOutMin (s : State) (k : Nat) : Nat := loopWord s k 2 % 65536
def loopIMax (s : State) (k : Nat) : Int := sgn 16 (loopWord s k 3 / 65536)
def loopIMin (s : State) (k : Nat) : Int := sgn 16 (loopWord s k 3)
def loopKff (s : State) (k : Nat) : Nat := loopWord s k 4 / 65536
def loopFfOfs (s : State) (k : Nat) : Int := sgn 16 (loopWord s k 4)
def loopTSat (s : State) (k : Nat) : Nat := loopWord s k 5
def loopFreezeN (s : State) (k : Nat) : Nat := loopWord s k 6 / 65536
def loopRecoverN (s : State) (k : Nat) : Nat := bits (loopWord s k 6) 8 8
def gateSettle (s : State) (k : Nat) : Nat := loopWord s k 7 % 65536

/-- The value in every entry of a slot's gain table until LOOP_LUT_LOAD (R469). -/
def gainDefault (kind : Nat) : Int := match kind with | 0 => 0x4000 | 1 => 0 | _ => 0x8000

/-- A slot's active and staged gain table. -/
def gainTable (s : State) (k : Nat) : List Int := (loopSlot s k).gain.getD (List.replicate 64 (gainDefault (slotKind s k)))
def stagedTable (s : State) (k : Nat) : List Int := (loopSlot s k).staged.getD (gainTable s k)

/-- The map in force enables the slot (R469). -/
def mapEnables (s : State) (k : Nat) : Bool :=
  match slotKind s k with
  | 0 => bit (keyU s 0x0501 k 1) 7
  | 1 => false
  | _ => bit (keyU s 0x0B10 (k - 16) 1) 7

/-- The slot is enabled (R469, R471). -/
def slotEnabled (s : State) (k : Nat) : Bool := slotExists s k && ((loopSlot s k).en.getD (mapEnables s k))

/-- An entry of WEIR_TABLE (R454). -/
def weirPar (s : State) (ix : Nat) : WeirPar :=
  { rise := keyU s 0x0C01 (12 * ix) 4, fall := keyU s 0x0C01 (12 * ix + 4) 4, accel := keyU s 0x0C01 (12 * ix + 8) 4 }

/-! ### The update (R444) -/

/-- What an update is given: Δ, the normal target of the set-point Weir, the power Weir's output, the output limits,
the sample where it is fresh, a no-demand report, whether the frame qualifies, and the output that a first
headroom update must give. -/
structure LoopIn where
  delta : Nat
  target : Int
  headFf : Int
  lo : Int
  hi : Int
  x : Option Int
  noDemand : Bool
  qualified : Bool
  first : Option Int

/-- Commands that wait for the update take effect: a committed table, LOOP_ENABLE (R446, R470, R471). Enabling clears
the open-loop, freeze and saturation states and sets the Weir to its target. -/
def loopApply (s : State) (k : Nat) (target : Int) : State :=
  let l := loopSlot s k
  let l1 := if l.commit then { l with gain := some (stagedTable s k), commit := false } else l
  let l2 := match l1.want with
    | some w => { l1 with en := some w, want := none }
    | none => l1
  let on := l2.en.getD (mapEnables s k)
  let l3 := if on && !l2.on then
      { l2 with
        weir := weirSet target, seed := some l2.out, opened := 0, openTicks := 0, lost := false, freshRun := 0, last := []
        satTicks := 0, satDone := false, inSat := false }
    else l2
  setLoop s k { l3 with on := on, updates := l3.updates + 1 }

/-- The set-point Weir's step, WEIR_HARD_BRAKE and WEIR_ARRIVED (R456, R457). -/
def loopWeir (s : State) (k : Nat) (target : Int) (n : Nat) : State :=
  let l := loopSlot s k
  let p := weirPar s (loopWeirIx s k)
  let r := weirTarget l.weir p target
  let w := weirStep r.1 p n
  let s1 := if r.2 = 0 then s else bump s 0x0C k 6
  let s2 := setLoop s1 k { l with weir := { w with raised := w.raised || w.arrived } }
  if w.arrived && !w.raised && (bit (keyU s 0x0C03 0 4) k || (l.over_.isSome && l.notify)) then
    raiseQuiet s2 0x0C03 (args [(4, k), (4, uns 32 target)])
  else s2

/-- FF of a slot from its Weir's output (R445). -/
def loopFf (s : State) (k : Nat) (w headFf : Int) : Int :=
  match slotKind s k with
  | 0 => 0
  | 1 => headFf
  | _ => (loopKff s k : Int) * w / 2 ^ 15 + loopFfOfs s k

/-- Whole µs of a running tick count, and the rest. -/
def countUs (s : State) (k ix rem n : Nat) : State × Nat :=
  let t := rem + n
  (if t / usTicks = 0 then s else bumpN s 0x0C k ix (t / usTicks), t % usTicks)

/-- The values an update puts on the trace nodes (R474): a node with no value this time is free. -/
structure LoopNodes where
  x : Option Int
  e : Option Int
  g : Option Int
  p : Option Int
  clamped : Bool
  stale : Bool
  frozen : Bool
  qualified : Bool

/-- No law was run. -/
def noNodes (i : LoopIn) : LoopNodes :=
  { x := i.x, e := none, g := none, p := none, clamped := false, stale := false, frozen := false, qualified := i.qualified }

/-- The status node of R474. -/
def statusNode (s : State) (k : Nat) (n : LoopNodes) : Int :=
  let l := loopSlot s k
  (flag n.clamped 0 + flag (l.opened != 0) 1 + flag (capoHeld s 1 k) 2 + flag n.stale 3 + flag n.frozen 4 + flag (fenced s 7 k) 5 +
    flag l.weir.arrived 6 + flag (!n.qualified) 7 + l.updates % 65536 * 65536 : Nat)

/-- The update ends with its output: what R453 holds, the µs counters, the trace (R474, R479). -/
def loopEnd (s : State) (k : Nat) (i : LoopIn) (ff out : Int) (n : LoopNodes) : State :=
  let l := loopSlot s k
  let a := if l.opened = 0 then (s, l.openRem) else countUs s k 3 l.openRem i.delta
  let b := if n.clamped then countUs a.1 k 4 l.clampRem i.delta else (a.1, l.clampRem)
  let held := if capoHeld s 1 k then l.held else out - ff
  let s1 := setLoop b.1 k { l with out := out, held := held, openRem := a.2, clampRem := b.2, lastAt := s.time.loc }
  let idle := fun j => Config.traceIdle s1.sys.free j
  traceUpdate (nextFree s1) k fun j => match j with
    | 0 => n.x.getD (idle 0)
    | 1 => weirOut l.weir
    | 2 => n.e.getD (idle 2)
    | 3 => n.g.getD (idle 3)
    | 4 => n.p.getD (idle 4)
    | 5 => l.integ / 65536
    | 6 => ff
    | 7 => out
    | _ => statusNode s1 k n

/-- The feedback is frozen: the last FREEZE_N fresh samples all lie within 1 of the first of them (R449). -/
def feedbackFrozen (n : Nat) (last : List Int) : Bool :=
  n != 0 && last.length == n && last.all fun v => decide ((v - last.headD 0).natAbs ≤ 1)

/-- The slot enters open loop (R450): LOOP_OPEN. -/
def openLoop (s : State) (k : Nat) (cause : Nat) : State :=
  let l := loopSlot s k
  let s1 := setLoop s k { l with opened := cause, openAt := s.time.loc, openTicks := 0, lost := false, freshRun := 0 }
  traceTrigger (raise (if cause = 2 then bump s1 0x0C k 2 else s1) 0x0C01 (args [(4, k), (4, cause)])) 3 k

/-- The feedback check (R448–R450): sets or clears open loop. -/
def feedbackCheck (s : State) (k : Nat) (x : Option Int) : State × Bool :=
  let l := loopSlot s k
  let n := loopFreezeN s k
  match x with
  | none =>
    let s1 := setLoop (bump s 0x0C k 1) k { l with freshRun := 0 }
    (if l.opened = 0 then openLoop s1 k 1 else s1, false)
  | some v =>
    let last := lastN n (l.last ++ [v])
    let fr := feedbackFrozen n last
    let s1 := setLoop s k { l with last := last, freshRun := if fr then 0 else l.freshRun + 1 }
    if l.opened = 0 then (if fr then openLoop s1 k 2 else s1, fr)
    else if !fr && decide (loopRecoverN s k ≤ l.freshRun + 1) then
      (raise (setLoop s1 k { loopSlot s1 k with opened := 0 }) 0x0C02
        (args [(4, k), (4, (s.time.loc - l.openAt) / usTicks)]), fr)
    else (s1, fr)

/-- An update in open loop: the loss timer, LOOP_FEEDBACK_LOST and a BED's pause (R451). -/
def openTick (s : State) (k n : Nat) : State :=
  let l := loopSlot s k
  let t := l.openTicks + n
  let s1 := setLoop s k { l with openTicks := t }
  if keyU s 0x0C00 0 4 ≤ t ∧ l.lost = false then
    let s2 := fire (setLoop s1 k { loopSlot s1 k with lost := true }) 28 k l.opened
    if s.sys.role = .bed then pauseBuild s2 4 else s2
  else s1

/-- G at an error (R444): interpolation in the active table, then GAIN_SCALE. -/
def loopGain (t : List Int) (sh : Nat) (scale : Nat) (e : Int) : Int :=
  let u := clampI (-(32 * 2 ^ sh)) (31 * 2 ^ sh) e + 32 * 2 ^ sh
  let i := min (u / 2 ^ sh) 62
  let f := u - i * 2 ^ sh
  let a := t.getD i.toNat 0
  let g := a + (t.getD (i.toNat + 1) 0 - a) * f / 2 ^ sh
  g * scale / 4096

/-- The saturation episode (R447): LOOP_SAT once per episode. -/
def loopSat (s : State) (k n : Nat) (clamped : Bool) : State :=
  let l := loopSlot s k
  if !clamped then setLoop s k { l with inSat := false, satTicks := 0, satDone := false }
  else
    let t := l.satTicks + n
    let hit := decide (loopTSat s k ≤ t) && !l.satDone
    let s1 := setLoop s k { l with inSat := true, satTicks := t, satDone := l.satDone || hit }
    let s2 := if l.inSat then s1 else traceTrigger s1 4 k
    if hit then fire s2 27 k 0 else s2

/-- The control law (R444), or its first update after enabling, which takes no integrator step (R466, R471). -/
def loopLaw (s : State) (k : Nat) (i : LoopIn) (w ff x : Int) (frozen : Bool) : State :=
  let l := loopSlot s k
  let e := if loopInvert s k then x - w else w - x
  let g := loopGain (gainTable s k) (loopShift s k) (if slotKind s k = 1 then l.gainScale else 0x1000) e
  let p := g * e / 65536
  let lo := loopIMin s k * 65536
  let hi := loopIMax s k * 65536
  let integ := match l.seed with
    | some r => clampI lo hi ((r - ff - p) * 65536)
    | none =>
      let n := clampI lo hi (l.integ + loopKi s k * e)
      let v := ff + p + n / 65536
      if (i.hi < v ∧ l.integ < n) ∨ (v < i.lo ∧ n < l.integ) then l.integ else n
  let v := ff + p + integ / 65536
  let out := clampI i.lo i.hi v
  let s1 := setLoop (bump s 0x0C k 0) k { l with integ := integ, seed := none }
  loopEnd (loopSat s1 k i.delta (out != v)) k i ff out
    { x := some x, e := some e, g := some g, p := some p, clamped := out != v, stale := false, frozen := frozen, qualified := i.qualified }

/-- One update of slot `k` (R444): commands, the Weir, then the case that holds. -/
def loopUpdate (s : State) (k : Nat) (i : LoopIn) : State :=
  let target := (loopSlot s k).over_.getD i.target
  let s1 := loopWeir (loopApply s k target) k target i.delta
  let s2 := match i.first with
    | some r => setLoop s1 k { loopSlot s1 k with seed := some r }
    | none => s1
  let l := loopSlot s2 k
  let w := weirOut l.weir
  let ff := loopFf s2 k w i.headFf
  let kind := slotKind s2 k
  let fallback := if kind = 0 then l.out else ff
  if fenced s2 7 k || !l.on then
    loopEnd (setLoop s2 k { l with opened := 0, openTicks := 0, lost := false, freshRun := 0 }) k i ff fallback (noNodes i)
  else if capoHeld s2 1 k then loopEnd s2 k i ff (clampI i.lo i.hi (ff + l.held)) (noNodes i)
  else if kind = 1 ∧ (l.profOn = false ∨ i.qualified = false) then
    -- An update that runs no law is the first one after enabling too (DEDUCED, log 30).
    let integ := match l.seed with
      | some r => clampI (loopIMin s2 k * 65536) (loopIMax s2 k * 65536) ((r - ff) * 65536)
      | none => l.integ
    let s3 := setLoop s2 k { l with integ := integ, seed := none }
    loopEnd s3 k i ff (if l.profOn then clampI i.lo i.hi (ff + integ / 65536) else ff) (noNodes i)
  else if i.noDemand then
    match l.seed with
    | some r => loopEnd (setLoop s2 k { l with integ := r * 65536, seed := none }) k i ff r (noNodes i)
    | none => loopEnd s2 k i ff l.out (noNodes i)
  else
    let c := feedbackCheck s2 k i.x
    if (loopSlot c.1 k).opened ≠ 0 then
      loopEnd (openTick c.1 k i.delta) k i ff fallback { noNodes i with stale := i.x.isNone, frozen := c.2 }
    else match i.x with
      | some x => loopLaw c.1 k i w ff x c.2
      | none => loopEnd c.1 k i ff fallback (noNodes i)

end Sys2Proof.Machine
end

