-- ==== Sys2Proof/Machine/Jets.lean ====
section
/-! DEFINITION. Heads on their jet lists: boundaries, decisions of runs, holds, the plume guard, queues and
summaries (10_jets_motion R375–R397). -/

namespace Sys2Proof.Machine

/-! ### PROCESS time of the plan -/

/-- PROCESS time at a time of the build, also ahead of a start tick (R362). -/
def planProcess (s : State) (t : Int) : Int :=
  match s.bed.build.startAt with
  | some st => (if s.bed.build.begun then (s.time.process : Int) else 0) + (t - st)
  | none => processAt s t

/-- The time of the build at which PROCESS time will be `p`. -/
def planAtProcess (s : State) (p : Int) : Int :=
  match s.bed.build.startAt with
  | some st => st + (p - (if s.bed.build.begun then (s.time.process : Int) else 0))
  | none => atProcess s p

/-! ### Beginning and ending spans -/

/-- A span begins (R372): jump motions are kept for the following error; the trace may trigger (12 R474). -/
def beginSpan (s : State) (h : Nat) (sp : Span) : State :=
  let hd := bhead s h
  let s1 := setHead s h { hd with
    taken := none, jumps := if jetType sp.w = 0 then ((sp.motion, sp.motionEnd) :: hd.jumps).take 16 else hd.jumps }
  traceTrigger (setList s1 h { blist s1 h with span := some sp }) 5 (h * 2 ^ 28 + sp.ix)

/-- The gate edges of a run join those of the head (R375). -/
def sendEdges (s : State) (h : Nat) (r : Run) : State :=
  match r.gate with
  | some g => setHead s h { bhead s h with edges := (bhead s h).edges ++ [(g.1, true), (g.2, false)] }
  | none => s

/-- A decided unit begins. -/
def beginRun (s : State) (h : Nat) (r : Run) : State :=
  match r.spans with
  | [] => s
  | sp :: rest =>
    let b := blist s h
    let s1 := if b.commit then s else sendEdges s h r
    beginSpan (setList s1 h { b with
      rest := rest, run := if r.gate.isSome then some r else none, runNext := none, commit := false, planned := none, hold := 0, flags := 0
      throttled := false, sFlags := r.flags, sHold := r.hold
      lastOpen := match r.gate with | some g => (g.2 - g.1).toNat | none => b.lastOpen }) h sp

/-- A span ends: its jet is done, its summary follows (R396). -/
def endSpan (s : State) (h : Nat) (sp : Span) : State :=
  let p := afterSpan (bhead s h) (blist s h) sp
  let b := queueSummary s h p.2 sp sp.stop false
  setList (setHead (bump s 0x0A h 0) h p.1) h
    { b with queue := b.queue.filter (fun q => decide (sp.ix < q.1)), span := none, pauseAfter := b.pauseAfter || jetFlag sp.w 4 }

/-- A bed move of a head from where it stands: a return jump or the jump to park (R389, R392). -/
def startMove (s : State) (h : Nat) (t x y z : Int) : State :=
  let hd := bhead s h
  let d := jumpTicks (segLength (x - hd.bx) (y - hd.bby)) (hw hd 7) (hw hd 8) (hw hd 9)
  let m : Move := { headCoord := false, start := t, dur := d, x0 := hd.bx, y0 := hd.bby, z0 := hd.fz, x1 := x, y1 := y, z1 := z }
  setHead s h { hd with move := some m, bx := x, bby := y, fz := z, jumps := ((t, t + d) :: hd.jumps).take 16 }

/-- The jump to the park position. -/
def toPark (s : State) (h : Nat) (t : Int) : State :=
  let hd := bhead s h
  setList (startMove s h t (hwS hd 4) (hwS hd 5) hd.fz) h { blist s h with park := false, pj := true }

/-- The head has stopped at its boundary (R376, R388). -/
def stopHead (s : State) (h : Nat) : State :=
  let b := blist s h
  let s1 := setList { s with bed.build.stopAt := max s.bed.build.stopAt b.at_ } h
    { b with stopped := true, starving := false, runNext := none, planned := none, throttled := false, hold := 0, flags := 0 }
  if b.park then toPark s1 h b.at_ else s1

/-! ### At a gate-closed boundary (R376, R379–R383) -/

/-- Ticks of the run-up that the next unit's first jet has. -/
def runUpTicks (hd : BHead) (b : BList) (w : List Nat) : Nat :=
  if hasRunUp hd b.pj w b.px b.py then markTicks (hw hd 16) (jetSpeed w) else 0

/-- The start that an anchored jet needs: anchor − run-up duration (R382). -/
def anchorStart (s : State) (hd : BHead) (b : BList) (w : List Nat) : Int :=
  planAtProcess s (jetAnchor w) - runUpTicks hd b w

/-- The unit waits for a decision: runs and anchored jets (R384). -/
def decides (w : List Nat) : Bool := isLasing w || anchored w

/-- ANCHOR_MISSED: the jet is not started and the layer pauses (R382). -/
def missAnchor (s : State) (h : Nat) (late : Int) : State :=
  let s1 := raise { s with bed.build.missed := true } 0x0A09 (args [(4, h), (4, (blist s h).next), (4, satU 0xFFFFFFFF late)])
  pauseBuild (setList s1 h { blist s1 h with runNext := none, commit := false }) 8

/-- A starvation hold begins: JET_STARVED once per hold (R380). -/
def starve (s : State) (h : Nat) : State :=
  let b := blist s h
  if b.starving then s
  else raise (bump (setList s h { b with starving := true }) 0x0A h 4) 0x0A0D (args [(4, h), (4, b.next)])

/-- The head's list is invalid from the run that begins at jet `k` or before (R379). -/
def badFrom (b : BList) (k : Nat) : Bool :=
  match b.bad with
  | some p => decide (p.1 ≤ k)
  | none => false

/-- When a decided unit begins. -/
def runStart (r : Run) (d : Int) : Int :=
  match r.spans with
  | sp :: _ => sp.start
  | [] => d

/-- What a head does that stands at its gate-closed boundary. -/
def standHead (s : State) (h : Nat) : State :=
  let hd := bhead s h
  let b := blist s h
  if b.stopped ∨ b.done then s
  else if b.count ≤ b.next then stopHead (setList s h { b with done := true }) h
  else if badFrom b b.next then stopHead s h
  else if s.bed.build.st = 5 ∧ b.bad.isNone ∧ b.commit = false then stopHead s h
  else match nextUnit s hd b with
    | none => starve s h
    | some jets =>
      let w := (jets.headD (0, [])).2
      if decides w = false then
        let spans := planSpans s hd ((queueFrom b).drop jets.length |>.head?.map (·.2)) (planStart hd b b.at_) jets
        beginRun s h { spans := spans, gate := none, flags := b.flags, hold := b.hold }
      else match b.runNext with
        | some r => if runStart r b.at_ ≤ buildNow s then beginRun s h r else s
        | none =>
          if anchored w ∧ b.relax = false ∧ anchorStart s hd b w < b.at_ then
            stopHead (missAnchor s h (b.at_ - anchorStart s hd b w)) h
          else s

/-- A pending d_h takes effect at the head's gate-closed boundary (12 R462). -/
def takeDelay (s : State) (h : Nat) : State :=
  let x := bhead s h
  match x.dPend with
  | some d => setHead s h { x with d := d, dPend := none }
  | none => s

/-- JET_BOUNDARY (R372, R376): the head's span has ended, or a hold at its boundary is over. -/
def jetBoundary (h : Nat) (s : State) : State :=
  let b := blist s h
  if s.sys.role ≠ .bed ∨ (s.bed.build.st ≠ 4 ∧ s.bed.build.st ≠ 5) ∨ (layerHeads s).contains h = false ∨ (bhead s h).frozen then s else
  match b.span with
  | none => standHead s h
  | some sp =>
    if buildNow s < sp.stop then s else
    let s1 := endSpan s h sp
    match b.rest with
    | sp2 :: r => beginSpan (setList s1 h { blist s1 h with rest := r }) h sp2
    | [] =>
      let s2 := pairProgress (takeDelay (setList s1 h { blist s1 h with at_ := sp.stop, run := none }) h) h (sp.ix + 1) s1.time.process
      let s3 := if (blist s2 h).pauseAfter then pauseBuild (setList s2 h { blist s2 h with pauseAfter := false, span := some sp }) 2 else s2
      standHead (setList s3 h { blist s3 h with span := none }) h

def execJetBoundary (h : Nat) (s : State) : Host.Outcome State Fault Refusal := live s (jetBoundary h)

/-- ANCHOR_WAIT_END (R382): a head that waits for its anchor starts its run. -/
def anchorWaitEnd (h : Nat) (s : State) : State :=
  match (blist s h).runNext with
  | some r => if bit r.flags 4 ∧ (blist s h).span.isNone then jetBoundary h s else s
  | none => s

def execAnchorWaitEnd (h : Nat) (s : State) : Host.Outcome State Fault Refusal := live s (anchorWaitEnd h)

/-! ### The plume guard (R384) -/

/-- Word `i` of PLUME_GUARD_SET. -/
def guardW (s : State) (i : Nat) : Nat := s.bed.build.guard.getD i 0

/-- Q lies in the plume band of P. -/
def inBand (s : State) (p q : Int × Int) : Bool :=
  let wx := q.1 - p.1
  let wy := q.2 - p.2
  let gx := flowX (guardW s 2 % 65536)
  let gy := flowY (guardW s 2 % 65536)
  let along := (wx * gx + wy * gy) / 2 ^ 15
  let across := ((wy * gx - wx * gy).natAbs : Int) / 2 ^ 15
  decide (0 < along) && decide (along ≤ (guardW s 3 : Int)) && decide (across ≤ (guardW s 4 : Int))

/-- Two emitting spots conflict. -/
def spotsConflict (s : State) (p q : Int × Int) : Bool :=
  let wx := q.1 - p.1
  let wy := q.2 - p.2
  decide (wx * wx + wy * wy < (guardW s 1 : Int) * guardW s 1) || inBand s p q || inBand s q p

/-- Two runs form one stitch pair. -/
def samePair (a b : Run) : Bool :=
  a.spans.any fun x => jetType x.w == 3 && b.spans.any fun y => jetType y.w == 3 && jetStitch x.w == jetStitch y.w

/-- Two runs conflict at some frame instant of the overlap of their gate-open intervals. -/
def runsConflict (s : State) (ha : Nat) (a : Run) (hb : Nat) (b : Run) : Bool :=
  match a.gate, b.gate with
  | some g, some k =>
    let lo := max g.1 k.1
    let hi := min g.2 k.2
    let f := frameAtOrAfter s lo
    !samePair a b && (List.range ((hi - f + 2047) / 2048).toNat).any fun i =>
      let t := f + 2048 * i
      match runPoint (bhead s ha) a.spans t, runPoint (bhead s hb) b.spans t with
      | some p, some q => spotsConflict s p q
      | _, _ => false
  | _, _ => false

/-- Scheduled runs of a head: the one in progress and the one decided. -/
def runsOf (s : State) (h : Nat) : List Run := (blist s h).run.toList ++ (blist s h).runNext.toList

/-- Close ticks of the runs of other heads that conflict with a candidate. -/
def conflictCloses (s : State) (h : Nat) (r : Run) : List Int :=
  if bit (guardW s 0) 31 = false then [] else
  ((layerHeads s).filter (· != h)).flatMap fun g =>
    ((runsOf s g).filter fun q => runsConflict s h r g q).filterMap fun q => q.gate.map (·.2)

/-! ### Decisions (R384, R385) -/

/-- The hold of the throttle fraction n/32 after a gate-open time (R385; 15 R580). -/
def throttleHold (n g : Nat) : Nat := cdiv (n * g) (32 - n)

/-- The head's next unit that waits for a decision, as it will stand when the unit in progress ends. -/
def candidate (s : State) (h : Nat) : Option (BHead × BList × List (Nat × List Nat)) :=
  let b := blist s h
  if (bhead s h).frozen ∨ b.stopped ∨ b.done ∨ b.runNext.isSome ∨ b.starving ∨ (s.bed.build.st = 5 ∧ b.bad.isNone) then none else
  let p := afterUnit (bhead s h) b
  if p.2.count ≤ p.2.next ∨ badFrom b p.2.next then none else
  match nextUnit s p.1 p.2 with
  | some jets =>
    let w := (jets.headD (0, [])).2
    let t := b.planned.getD (unitEnd b)
    if decides w && !(anchored w && !b.relax && decide (anchorStart s p.1 p.2 w < t)) then some (p.1, p.2, jets) else none
  | none => none

/-- A deferral (R384): counted, PLUME_GUARD once per layer; a deferred anchored run misses its anchor. -/
def deferRun (s : State) (h : Nat) (start new : Int) (ix : Nat) (anchor : Option Int) (hold : Nat) (flags : Nat) : State :=
  let s1 := bumpN (bump s 0x0A h 1) 0x0A h 2 (new - start).toNat
  let s2 := setList s1 h { blist s1 h with
    planned := some new, throttled := true, hold := hold + (new - start).toNat, flags := Nat.lor flags 2 }
  let s3 := if s.bed.build.plumeFired then s2 else fire { s2 with bed.build.plumeFired := true } 26 h ix
  match anchor with
  | some a => missAnchor s3 h (new - a)
  | none => s3

/-- The decision of a head's next run: throttle, anchor wait, plume check; the level it latches is a recorded input
(01 R40; 15 R581). -/
def decideRun (s0 : State) (h : Nat) (hd : BHead) (bn : BList) (jets : List (Nat × List Nat)) : State :=
  let s := capRec s0 7 (128 + h) 0 (leBytes 1 s0.th.level)
  let b := blist s h
  let w := (jets.headD (0, [])).2
  let t := b.planned.getD (unitEnd b)
  let th := if isLasing w && !anchored w && !b.throttled && b.lastOpen != 0 then throttleHold s.th.level b.lastOpen else 0
  let a := anchorStart s hd bn w
  let late := anchored w && decide (a < t)
  let start := if anchored w && !late then a else t + th
  let hold := b.hold + (start - t).toNat
  let flags := Nat.lor b.flags (flag (th != 0) 2 + flag (anchored w && decide (t < start)) 4 + flag late 5)
  let after := ((queueFrom bn).drop jets.length).head?.map (·.2)
  let spans := planSpans s hd after (planStart hd bn start) jets
  let r : Run := { spans := spans, gate := gateOf hd spans, flags := flags, hold := hold }
  let s1 := if th = 0 then s else bumpN s 0x0A h 3 th
  let s2 := if late then
      { setList s1 h { blist s1 h with relax := false } with bed.build.relaxed := s1.bed.build.relaxed ++ [jetStitch w] } else s1
  match (conflictCloses s2 h r).foldl (fun m c => match m with | none => some c | some x => some (min x c)) none with
  | some c => deferRun s2 h start c (jets.headD (0, [])).1 (if anchored w then some a else none) hold flags
  | none => setList s2 h { blist s2 h with runNext := some r, planned := some start, throttled := true, hold := hold, flags := flags }

/-- The head of the earliest planned start among those that wait for a decision; a tie goes to the lower head. -/
def firstCandidate (s : State) : Option (Int × Nat) :=
  ((layerHeads s).filter fun h => (candidate s h).isSome).foldl (fun m h =>
    let t := (blist s h).planned.getD (unitEnd (blist s h))
    match m with
    | none => some (t, h)
    | some (u, g) => if t < u then some (t, h) else some (u, g)) none

/-- RUN_DECISION (R384): 4096 ticks before its planned start, the next run in order is decided. -/
def runDecision (s : State) : State :=
  let b := s.bed.build
  if s.sys.role ≠ .bed ∨ (b.st ≠ 4 ∧ b.st ≠ 5 ∧ b.startAt.isNone) then s else
  match firstCandidate s with
  | some (t, h) =>
    if buildNow s < t - 4096 then s else
    match candidate s h with
    | some (hd, bn, jets) => decideRun s h hd bn jets
    | none => s
  | none => s

def execRunDecision (s : State) : Host.Outcome State Fault Refusal := live s runDecision

/-! ### Queues and summaries (R377, R380, R396) -/

/-- JET_QUEUE_REFILL: a queue with 256 free entries reads the next jets; an invalid one pauses the layer, and a
starved head whose run is now in the queue goes on. -/
def queueRefill (h : Nat) (s : State) : State :=
  let b := blist s h
  if s.sys.role ≠ .bed ∨ (s.bed.build.st ≠ 4 ∧ s.bed.build.st ≠ 5) ∨ (layerHeads s).contains h = false ∨ b.bad.isSome ∨
      2048 < b.queue.length + 256 ∨ b.count ≤ b.fetched then s else
  let s1 := fillQueue s h (min 256 (b.count - b.fetched))
  let s2 := if (blist s1 h).bad.isSome then pauseBuild s1 7 else s1
  let c := blist s2 h
  if c.starving ∧ (c.bad.isSome ∨ (nextUnit s2 (bhead s2 h) c).isSome) then
    let now := buildNow s2
    let s3 := capRec s2 0x0B h 0 (leBytes 4 0x0A0D ++ leBytes 4 c.next ++ leBytes 8 (now - c.at_).toNat)
    standHead (setList s3 h { c with starving := false, hold := c.hold + (now - c.at_).toNat, at_ := now }) h
  else s2

def execJetQueueRefill (h : Nat) (s : State) : Host.Outcome State Fault Refusal := live s (queueRefill h)

/-- SUMMARY_WRITE: the oldest summary of the head goes into DRAM. -/
def summaryWrite (h : Nat) (s : State) : State :=
  match (blist s h).summaries with
  | (a, l) :: r => wrBytes (setList s h { blist s h with summaries := r }) a l
  | [] => s

def execSummaryWrite (h : Nat) (s : State) : Host.Outcome State Fault Refusal := live s (summaryWrite h)

end Sys2Proof.Machine
end

