-- ==== Sys2Proof/Machine/Origin.lean ====
section
/-! DEFINITION. The origin, the checkpoints and the end of a capture (14_spillway R555, R557, R560). -/

namespace Sys2Proof.Machine

/-- The configuration CRC (R560): every key of the role in ascending ID, its ID and its committed value. -/
def configCrc (s : State) : Nat :=
  let mine := keyIds.filter fun id => (keyDef s.sys.role id).any fun k => keyInRole k s.sys.role
  crc32 (mine.flatMap fun id => leBytes 2 id ++ keyCommitted s id)

/-- The calibration CRC (R560): the working records of the record store, by domain and instance; a record never written
has no bytes (DEDUCED, log 35). -/
def calCrc (s : State) : Nat :=
  crc32 (s.nv.cal.flatMap fun p => match p.2 with
    | some r => calRecBytes (p.1 / 4096) (p.1 % 4096) r.seq r.body
    | none => [])

/-- The Fretboard CRC of a TILE; other roles have none. -/
def fretCrcOf (s : State) : Nat := if s.sys.role = .tile then fretCrc s else 0

/-- The firmware's engine state as a record holds it: free bytes (R555; log 35). -/
def engineBytes (s : State) (n : Nat) : List Byte := (List.range n).map (Config.engineByte s.sys.free)

/-- The four values that a load checks (R560). -/
def startValues (s : State) : List Nat := [(runHdr s).build, configCrc s, calCrc s, fretCrcOf s]

/-- The parts of ORIGIN that R555 names, less the verification ages, whose form is the firmware's. -/
def originFields (s : State) : List Byte :=
  leBytes 4 (runHdr s).build ++ leBytes 4 s.sys.configGen ++ leBytes 4 (configCrc s) ++ leBytes 4 (calCrc s) ++
    leBytes 4 (fretCrcOf s) ++ leBytes 4 s.fret.gen ++ bytesOf (timeRecord s.time.sys) ++ leBytes 8 (uns 64 s.time.f) ++
    leBytes 8 (uns 64 s.time.s) ++
    (if s.sys.role = .tile then
      (List.range 6144).flatMap (fun k => wordBytes (healthWord s (16 * k))) ++ leBytes 4 s.tl.q ++ leBytes 2 (keyU s 0x0539 0 2)
    else [])

/-- The body of ORIGIN. A TILE's record takes 122 904 bytes (R558). -/
def originBody (s : State) : List Byte :=
  let f := originFields s
  f ++ engineBytes s (if s.sys.role = .tile then 122888 - f.length else Config.engineLen 0)

/-- The body of CHECKPOINT: the values a load checks, then engine state (R555, R560). -/
def checkpointBody (s : State) : List Byte := (startValues s).flatMap (leBytes 4) ++ engineBytes s (Config.engineLen 1)

/-- The origin of a waiting capture (R553, R555): ORIGIN and CAPTURE_STARTED. -/
def capOrigin (s : State) : State :=
  if s.cap.state ≠ 1 then s else
  let s1 := { s with cap.state := 2, cap.originLocal := s.time.loc, cap.lastCkpt := s.time.loc }
  raise (nextFree (capRec s1 0x01 0 0 (originBody s1))) 0x0D06 (args [(8, shortForm (sysTicks s))])

/-- A capture that waits for an entry to RUN (1) or for a BUILD_START (2) reaches its origin (R553). -/
def capOriginAt (s : State) (mode : Nat) : State := if s.cap.startMode = mode then capOrigin s else s

/-- End a capture (R557): END where there is a record to close, and CAPTURE_ENDED. -/
def capEnd (s : State) (cause : Nat) : State :=
  if s.cap.state = 0 ∨ s.cap.state = 4 then s else
  let s1 := if capRuns s then capAppend s (capBytes 0x10 0 0 0 s.time.loc (leBytes 4 cause)) else s
  raise { s1 with cap.state := 4, cap.endCause := cause, cap.stopAt := none } 0x0D07
    (args [(1, cause), (4, s1.cap.bytes)])

end Sys2Proof.Machine
end

