-- ==== Sys2Proof/Machine/Build.lean ====
section
/-! DEFINITION. The build layer's and the heads' commands, arming, starting, pausing and ending
(10_jets_motion R358–R367, R384, R388–R395). -/

namespace Sys2Proof.Machine

/-- The build layer's state, in the detail of a STATE_REJECT (R361). -/
def buildSt (s : State) : Nat := s.bed.build.st

/-! ### HEAD_DEFINE (R363, R364) -/

/-- Range of each word of HEAD_DEFINE. -/
def headRange : List (Nat × Nat) :=
  [(0, 0xFFFFFFFF), (0, 0xFFFFFFFF), (0, 0xFFFFFFFF), (1000, 10000000), (0, 0xFFFFFFFF), (0, 0xFFFFFFFF), (1, 16777215), (1, 100000),
   (1, 0xFFFFFFFF), (1, 0xFFFFFFFF), (0, 100000000), (0, 100000000), (0, 100000000), (0, 100000000), (0, 100000000), (0, 100000000),
   (0, 10000000), (0x100, 0xFFFFFFFF), (0, 0xFFFFFFFF), (0, 0xFFFFFFFF)]

/-- The word of a definition at fault. -/
def headFault (s : State) (h : Nat) (w : List Nat) : Option Nat :=
  let x : BHead := { BHead.cold with defn := w }
  match (List.range 20).find? fun i => decide (w.getD i 0 < (headRange.getD i (0, 0)).1 ∨ (headRange.getD i (0, 0)).2 < w.getD i 0) with
  | some i => some i
  | none =>
    if 2 ^ 31 ≤ hwS x 1 + 64 * (hw x 3 : Int) ∨ 2 ^ 31 ≤ hwS x 2 + 64 * (hw x 3 : Int) then some 3
    else if inWindow x (hwS x 4) (hwS x 5) = false then some 4
    else if hw x 13 < hw x 12 ∨ (hw x 15 ≠ 0 ∧ hw x 15 < hw x 12) then some 12
    else if laneUse s h ≠ .head h then some 0
    else none

/-- The head becomes UNREFERENCED; a referencing in progress ends (DEDUCED, log 29). -/
def unreference (s : State) (h : Nat) : State :=
  let x := bhead s h
  let s1 := setHead s h { x with referenced := false, ref := none, devRun := 0 }
  match x.ref with
  | some (tag, _) => cmdEnds s1 tag 0x5A 0x20
  | none => s1

def bodyHeadDefine : Body := fun c s =>
  let h := pw c 0 % 16
  let w := (List.range 20).map (pw c)
  if inLayer s h then (s, rBad .stateReject 0)
  else if c.len ≠ 20 then (s, rBad .badLength 20)
  else if bit (pw c 0) 31 = false then (setHead (unreference s h) h BHead.cold, rOk)
  else match headFault s h w with
    | some i => (s, rBad .badParam i)
    | none =>
      let s1 := unreference s h
      let x := bhead s1 h
      let moved := x.defn.isEmpty || hw x 1 != w.getD 1 0 || hw x 2 != w.getD 2 0 || hw x 3 != w.getD 3 0
      (setHead s1 h { x with
        defn := w, written := if moved then [] else x.written, downAt := if x.defn.isEmpty then s.time.loc else x.downAt }, rOk)

def opHeadDefine : OpSpec := opB 0x50 stRdRnHo false none
def execHeadDefine (c : Cmd) (s : State) : Host.Outcome State Fault Refusal := live s (runCmd opHeadDefine noBuild bodyHeadDefine c)

/-! ### FIELD_CORR_LOAD (R367) -/

/-- Node `i` of the header's range: its three coordinates. -/
def loadNode (h first : Nat) (c : Cmd) (s : State) (i : Nat) : State :=
  let x := bhead s h
  let n := first + i
  let put := fun (g : Tab Int) (k : Nat) => tabSet 0 g (3 * n + k) (sgn 24 (pw c (1 + 3 * i + k)))
  setHead s h { x with grid := put (put (put x.grid 0) 1) 2, written := tabSet false x.written n true }

def bodyFieldCorrLoad : Body := fun c s =>
  let w := pw c 0
  let n := bits w 17 5
  let first := bits w 4 13
  let h := w % 16
  if inLayer s h then (s, rBad .stateReject 0)
  else if c.len ≠ 1 + 3 * n then (s, rBad .badLength 0xFFFF)
  else if headDefined s h = false ∨ n = 0 ∨ 20 < n ∨ 4225 < first + n then (s, rBad .badParam 0)
  else ((List.range n).foldl (loadNode h first c) (unreference s h), rOk)

def opFieldCorrLoad : OpSpec := opB 0x51 stRdRnHo false none
def execFieldCorrLoad (c : Cmd) (s : State) : Host.Outcome State Fault Refusal := live s (runCmd opFieldCorrLoad noBuild bodyFieldCorrLoad c)

/-- A coordinate of the head's grid at a bed point (R368): 0 X, 1 Y, 2 Z. -/
def headCoord (hd : BHead) (k : Nat) (x y : Int) : Int :=
  gridValue (fun n => tabGet 0 hd.grid (3 * n + k)) (hwS hd 1) (hwS hd 2) (hw hd 3) x y

/-! ### HEAD_REFERENCE (R366) -/

/-- The distance of a reference move in bed units, through HEAD_UNITS_PER_MM (DEDUCED, log 29). -/
def refDistance (hd : BHead) (dx dy : Int) : Nat := segLength dx dy * 25600000 / max 1 (hw hd 17)

/-- The reference move begins at the last encoder position; without one, at the last set-point. -/
def startReference (s : State) (h tag : Nat) : State :=
  let x := bhead s h
  let e := x.enc.getD (x.hx, x.hy, x.hz)
  let px := headCoord x 0 (hwS x 4) (hwS x 5)
  let py := headCoord x 1 (hwS x 4) (hwS x 5)
  let now := buildNow s
  let d := jumpTicks (refDistance x (px - e.1) (py - e.2.1)) (hw x 7) (hw x 8) (hw x 9)
  let m : Move := { headCoord := true, start := now, dur := d, x0 := e.1, y0 := e.2.1, z0 := e.2.2
                    x1 := px, y1 := py, z1 := headCoord x 2 (hwS x 4) (hwS x 5) }
  setHead s h { x with
    frozen := false, referenced := false, edges := [], ref := some (tag, 0, 0), move := some m
    bx := hwS x 4, bby := hwS x 5, fz := 0, jumps := ((now, now + d) :: x.jumps).take 16 }

def bodyHeadReference : Body := fun c s =>
  let h := pw c 0 % 16
  if (s.bed.build.st = 4 ∨ s.bed.build.st = 5) ∧ bit s.bed.build.mask h then (s, rBad .stateReject 0)
  else if fenced s 6 h then (s, rBad .faultActive (fencedBy s 6 h))
  else if headDefined s h = false ∨ gridValid (bhead s h) = false then (s, rBad .badParam 0)
  else if (bhead s h).ref.isSome then (s, rBad .busy 0)
  else (startReference s h c.tag, rAccepted)

def opHeadReference : OpSpec := opB 0x5A rdRnHo false (some 1)
def execHeadReference (c : Cmd) (s : State) : Host.Outcome State Fault Refusal := live s (runCmd opHeadReference noBuild bodyHeadReference c)

/-- HEAD_REFERENCE_DONE: after 64 checked frames. -/
def headReferenceDone (h : Nat) (s : State) : State :=
  let x := bhead s h
  match x.ref with
  | some (tag, n, bad) =>
    if n < 64 then s else
    let s1 := setHead s h { x with ref := none, move := none, referenced := bad = 0 }
    if bad = 0 then cmdEnds (raise s1 0x0A0B (args [(4, h)])) tag 0x5A 0
    else cmdEnds (raise s1 0x0A0C (args [(4, h), (4, bad)])) tag 0x5A 0x60
  | none => s

def execHeadReferenceDone (h : Nat) (s : State) : Host.Outcome State Fault Refusal := live s (headReferenceDone h)

/-! ### PLUME_GUARD_SET (R384) -/

def bodyPlumeGuardSet : Body := fun c s =>
  if s.bed.build.st = 4 ∨ s.bed.build.st = 5 then (s, rBad .stateReject 0)
  else if 5000000 < pw c 1 then (s, rBad .badParam 1)
  else if 100000000 < pw c 3 then (s, rBad .badParam 3)
  else if 10000000 < pw c 4 then (s, rBad .badParam 4)
  else ({ s with bed.build.guard := (List.range 5).map (pw c) }, rOk)

def opPlumeGuardSet : OpSpec := opB 0x59 stRdRnHo false (some 5)
def execPlumeGuardSet (c : Cmd) (s : State) : Host.Outcome State Fault Refusal := live s (runCmd opPlumeGuardSet noBuild bodyPlumeGuardSet c)

/-! ### BUILD_LOAD (R358, R359) -/

/-- A head's entry of a layer descriptor: jet address, count, summary address. -/
def descEntry (s : State) (a h : Nat) : Nat × Nat × Nat :=
  let e := a + 0x10 + 0x20 * h
  (rdLe s e 8, rdLe s (e + 8) 4, rdLe s (e + 0x10) 8)

/-- Two areas of 32-byte records overlap. -/
def areasMeet (a n b m : Nat) : Bool := decide (a < b + 32 * m) && decide (b < a + 32 * n)

/-- A descriptor's checks. -/
def descOk (s : State) (a : Nat) : Bool :=
  let mask := rdLe s (a + 4) 2
  let hs := (List.range 16).filter fun h => bit mask h
  let top := dramTop s
  decide (mask ≠ 0) && hs.all (fun h => headDefined s h) &&
    hs.all (fun h =>
      let e := descEntry s a h
      e.1 % 32 == 0 && e.2.2 % 32 == 0 && decide (1 ≤ e.2.1) && decide (e.2.1 ≤ 16777216) &&
        decide (e.1 + 32 * e.2.1 ≤ top) && decide (e.2.2 + 32 * e.2.1 ≤ top) &&
        hs.all fun g =>
          let f := descEntry s a g
          !areasMeet e.1 e.2.1 f.2.2 f.2.1 && (g == h || !areasMeet e.1 e.2.1 f.1 f.2.1))

/-- The build layer that a descriptor describes, LOADED. -/
def loadDesc (s : State) (a : Nat) : Build :=
  let mask := rdLe s (a + 4) 2
  let lists := ((List.range 16).filter fun h => bit mask h).foldl (fun t h =>
    let e := descEntry s a h
    tabSet BList.cold t h { BList.cold with addr := e.1, count := e.2.1, sum := e.2.2, stopped := true }) []
  { Build.cold with st := 1, layerId := rdLe s a 4, mask := mask, lists := lists, guard := s.bed.build.guard }

def bodyBuildLoad : Body := fun c s =>
  let a := pw c 0 + pw c 1 * 2 ^ 32
  let st := s.bed.build.st
  if st ≠ 0 ∧ st ≠ 1 ∧ st ≠ 7 ∧ st ≠ 8 then (s, rBad .stateReject st)
  else if c.len ≠ 2 then (s, rBad .badLength 2)
  else if a % 256 ≠ 0 ∨ dramTop s < a + 528 ∨ descOk s a = false then (s, rBad .badParam 0)
  else
    (raise { s with bed.build := loadDesc s a, pair.progress := [], pair.jetCrc := [], pair.desc := a } 0x0A01 (args [(4, rdLe s a 4)]), rOk)

def opBuildLoad : OpSpec := opB 0x52 rdRnHo false none
def execBuildLoad (c : Cmd) (s : State) : Host.Outcome State Fault Refusal := live s (runCmd opBuildLoad buildSt bodyBuildLoad c)

/-! ### Arming (R361, R377, R404; 11 R433) -/

/-- "Arm" keys take effect (R404). -/
def applyArmKeys (s : State) : State :=
  let ids := keyIds.filter fun id => match keyDef s.sys.role id with | some k => k.cls == .arm && k.bed | none => false
  { s with keys.eff := ids.foldl (fun t id => keyPut s.sys.role t id (keyCommitted s id)) s.keys.eff }

/-- Strings of the layer, their stages not fenced. -/
def layerStrings (s : State) : List Nat :=
  (List.range 12).filter fun n => stringOn s n && bit s.bed.build.mask (stringHead s n) && !fenced s 9 n

/-- What the efficiency of a string depends on changed with the "arm" keys: η₀ is measured anew (15 R592). -/
def etaRestart (old : State) (s : State) (n : Nat) : State :=
  if leAt (keyEff old 0x0B13) (4 * n) 4 = leAt (keyEff s 0x0B13) (4 * n) 4 ∧ keyEff old (0x0B14 + n) = keyEff s (0x0B14 + n) ∧
      keyEff old (0x0B20 + n) = keyEff s (0x0B20 + n) then s
  else { s with th.age.eta0 := tabSet 0 s.th.age.eta0 n 0, th.age.etaSkip := tabSet 0 s.th.age.etaSkip n 1 }

/-- BUILD_ARM: "arm" keys and the strings' ageing factors take effect, power Weirs start from 0, soft-starts begin. -/
def bodyBuildArm : Body := fun c s =>
  let st := s.bed.build.st
  if st ≠ 1 then (s, rBad .stateReject st)
  else if c.len ≠ 0 then (s, rBad .badLength 0)
  else
    let s1 := applyArmKeys { s with bed.build.st := 2, bed.build.armTag := c.tag + 1, bed.build.armAt := buildNow s }
    let s2 := (List.range 16).foldl (fun t h => setHead t h { bhead t h with power := Weir.cold }) s1
    let s2 := (List.range 12).foldl (fun t n => etaRestart s (setString t n { stringRef t n with a := stringAge t n }) n) s2
    ((layerStrings s2).foldl (fun t n => setStage t n { stage t n with mode := 1, softAt := t.time.loc }) s2, rAccepted)

def opBuildArm : OpSpec := opB 0x53 [.ready, .run] false none
def execBuildArm (c : Cmd) (s : State) : Host.Outcome State Fault Refusal := live s (runCmd opBuildArm buildSt bodyBuildArm c)

/-- A head's list as armed: from the head's present position, its queue filled and checked (R377, R378). -/
def armHead (s : State) (h : Nat) : State :=
  let x := bhead s h
  let b := blist s h
  let s1 := setList s h { BList.cold with
    addr := b.addr, count := b.count, sum := b.sum, summaries := b.summaries, stopped := true
    vx := x.bx, vy := x.bby, px := x.bx, py := x.bby, pz := x.fz }
  let s2 := if capRuns s1 then
      capRec s1 0x04 h 0 (leBytes 4 2 ++ leBytes 4 h ++ leBytes 4 (crc32 (rdBytes s1 b.addr (32 * b.count)))) else s1
  fillQueue s2 h (min 2048 b.count)

/-- Why a head fails the arming: 2 fenced, 3 grid invalid, 1 not REFERENCED, 4 jet invalid; in this order (log 29). -/
def armReason (s : State) (h : Nat) : Nat :=
  if fenced s 6 h then 2 else if gridValid (bhead s h) = false then 3 else if (bhead s h).referenced = false then 1
  else if (blist s h).bad.isSome then 4 else 0

/-- Arm heads in turn up to the first that fails: the head and the reason. -/
def armHeads : List Nat → State → State × Option (Nat × Nat)
  | [], s => (s, none)
  | h :: r, s =>
    let e := armReason (setList s h { blist s h with bad := none }) h
    if e ≠ 0 then (s, some (h, e)) else
    let s1 := armHead s h
    if (blist s1 h).bad.isSome then (s1, some (h, 4)) else armHeads r s1

/-- BUILD_ARM_DONE: the soft-starts have ended and the queues are filled. -/
def buildArmDone (s : State) : State :=
  let b := s.bed.build
  if s.sys.role ≠ .bed ∨ b.st ≠ 2 ∨ (layerStrings s).any (fun n => (stage s n).mode != 3) then s else
  let p := armHeads ((List.range 16).filter fun h => bit b.mask h) { s with bed.build.pairs := [], bed.build.relaxed := [] }
  let s1 := { p.1 with bed.build.armTag := 0 }
  match p.2 with
  | none => endBuildTag (raise { s1 with bed.build.st := 3, bed.build.begun := false, bed.build.missed := false, bed.build.plumeFired := false }
      0x0A02 (args [(4, b.layerId)])) b.armTag 0x53 0
  | some (h, r) =>
    let s2 := (layerStrings s1).foldl stopStage { s1 with bed.build.st := 1 }
    endBuildTag (raise s2 0x0A03 (args [(4, h), (4, r)])) b.armTag 0x53 (if r = 2 then 0x60 else 0x12)

def execBuildArmDone (s : State) : Host.Outcome State Fault Refusal := live s buildArmDone

/-! ### Starting and resuming (R362, R382, R390–R392, R395) -/

/-- A head's resume jet (R391): the interrupted jet or, with SKIP_INTERRUPTED, the jet after it. -/
def resumeAt (skip : Bool) (b : BList) : BList :=
  match b.cut with
  | some sp =>
    let e := jetEnd sp.w sp.px sp.py
    let b1 := if skip then { b with next := sp.ix + 1, px := e.1, py := e.2, pz := sp.z1, pj := jetType sp.w == 0 }
      else { b with next := sp.ix, px := sp.px, py := sp.py, pz := sp.pz, pj := sp.pj }
    { b1 with cut := none, queue := b1.queue.filter fun q => decide (b1.next ≤ q.1) }
  | none => b

/-- Where a head must stand at the start tick, where that is not where it stands (R392). -/
def returnTo (st : Nat) (hd : BHead) (b : BList) : Option (Int × Int) :=
  if st = 3 ∨ b.count ≤ b.next then none else
  let p := fun pj => match queueFrom b with
    | (_, w) :: _ => approach hd pj w b.px b.py
    | [] => (b.px, b.py)
  if (hd.bx, hd.bby) = p b.pj then none else some (p true)

/-- Ticks of a return jump and its JUMP_DELAY. -/
def returnTicks (hd : BHead) (p : Option (Int × Int)) : Nat :=
  match p with
  | some q => jumpTicks (segLength (q.1 - hd.bx) (q.2 - hd.bby)) (hw hd 7) (hw hd 8) (hw hd 9) + hw hd 14
  | none => 0

/-- A head made ready for the start tick. -/
def readyHead (start : Int) (relax skip : Bool) (s : State) (h : Nat) : State :=
  let b := resumeAt skip (blist s h)
  let to_ := returnTo s.bed.build.st (bhead s h) b
  let s1 := match to_ with
    | some q => startMove s h (buildNow s) q.1 q.2 b.pz
    | none => s
  setList s1 h { b with
    stopped := false, starving := false, at_ := start, relax := relax, planned := none, hold := 0, flags := 0, throttled := false
    runNext := none, commit := false, park := false, pj := b.pj || to_.isSome }

/-- The first check of BUILD_START that fails. -/
def startFault (s : State) (relax : Bool) : Option Reply :=
  let hs := layerHeads s
  if s.bed.build.startAt.isSome then some (rBad .busy 0)
  else if hs.any (fun h => (blist s h).bad.isSome) then some (rBad .badParam 0)
  else match hs.find? fun h => fenced s 6 h || !(bhead s h).referenced with
    | some h => some (if fenced s 6 h then rBad .faultActive (fencedBy s 6 h) else rBad .badParam 0)
    | none => if s.bed.build.missed ∧ relax = false then some (rBad .badParam 0) else none

def bodyBuildStart : Body := fun c s =>
  let st := s.bed.build.st
  let relax := bit (pw c 0) 2
  let skip := bit (pw c 0) 1
  if st ≠ 3 ∧ st ≠ 6 then (s, rBad .stateReject st)
  else if c.len ≠ 3 then (s, rBad .badLength 3)
  else match startFault s relax with
    | some r => (s, r)
    | none =>
      let lead := buildNow s + keyU s 0x0A00 0 4
      let given := buildAt s (unshort (sysTicks s) (pw c 1 + pw c 2 % 65536 * 2 ^ 32))
      if bit (pw c 0) 0 ∧ given < lead then (s, rBad .badParam 1) else
      let hs := layerHeads s
      let longest := hs.foldl (fun m h => max m (returnTicks (bhead s h) (returnTo st (bhead s h) (resumeAt skip (blist s h))))) 0
      let start := frameAtOrAfter s (max (if bit (pw c 0) 0 then given else lead) (buildNow s + longest))
      let s1 := hs.foldl (readyHead start relax skip) s
      (capOriginAt { s1 with bed.build.startAt := some start, bed.build.startTag := c.tag + 1 } 2, rAccepted)

def opBuildStart : OpSpec := opB 0x54 [.run] false none
def execBuildStart (c : Cmd) (s : State) : Host.Outcome State Fault Refusal := live s (runCmd opBuildStart buildSt bodyBuildStart c)

/-- HOLD entry (R387, R389): the layer pauses; heads at their boundaries jump to park, the others when they stop. -/
def holdBuild (s : State) : State :=
  if s.bed.build.st < 4 ∨ 6 < s.bed.build.st ∨ s.bed.build.startAt.isSome then s else
  (layerHeads s).foldl (fun t h =>
    if (bhead t h).frozen then t
    else if (blist t h).stopped then toPark t h (buildNow t)
    else setList t h { blist t h with park := true }) (pauseBuild s 9)

/-- START_TICK (R362): the layer runs and PROCESS time starts or goes on. -/
def startTick (s : State) : State :=
  let b := s.bed.build
  match b.startAt with
  | none => s
  | some t =>
    if buildNow s < t ∨ (b.st ≠ 3 ∧ b.st ≠ 6) then s else
    let p := ((if b.begun then (s.time.process : Int) else 0) + (buildNow s - t)).toNat
    let s1 := (layerHeads s).foldl (fun u h => setHead u h { bhead u h with move := none })
      { s with time.process := min p (2 ^ 48 - 1), time.processRun := true, time.processFull := s.time.processFull && b.begun
               bed.build.st := 4, bed.build.startAt := none, bed.build.startTag := 0, bed.build.begun := true, bed.build.missed := false }
    let s2 := raise s1 0x0A04 (args [(4, b.layerId), (8, shortForm (sysOfBuild s t).toNat), (8, p)])
    let s3 := endBuildTag s2 b.startTag 0x54 0
    let s4 := if (layerHeads s3).any (fun h => (bhead s3 h).frozen || !(bhead s3 h).referenced) then pauseBuild s3 5
      else if s3.sys.st = .hold then holdBuild s3 else s3
    (layerHeads s4).foldl (fun u h => if (bhead u h).frozen then u else standHead u h) s4

def execStartTick (s : State) : Host.Outcome State Fault Refusal := live s startTick

/-! ### Pausing, ending (R361, R388, R393) -/

def bodyBuildPause : Body := fun c s =>
  let st := s.bed.build.st
  if st < 4 ∨ 6 < st then (s, rBad .stateReject st)
  else if c.len ≠ 0 then (s, rBad .badLength 0)
  else if st = 4 then (pauseBuild { s with bed.build.pauseTag := c.tag + 1 } 1, rAccepted)
  else (s, rOk)

def opBuildPause : OpSpec := opB 0x55 rdRnHo false none
def execBuildPause (c : Cmd) (s : State) : Host.Outcome State Fault Refusal := live s (runCmd opBuildPause buildSt bodyBuildPause c)

def bodyBuildAbort : Body := fun _ s => (abortBuild s 1, rOk)

def opBuildAbort : OpSpec := opB 0x56 [] false (some 0)
def execBuildAbort (c : Cmd) (s : State) : Host.Outcome State Fault Refusal := live s (runCmd opBuildAbort buildSt bodyBuildAbort c)

/-- PROCESS time stops at the tick of the last head's stop. -/
def stopProcess (s : State) : State :=
  { s with time.process := (processAt s s.bed.build.stopAt).toNat, time.processRun := false }

/-- BUILD_PAUSED (R388): every head has reached its boundary or is frozen. -/
def buildPaused (s : State) : State :=
  let b := s.bed.build
  if s.sys.role ≠ .bed ∨ b.st ≠ 5 ∨ !(layerHeads s).all (fun h => (bhead s h).frozen || (blist s h).stopped) then s else
  let s1 := stopProcess { s with bed.build.st := 6, bed.build.pauseTag := 0 }
  endBuildTag (raise s1 0x0A05 (args [(4, b.cause), (8, s1.time.process)])) b.pauseTag 0x55 0

def execBuildPaused (s : State) : Host.Outcome State Fault Refusal := live s buildPaused

/-- BUILD_DONE (R361): every head has completed its last jet. -/
def buildDone (s : State) : State :=
  let b := s.bed.build
  if s.sys.role ≠ .bed ∨ b.st ≠ 4 ∨ !(layerHeads s).all (fun h => (blist s h).done && (blist s h).stopped) then s else
  let s1 := rampStrings (stopProcess { s with bed.build.st := 7 })
  raise s1 0x0A06 (args [(4, b.layerId), (8, s1.time.process)])

def execBuildDone (s : State) : Host.Outcome State Fault Refusal := live s buildDone

/-- THERMAL_STOP (15_thermal_ageing R580): level 8 and THROTTLE have lasted THROTTLE_STOP_MS; once per THROTTLE state. -/
def thermalStop (s : State) : State :=
  match s.th.stopSince with
  | some t =>
    if s.sys.role ≠ .bed ∨ s.th.stopMade ∨ s.time.loc < t + keyU s 0x0E03 0 2 * msTicks then s else
    let hot := match tHot s with | some p => p.2 | none => sgn 16 (Config.free s.sys.free 131)
    raise (pauseBuild { s with th.stopMade := true } 3) 0x0E03 (args [(2, uns 16 hot)])
  | none => s

def execThermalStop (s : State) : Host.Outcome State Fault Refusal := live s thermalStop

end Sys2Proof.Machine
end

