-- ==== Sys2Proof/Machine/Calibration.lean ====
section
/-! DEFINITION. Calibration steps, runs and status (16_calibration R599–R615). -/

namespace Sys2Proof.Machine

/-! ### Instances (R599) -/

/-- Instances of a domain in the role, ascending. -/
def calInstances (role : Role) (d : Nat) : List Nat :=
  match d, role with
  | 0, .tile => List.range 96
  | 1, .tile => List.range 112
  | 1, .bed => List.range 52
  | 1, _ => List.range 16
  | 2, _ => List.range 16
  | 3, .tile => List.range 12
  | 3, .bed => List.range 12
  | _, _ => []

/-- The instance is a lane that is powered down: not calibrated and not counted. -/
def calPowered (s : State) (d inst : Nat) : Bool := !((d == 2 || (d == 1 && decide (inst < 16))) && (lane s inst).st == 0)

/-- The lane can take a SLICER step (R604). -/
def slicerReady (s : State) (l : Nat) : Bool :=
  let x := lane s l
  x.st == 5 && x.loop == 0 && !capoAuto x && !capoHeld s 0 l && !x.driftHold

/-- A step of the instance can begin (R604, R610). -/
def calReady (s : State) (d inst : Nat) (service : Bool) : Bool :=
  let u := calUnit s.sys.role d inst
  calPowered s d inst && !fenced s u.1 u.2 && !calBusy s d inst &&
    (match d with
    | 0 => service || (group s inst).subst.isNone
    | 2 => slicerReady s inst
    | _ => true)

/-- A step begins; the shadow sink of a SINK step is taken (R600). -/
def calBegin (s : State) (d inst : Nat) (byRun service : Bool) : State :=
  let s1 := { s with cal.steps := s.cal.steps ++
    [{ dom := d, inst := inst, byRun := byRun, service := service, handed := false, start := s.time.loc }] }
  if d = 0 then setGroup s1 inst { group s1 inst with calHeld := true, padNext := 0 } else s1

/-! ### Runs (R609) -/

/-- The next domain of a run: its instances. -/
def runList (s : State) (r : CalRun) (d : Nat) : List Nat :=
  if r.inst = 0xFFFF then calInstances s.sys.role d else [r.inst]

/-- A run goes on while no step of its own is in progress: its next instance begins, or its domain ends with
CAL_DONE, and after the last one CMD_DONE. -/
def calSettle : Nat → State → State
  | 0, s => s
  | fuel + 1, s =>
    match s.cal.run with
    | none => s
    | some r =>
      if s.cal.steps.any CalStep.byRun then s else
      match r.domains with
      | [] => cmdDone { s with cal.run := none } r.tag 0xA0 .ok
      | d :: ds =>
        match r.todo with
        | i :: rest =>
          if calBusy s d i then s else
          let s1 := { s with cal.run := some { r with todo := rest } }
          if calReady s d i r.service then calBegin s1 d i true r.service else calSettle fuel s1
        | [] =>
          let s1 := raise s 0x0F01 (args [(1, d), (2, r.done), (2, r.fails)])
          let todo := match ds with
            | [] => []
            | e :: _ => runList s r e
          calSettle fuel { s1 with cal.run := some { r with domains := ds, todo := todo, done := 0, fails := 0 } }

/-- Enough turns for every instance of every domain. -/
def calGo (s : State) : State := calSettle 300 s

/-- CAL_RUN. -/
def bodyCalRun : Body := fun c s =>
  let inst := pw c 0 / 65536
  let mask := pw c 0 % 16
  let ds := (List.range 4).filter fun d => bit mask d
  let here := ds.filter fun d => !(calInstances s.sys.role d).isEmpty
  if ds.isEmpty ∨ (inst ≠ 0xFFFF ∧ ds.length ≠ 1) then (s, rBad .badParam 0)
  else match here with
    | [] => (s, rBad .roleReject 0)
    | d :: _ =>
      if inst ≠ 0xFFFF ∧ (calInstances s.sys.role d).contains inst = false then (s, rBad .badParam 0)
      else if s.cal.run.isSome ∨ s.rep.st ≠ 0 then (s, rBad .busy 0)
      else
        let r : CalRun := { tag := c.tag, inst := inst, service := s.sys.st == .service, domains := here, todo := [], done := 0, fails := 0 }
        (calGo { s with cal.run := some { r with todo := runList s r d } }, rAccepted)

def opCalRun : OpSpec := opTSB 0xA0 [.standby, .ready, .run, .hold, .service] true (some 1)
def execCalRun (c : Cmd) (s : State) : Host.Outcome State Fault Refusal := live s (runCmd opCalRun noBuild bodyCalRun c)

/-- SET_STATE to SERVICE: steps, and a CAL_RUN outside SERVICE, are abandoned (R610). The run's CMD_DONE carries
STATE_REJECT (DESIGN CHOICE, log 27). -/
def calService (s : State) : State :=
  let s1 := calAbandonAll s
  match s1.cal.run with
  | some r => if r.service then s1 else cmdDone { s1 with cal.run := none } r.tag 0xA0 .stateReject
  | none => s1

/-! ### Results (R601–R605) -/

/-- Masks of 16 of 20 cells, by the 4 cells left out. -/
def cellMasks : List Nat :=
  (List.range 20).flatMap fun a => (List.range a).flatMap fun b => (List.range b).flatMap fun c => (List.range c).map fun d =>
    2 ^ 20 - 1 - 2 ^ a - 2 ^ b - 2 ^ c - 2 ^ d

/-- The sum of the selected cells. -/
def cellSum (cells : List Nat) (mask : Nat) : Nat := (cells.mapIdx fun i v => if bit mask i then v else 0).sum

/-- Distance of two sums. -/
def distNat (a b : Nat) : Nat := (a - b) + (b - a)

/-- The new selection: nearest to the reference, the smallest mask among equals (R601). -/
def pickCells (cells : List Nat) (ref : Nat) : Nat :=
  cellMasks.foldl (fun best m =>
    let dm := distNat (cellSum cells m) ref
    let db := distNat (cellSum cells best) ref
    if dm < db ∨ (dm = db ∧ m < best) then m else best) selNominal

/-- The selection lies within CAL_SINK_TOL of the reference. -/
def pickOk (s : State) (cells : List Nat) (ref mask : Nat) : Bool :=
  decide (10000 * distNat (cellSum cells mask) ref ≤ keyU s 0x0F04 0 2 * ref)

/-- S_ref: the median of the sums of shadow sinks that substitute for none, with their number (R600 step 1). -/
def sinkRef (s : State) (sums : List (Option Nat)) : Nat × Nat :=
  let use := (List.range 96).filterMap fun g => if (group s g).subst.isNone then (sums.getD g none).map fun v => (v : Int) else none
  ((((sortInts use).getD ((use.length - 1) / 2) 0)).toNat, use.length)

/-- CAL_FAIL of an instance (R601–R605). -/
def calFail (s : State) (d inst detail : Nat) : State := fire (bump s 0x0F d 1) 36 (calKey d inst) detail

/-- One element of a SINK step takes its selection: index 1536 + g for the shadow sink. -/
def sinkCells (g ref ix detail : Nat) (cells : List Nat) (p : State × Bool) : State × Bool :=
  let m := pickCells cells ref
  let s1 := { p.1 with cal.sel := tabSet selNominal p.1.cal.sel ix m }
  if pickOk s1 cells ref m then (s1, p.2) else (calFail s1 0 g detail, false)

/-- The shadow sink and the group's sinks in order; in SERVICE a failed sink that fits again returns (R610). -/
def sinkResult (g ref : Nat) (service : Bool) (o : CalObs) (s : State) : State × Bool :=
  let p := sinkCells g ref (1536 + g) 0xFFFF (o.cells.getD 0 []) ({ s with cal.sref := ref }, true)
  let q := (List.range 16).foldl (fun q i =>
    if (group s g).subst = some (16 * g + i) ∧ service = false then q
    else sinkCells g ref (16 * g + i) (16 * g + i) (o.cells.getD (i + 1) []) q) p
  match (group s g).subst with
  | none => q
  | some n =>
    let cells := o.cells.getD (n % 16 + 1) []
    if service && pickOk s cells ref (tabGet selNominal q.1.cal.sel n) then
      ({ setGroup q.1 g { group q.1 g with subst := none } with nv.subst := tabSet 0 q.1.nv.subst g 0 }, q.2)
    else q

/-- Code density (R602): C_(j−1) for taps 0 to 191, and the taps for ticks 1 to 31. -/
def lineSums (hits : List Nat) : List Nat := (List.range 192).map fun j => (hits.take j).sum
def lineTaps (n : Nat) (hits : List Nat) : List Nat :=
  let cs := lineSums hits
  0 :: (List.range 31).map fun i => (cs.foldl (fun (q : Nat × Nat × Nat) c =>
    let dd := distNat (32 * c) ((i + 1) * n)
    if q.2.2 = 0 ∨ dd < q.2.1 then (q.1 + 1, dd, q.1 + 1) else (q.1 + 1, q.2.1, q.2.2)) (0, 0, 0)).2.2 - 1

/-- A line is short; a tick lies more than 15 ps from its target. -/
def lineShort (n : Nat) (hits : List Nat) : Bool := decide (3 * n < 160 * hits.getD 191 0)
def lineOff (n : Nat) (hits : List Nat) : Bool :=
  let cs := lineSums hits
  let taps := lineTaps n hits
  (List.range 31).any fun i => decide (15 * n < distNat (cs.getD (taps.getD (i + 1) 0) 0 * 3200) ((i + 1) * 100 * n))

/-- Calibrate one line of a pair by `n` instants (R602). -/
def lineResult (inst n : Nat) (lineB : Bool) (hits : List Nat) (s : State) : State × Bool :=
  if lineShort n hits then (calFail s 1 inst (1 + flag lineB 8), false)
  else if lineOff n hits then (calFail s 1 inst (flag lineB 8), false)
  else
    let x := calLines s inst
    let y := if lineB then { x with b := lineTaps n hits } else { x with a := lineTaps n hits }
    ({ s with cal.lines := tabSet DelayPair.cold s.cal.lines inst y }, true)

/-- The midpoint between a peak of the histogram and the next one (08 R292); the threshold stays where it shows none. -/
def midPoint (peaks : List Int) (k : Nat) (old : Int) : Int :=
  match peaks.drop k with
  | a :: b :: _ => fdiv (a + b) 2
  | _ => old

/-- The trims and thresholds of a lane: slicers 0 to 2 and the spare in PAM4, 1 and the spare in NRZ, which has one threshold.
The spare is left with the threshold of the slicer it carried last (R604; 08 R292). -/
def slicerResult (l : Nat) (o : CalObs) (s : State) : State × Bool :=
  let nrz := decide ((lane s l).mode = 2)
  let use := if nrz then [1, 3] else [0, 1, 2, 3]
  let old := calSlicers s l
  let level := fun (k : Nat) => (old.getD k (0, 0)).2
  let new := (List.range 4).map fun k =>
    if use.contains k = false then old.getD k (0, 0) else
    (clampI (-31) 31 (o.trims.getD k 0),
      if k = 3 then level (if nrz then 1 else 2) else midPoint o.peaks (if nrz then 0 else k) (level k))
  let s1 := { s with cal.slicers := tabSet [] s.cal.slicers l (if new = slicerNominal then [] else new) }
  use.foldl (fun q k => if 31 ≤ (o.trims.getD k 0).natAbs then (calFail q.1 2 l k, false) else q) (s1, true)

/-- The applied offset of a stage moves toward the estimate, by at most `lim` LSB where one is given (R605). -/
def adcResult (n : Nat) (lim : Option Int) (est : Int) (s : State) : State × Bool :=
  let old := tabGet 0 s.cal.adc n
  let new := match lim with
    | some k => old + clampI (-k) k (est - old)
    | none => est
  let s1 := { s with cal.adc := tabSet 0 s.cal.adc n new }
  if 64 < est.natAbs then (calFail s1 3 n (uns 32 est), false) else (s1, true)

/-! ### The end of a step (R611–R615) -/

/-- What a step changed is written into its record and, while a capture runs, as a POLICY record (R611, R613). -/
def calRecord (old s : State) (d inst : Nat) : State :=
  if calBody s d inst = calBody old d inst ∧ s.nv.subst = old.nv.subst then s else
  capRec (calWrite s d inst) 0x0B inst 0 (leBytes 4 (0x0F00 + d) ++ leBytes 4 inst ++ calBodyBytes d (calBody s d inst))

/-- An instance's calibration is complete (R614, R615). -/
def calCount (s : State) (d inst : Nat) (ok : Bool) : State :=
  let x := calDom s d
  setCalDom s d { x with
    count := min 0xFFFFFFFF (x.count + 1), lastLocal := s.time.loc, lastSys := s.time.sys
    fallback := if ok then x.fallback.filter (· != inst) else x.fallback }

/-- The results of a step by its domain. -/
def calApply (x : CalStep) (o : CalObs) (s : State) : State × Bool :=
  match x.dom with
  | 0 => sinkResult x.inst (sinkRef s o.sums).1 x.service o s
  | 1 =>
    if x.service then
      let p := lineResult x.inst (2 ^ 18) false (o.hits.getD 0 []) s
      let q := lineResult x.inst (2 ^ 18) true (o.hits.getD 1 []) p.1
      (q.1, p.2 && q.2)
    else lineResult x.inst (2 ^ 18) (!(calLines s x.inst).activeB) (o.hits.getD 0 []) s
  | 2 => slicerResult x.inst o s
  | _ => adcResult x.inst (some 8) o.estimate s

/-- A run counts its instances and failures. -/
def runCount (s : State) (x : CalStep) (ok : Bool) : State :=
  if x.byRun then { s with cal.run := s.cal.run.map fun r => { r with done := r.done + 1, fails := r.fails + b2n (!ok) } } else s

/-- The step completes. -/
def calFinish (x : CalStep) (o : CalObs) (s : State) : State :=
  if x.dom = 0 ∧ (sinkRef s o.sums).2 < 48 then calAbandon s 0 x.inst 6 else
  let p := calApply x o s
  let s1 := calRecord s p.1 x.dom x.inst
  let s2 := if x.dom = 0 then calWrite s1 15 0 else s1
  runCount (bump (calCount (calLeave s2 x.dom x.inst) x.dom x.inst p.2) 0x0F x.dom 0) x p.2

/-- CAL_STEP_DONE (R613): a DELAY step outside SERVICE is done once its twin has become active. -/
def calStepDone (d inst : Nat) (o : CalObs) (s : State) : State :=
  match s.cal.steps.find? fun x => x.dom == d && x.inst == inst with
  | none => calGo s
  | some x => if x.dom = 1 ∧ x.service = false ∧ x.handed = false then s else calGo (calFinish x o s)

def execCalStepDone (d inst : Nat) (o : CalObs) (s : State) : Host.Outcome State Fault Refusal := live s (calStepDone d inst o)

/-! ### The start of steps (R603, R604, R607, R608) -/

/-- Calibration in the background runs now (R607, R609). -/
def calBackground (s : State) : Bool :=
  (counted s.sys.st || s.sys.st == .standby || s.sys.st == .safe) && !capoHeld s 5 0 && s.cal.run.isNone

/-- The rotation of a domain from its next instance, those placed first before it (R607, R614). -/
def calRotation (s : State) (d : Nat) : List Nat :=
  let l := calInstances s.sys.role d
  let x := calDom s d
  x.prio ++ l.filter (fun i => decide (x.next ≤ i)) ++ l.filter (fun i => decide (i < x.next))

/-- CAL_STEP_DUE (R607): the first instance of the rotation that can take a step. -/
def calStepDue (d : Nat) (s0 : State) : State :=
  let s := calGo s0
  let x := calDom s d
  if calBackground s = false ∨ 4 ≤ d ∨ (s.cal.steps.any fun t => t.dom == d) ∨ s.time.loc < x.lastEnd + keyU s (0x0F00 + d) 0 4 * secTicks then s
  else match (calRotation s d).find? fun i => calReady s d i false with
    | none => s
    | some i =>
      let y := if x.prio.contains i then { x with prio := x.prio.erase i } else { x with next := i + 1 }
      calBegin (setCalDom s d y) d i false false

def execCalStepDue (d : Nat) (s : State) : Host.Outcome State Fault Refusal := live s (calStepDue d)

/-- SLICER_FIRST_STEP (R604): 1 s after the lane's lock, outside the rotation. -/
def slicerFirst (l : Nat) (s : State) : State :=
  let t := tabGet 0 s.cal.lockAt l
  if t = 0 ∨ calBackground s = false ∨ s.time.loc < t - 1 + secTicks ∨ calBusy s 2 l then s else
  let s1 := { s with cal.lockAt := tabSet 0 s.cal.lockAt l 0 }
  if calReady s 2 l false then calBegin s1 2 l false false else s1

def execSlicerFirstStep (l : Nat) (s : State) : Host.Outcome State Fault Refusal := live s (slicerFirst l)

/-- The twin of a DELAY step is calibrated (R603 step 1). -/
def calTwin (inst : Nat) (hits : List Nat) (s : State) : State :=
  let p := lineResult inst (2 ^ 18) (!(calLines s inst).activeB) hits s
  calRecord s p.1 1 inst

/-- The step of an interpolator waits for its quiet instant. -/
def delayWaits (s : State) (inst : Nat) : Option CalStep :=
  s.cal.steps.find? fun x => x.dom == 1 && x.inst == inst && !x.service && !x.handed

/-- QUIET_INSTANT (R603): with the twin calibrated from `hits`, it becomes the active line. -/
def quietInstant (inst : Nat) (hits : List Nat) (s : State) : State :=
  match delayWaits s inst with
  | none => s
  | some x =>
    let s1 := calTwin inst hits s
    let y := calLines s1 inst
    { s1 with
      cal.lines := tabSet DelayPair.cold s1.cal.lines inst { y with activeB := !y.activeB }
      cal.steps := s1.cal.steps.map fun t => if t = x then { t with handed := true } else t }

def execQuietInstant (inst : Nat) (hits : List Nat) (s : State) : Host.Outcome State Fault Refusal := live s (quietInstant inst hits)

/-- QUIET_INSTANT_TIMEOUT (R603): the step is abandoned after its twin's calibration. -/
def quietTimeout (inst : Nat) (hits : List Nat) (s : State) : State :=
  match delayWaits s inst with
  | none => s
  | some x => if s.time.loc < x.start + secTicks then s else calGo (calAbandon (calTwin inst hits s) 1 inst 3)

def execQuietInstantTimeout (inst : Nat) (hits : List Nat) (s : State) : Host.Outcome State Fault Refusal := live s (quietTimeout inst hits)

/-! ### The boot run (R606, R614) -/

/-- Nominal and factory bodies of a record (R614). -/
def nominalBody (d : Nat) : List Nat :=
  match d with
  | 0 => List.replicate 17 selNominal
  | 1 => 0 :: tapsNominal ++ tapsNominal
  | 2 => slicerNominal.flatMap fun p => [uns 8 p.1, uns 16 p.2]
  | _ => [0]
def factoryBody (d inst : Nat) : List Nat :=
  (List.range (nominalBody d).length).map fun i =>
    let v := Config.factoryCal (calKey d inst) i
    if d = 0 then v % 2 ^ 20 else if d = 1 then (if i = 0 then v % 2 else v % 256) else v

/-- The values of a body take effect; the SUBST bits of a SINK record stand in `nv.subst`. -/
def applyBody (s : State) (d inst : Nat) (body : List Nat) : State :=
  let at_ := fun i => body.getD i 0
  match d with
  | 0 =>
    let sel := (List.range 16).foldl (fun t i => tabSet selNominal t (16 * inst + i) (at_ i % 2 ^ 20)) s.cal.sel
    setGroup { s with cal.sel := tabSet selNominal sel (1536 + inst) (at_ 16 % 2 ^ 20) } inst
      { group s inst with subst := if tabGet 0 s.nv.subst inst = 0 then none else some (tabGet 0 s.nv.subst inst - 1) }
  | 1 => { s with cal.lines := tabSet DelayPair.cold s.cal.lines inst ⟨at_ 0 % 2 == 1, (body.drop 1).take 32, (body.drop 33).take 32⟩ }
  | 2 =>
    let l := (List.range 4).map fun k => (sgn 8 (at_ (2 * k)), sgn 16 (at_ (2 * k + 1)))
    { s with cal.slicers := tabSet [] s.cal.slicers inst (if l = slicerNominal then [] else l) }
  | _ => { s with cal.adc := tabSet 0 s.cal.adc inst (sgn 32 (at_ 0)) }

/-- A record that fails its CHECK is replaced by the factory record, or by nominal values (R614). -/
def restoreRecord (s : State) (d inst : Nat) (factoryBad : Bool) : State :=
  let s0 := if d = 0 then { s with nv.subst := tabSet 0 s.nv.subst inst 0 } else s
  let s1 := calWrite (applyBody s0 d inst (if factoryBad then nominalBody d else factoryBody d inst)) d inst
  let x := calDom s1 d
  let s2 := setCalDom s1 d { x with prio := x.prio.filter (· != inst) ++ [inst], fallback := x.fallback.filter (· != inst) ++ [inst] }
  fire (raise (bump s2 0x0F d 4) 0x0F03 (args [(1, d), (2, inst), (1, b2n factoryBad)])) 6 (calKey d inst) (b2n factoryBad)

/-- The boot run reads one record: `bad` names the records that fail, with their factory records' failure. -/
def readRecord (bad : List (Nat × Bool)) (d : Nat) (s : State) (inst : Nat) : State :=
  match bad.find? fun p => p.1 == calKey d inst with
  | some p => restoreRecord s d inst p.2
  | none =>
    match tabGet none s.nv.cal (calKey d inst) with
    | some r => applyBody s d inst r.body
    | none => applyBody s d inst (factoryBody d inst)

/-- One interpolator of the boot run: both lines, by 2¹⁶ instants each. -/
def bootLine (s : State) (e : Nat × List Nat × List Nat) : State :=
  if (calInstances s.sys.role 1).contains e.1 = false ∨ calPowered s 1 e.1 = false then s else
  let p := lineResult e.1 (2 ^ 16) false e.2.1 s
  let q := lineResult e.1 (2 ^ 16) true e.2.2 p.1
  calCount (calRecord s q.1 1 e.1) 1 e.1 (p.2 && q.2)

/-- One current-sense ADC of the boot run: its first estimate, with no limit on the step. -/
def bootAdc (s : State) (e : Nat × Int) : State :=
  if (calInstances s.sys.role 3).contains e.1 = false then s else
  let p := adcResult e.1 none e.2 s
  calCount (calRecord s p.1 3 e.1) 3 e.1 p.2

/-- The boot run (R606): every record is read, then lines and offsets are calibrated from what was measured. -/
def bootCal (bad : List (Nat × Bool)) (lines : List (Nat × List Nat × List Nat)) (ests : List (Nat × Int)) (s : State) : State :=
  let s0 := { s with cal.sref := (match tabGet none s.nv.cal 0xF000 with
    | some r => r.body.headD 0
    | none => Config.factoryCal 0xF000 0) }
  let s1 := (List.range 4).foldl (fun t d => (calInstances t.sys.role d).foldl (readRecord bad d) t) s0
  let s2 := ests.foldl bootAdc (lines.foldl bootLine s1)
  (List.range 4).foldl (fun t d => setCalDom t d { calDom t d with lastEnd := t.time.loc }) s2

/-! ### Status (R615) -/

/-- The 7 words of a domain. -/
def calWords (s : State) (d : Nat) : List Word :=
  let x := calDom s d
  let running := (s.cal.steps.any fun t => t.dom == d) || (match s.cal.run with
    | some r => r.domains.contains d
    | none => false)
  [w32 (d * 65536 + flag (capoHeld s 5 0) 3 + flag running 2 + flag (!x.fallback.isEmpty) 1 + flag (calInstances s.sys.role d).isEmpty 0),
    w32 x.count] ++ two32 x.lastLocal ++ timeRecord x.lastSys

/-- CAL_STATUS. -/
def bodyCalStatus : Body := fun _ s => (s, rWords ((List.range 4).flatMap (calWords s)))

def opCalStatus : OpSpec := opTSB 0xA1 [] false (some 0)
def execCalStatus (c : Cmd) (s : State) : Host.Outcome State Fault Refusal := live s (runCmd opCalStatus noBuild bodyCalStatus c)

end Sys2Proof.Machine
end

