-- ==== Sys2Proof/Machine/Compose.lean ====
section
/-! DEFINITION. The composition pipeline and the output stage, pixel by pixel (05_composition R172, R179,
R187–R193). -/

namespace Sys2Proof.Machine

/-! ### Sources -/

/-- Samples of a pgroup: pixels and bytes (R170, R172; SMPTE ST 2110-20). -/
def pgPixels (sampling depth : Nat) : Nat :=
  if sampling = 2 then 2 else match depth with
    | 8 => 1
    | 10 => 4
    | _ => 2
def pgBytes (sampling depth : Nat) : Nat :=
  if sampling = 2 then depth / 2 else match depth with
    | 8 => 3
    | 10 => 15
    | _ => 9

/-- Bytes of a line of a stream, and the pitch of a ring buffer's lines (R172). -/
def streamLine (b : Binding) : Nat := b.width / max 1 (pgPixels b.sampling b.depth) * pgBytes b.sampling b.depth
def streamPitch (b : Binding) : Nat := cdiv (streamLine b) 256 * 256

/-- Bytes of one ring buffer. -/
def ringBuf (b : Binding) : Nat := streamPitch b * b.height

/-- Bytes per pixel of a still format (R179). -/
def stillBytes (format : Nat) : Nat := if format = 1 ∨ format = 3 then 8 else 4

/-- A source image: a stream's ring buffer or a still buffer. -/
inductive SrcImg where
  | ring (b : Binding) (addr : Nat)
  | still (b : StillBuf)
deriving DecidableEq, Repr

/-- Size of an image. -/
def SrcImg.width : SrcImg → Nat
  | .ring b _ => b.width
  | .still b => b.width
def SrcImg.height : SrcImg → Nat
  | .ring b _ => b.height
  | .still b => b.height

/-- Components enter as linear values (FORMAT 1 and 3). -/
def SrcImg.linear : SrcImg → Bool
  | .ring _ _ => false
  | .still b => b.format == 1 || b.format == 3

/-- A big-endian number of bytes, as ST 2110-20 packs samples. -/
def beNat (l : List Byte) : Nat := l.foldl (fun a b => a * 256 + b.toNat) 0

/-- Sample `k` of the pgroup that holds pixel `x` of line `y`, as 16 bits (R187; the packing is ST 2110-20's:
PRESUMED, log 25). -/
def ringSample (s : State) (b : Binding) (addr x y k : Nat) : Nat :=
  let pg := pgBytes b.sampling b.depth
  let at_ := addr + y * streamPitch b + x / max 1 (pgPixels b.sampling b.depth) * pg
  beNat (rdBytes s at_ pg) / 2 ^ (8 * pg - (k + 1) * b.depth) % 2 ^ b.depth * 2 ^ (16 - b.depth)

/-- A chroma component of a 4:2:2 line: co-sited with the even pixel, the mean of its neighbours on an odd one, and
the even neighbour's on the last pixel (R187). -/
def chroma422 (w x : Nat) (at_ : Nat → Nat) : Nat :=
  if x % 2 = 0 then at_ x else if x + 1 < w then (at_ (x - 1) + at_ (x + 1)) / 2 else at_ (x - 1)

/-- Component `j` of a stream pixel: RGB, or Y, Cb, Cr. -/
def ringComp (s : State) (b : Binding) (addr x y j : Nat) : Nat :=
  if b.sampling = 2 then
    match j with
    | 0 => ringSample s b addr x y (1 + 2 * (x % 2))
    | 1 => chroma422 b.width x fun e => ringSample s b addr e y 0
    | _ => chroma422 b.width x fun e => ringSample s b addr e y 2
  else
    let k := x % max 1 (pgPixels b.sampling b.depth) * 3
    let pick := if b.sampling = 0 then j else (match j with | 0 => 1 | 1 => 0 | _ => 2)
    ringSample s b addr x y (k + pick)

/-- Component `j` of a still pixel as 16 bits (R179). -/
def stillComp (s : State) (b : StillBuf) (x y j : Nat) : Nat :=
  let line := b.addr + y * b.pitch
  match b.format with
  | 0 => bits (rdLe s (line + 4 * x) 4) (10 * j) 10 * 64
  | 2 =>
    let lane_ := fun (e i : Nat) => rdLe s (line + e / 2 * 8 + 2 * i) 2 % 1024 * 64
    (match j with
    | 0 => lane_ x (1 + 2 * (x % 2))
    | 1 => chroma422 b.width x fun e => lane_ e 0
    | _ => chroma422 b.width x fun e => lane_ e 2)
  | _ => rdLe s (line + 8 * x + 2 * j) 2

/-- Component `j` of a source pixel. -/
def srcComp (s : State) (img : SrcImg) (x y j : Nat) : Nat :=
  match img with
  | .ring b a => ringComp s b a x y j
  | .still b => stillComp s b x y j

/-- Per-pixel alpha: A of FORMAT 3, else 0xFFFF (R192). -/
def srcAlpha (s : State) (img : SrcImg) (x y : Nat) : Nat :=
  match img with
  | .still b => if b.format = 3 then rdLe s (b.addr + y * b.pitch + 8 * x + 6) 2 else 0xFFFF
  | _ => 0xFFFF

/-! ### Matrices and transfer (R187, R188) -/

/-- What the firmware makes the input matrix of: a stream's binding, BT2100 taking the BT.2020 matrix; for FORMAT 2
BT.709 narrow of 10 bits; nothing for FORMAT 0, which takes the identity (R187). -/
def matrixSrc : SrcImg → Option MatrixSrc
  | .ring b _ => some ⟨b.colorimetry != 0, b.sampling != 0, b.full == 1, b.depth⟩
  | .still b => if b.format = 0 then none else some ⟨false, true, false, 10⟩

/-- Coefficient `k` (row × 3 + column) of the input matrix and offset `c`: the definition's, or the firmware's. -/
def inCoef (d : List Nat) (img : SrcImg) (k : Nat) : Int :=
  if dAutoMatrix d = false then dPair d 12 k else
  match matrixSrc img with
  | some m => m.coef k
  | none => if k % 4 = 0 then 4096 else 0
def inOff (d : List Nat) (img : SrcImg) (c : Nat) : Int :=
  if dAutoMatrix d = false then dOff d c else
  match matrixSrc img with
  | some m => m.off c
  | none => 0

/-- The curve a layer decodes with: TRANSFER 8 takes the source's (R188). -/
def curveOf (d : List Nat) (img : SrcImg) : Nat :=
  if dTransfer d ≠ 8 then dTransfer d else
  match img with
  | .ring b _ => (match b.tcs with
    | 0 => 3
    | 1 => 1
    | _ => 2)
  | .still _ => 3

/-- round((i / 1024) ^ 2.4 × 65 536), exact: with t = 2X − 1, t⁵ × 1024¹² ≤ 2⁵ × 65 536⁵ × i¹² (R188, TRANSFER 3). -/
def gamma24 (i : Nat) : Nat :=
  let t := searchLe (fun t => decide (t ^ 5 * 1024 ^ 12 ≤ 2 ^ 5 * 65536 ^ 5 * i ^ 12)) 20 0
  (t + 1) / 2

/-- Entry `i` of a layer's decode table, for an output's keys (R188). -/
def decodeEntry (s : State) (o curve i : Nat) : Nat :=
  match curve with
  | 0 => 64 * i
  | 1 => min 0xFFFFF (nitsCode (pqNits i) (leAt (keyOut s o 0x0701) 0 2))
  | 2 => min 0xFFFFF (nitsCode (hlgNits (leAt (keyOut s o 0x0702) 0 2) i) (leAt (keyOut s o 0x0701) 0 2))
  | 3 => min 0xFFFFF (gamma24 i)
  | _ => leAt (keyOut s o (0x0710 + (curve - 4))) (4 * i) 4 % 2 ^ 20

/-- The table evaluated at a 16-bit value (R188). -/
def decodeCurve (t : Nat → Nat) (e : Nat) : Nat :=
  let i := e / 64
  let a := t i
  satU 0xFFFFF ((a : Int) + fdiv (((t (i + 1) : Int) - a) * (e % 64 : Nat)) 64)

/-- Coefficient `k` of the gamut matrix, 2⁻¹³ (R188). -/
def gamutCoef (s : State) (d : List Nat) (img : SrcImg) (k : Nat) : Int :=
  if dAutoGamut d = false then dPair d 20 k
  else if img.linear then (if k % 4 = 0 then 8192 else 0)
  else
    let bt2020 := match img with
      | .ring b _ => b.colorimetry != 0
      | .still _ => false
    gamutOf bt2020 ((List.range 8).map fun i => keyU s 0x0700 (2 * i) 2) k

/-- A 3 × 3 matrix in fixed point, one row: (Σ a_j x_j) >> sh. -/
def matRow (a : Nat → Int) (r sh : Nat) (x : Nat → Nat) : Int :=
  fdiv (a (3 * r) * x 0 + a (3 * r + 1) * x 1 + a (3 * r + 2) * x 2) (2 ^ sh : Nat)

/-- The working values of a source pixel (R187, R188). -/
def workPixel (s : State) (o : Nat) (d : List Nat) (img : SrcImg) (x y c : Nat) : Nat :=
  let raw := fun j => srcComp s img x y j
  let lin := fun i =>
    if img.linear then min 0xFFFFF (raw i * 16)
    else decodeCurve (decodeEntry s o (curveOf d img)) (satU 0xFFFF (matRow (inCoef d img) i 12 raw + inOff d img i))
  satU 0xFFFFF (matRow (gamutCoef s d img) c 13 lin)

/-! ### Scaler (R189) -/

/-- The crop as the axes see it after rotation. -/
def fetchW (d : List Nat) : Nat := if dRotate d % 2 = 1 then dCropH d else dCropW d
def fetchH (d : List Nat) : Nat := if dRotate d % 2 = 1 then dCropW d else dCropH d

/-- The source pixel at (i, j) of the rotated crop (R185). -/
def rotated (d : List Nat) (i j : Nat) : Nat × Nat :=
  match dRotate d with
  | 0 => (dCropX d + i, dCropY d + j)
  | 1 => (dCropX d + j, dCropY d + (dCropH d - 1 - i))
  | 2 => (dCropX d + (dCropW d - 1 - i), dCropY d + (dCropH d - 1 - j))
  | _ => (dCropX d + (dCropW d - 1 - j), dCropY d + i)

/-- One axis of the scaler: `taps` taps from `off` before, the kernel's tap by phase, limit `hi` of the result. -/
def scaleAxis (taps off : Nat) (k : Nat → Nat → Int) (hi sIn sOut j : Nat) (src : Nat → Nat) : Nat :=
  if sIn = sOut then src j else
  let step : Int := (sIn * 2 ^ 20 / max 1 sOut : Nat)
  let pos : Int := j * step + fdiv step 2 - 2 ^ 19
  let p0 := fdiv pos (2 ^ 20)
  let phase := (fdiv pos (2 ^ 14) % 64).toNat
  let acc := ((List.range taps).map fun t => k phase t * (src (clampI 0 ((sIn : Int) - 1) (p0 + t - off)).toNat : Int)).sum
  satU hi (fdiv (acc + 2048) 4096)

/-- Taps of the scaler kernel of a layer, 2⁻¹² (R189, R202). -/
def hTap (s : State) (o kernel phase t : Nat) : Int := sgn 16 (leAt (keyOut s o (0x0720 + kernel)) (2 * (8 * phase + t)) 2)
def vTap (s : State) (o kernel phase t : Nat) : Int := sgn 16 (leAt (keyOut s o (0x0720 + kernel)) (2 * (512 + 6 * phase + t)) 2)

/-- A value of the scaled image at (i, j), horizontal axis first (R189). -/
def scaled (s : State) (o : Nat) (d : List Nat) (hi i j : Nat) (src : Nat → Nat → Nat) : Nat :=
  scaleAxis 6 2 (vTap s o (dKernel d)) hi (fetchH d) (dDestH d) j fun r =>
    scaleAxis 8 3 (hTap s o (dKernel d)) hi (fetchW d) (dDestW d) i fun q => src q r

/-! ### Layers and blend (R190–R192, R199, R201) -/

/-- A linear ramp of R191, truncated; A where the extent is 1. -/
def ramp (a b i n : Nat) : Nat := if n ≤ 1 then a else satU 0xFFFFF (fdiv ((a : Int) * (n - 1 : Nat) + ((b : Int) - a) * i) (n - 1 : Nat))

/-- (x, y) lies on the outermost ring of a tile rectangle of the output's map. -/
def onFrame (x : Output) (px py : Int) : Bool :=
  x.map.any fun p =>
    let (rx, ry, w, h) := p.2
    let cx : Int := px - rx
    let cy : Int := py - ry
    decide (0 ≤ cx ∧ cx < w ∧ 0 ≤ cy ∧ cy < h) && decide (cx = 0 ∨ cy = 0 ∨ cx = w - 1 ∨ cy = h - 1)

/-- Component `c` of a pattern at destination coordinates (i, j). -/
def patternAt (x : Output) (d : List Nat) (i j c : Nat) : Nat :=
  let a := dColourA d c
  let b := dColourB d c
  let st := max 1 (dStep d)
  match dSource d with
  | 0 => ramp a b i (dDestW d)
  | 1 => ramp a b j (dDestH d)
  | 2 => if (i / st + j / st) % 2 = 0 then a else b
  | 3 => if i % st = 0 ∨ j % st = 0 then b else a
  | _ => if onFrame x (dDestX d + i) (dDestY d + j) then b else a

/-- The image a layer fetches from, by what it took at the last latch point. -/
def layerImg (s : State) (slot : Nat) (d : List Nat) : Option SrcImg :=
  if dType d = 1 then (stillBuf s (dSource d)).map SrcImg.still
  else match (layer s slot).held with
    | some (st, k, _) => (stream s st).map fun x => SrcImg.ring x.bind (x.base + k * ringBuf x.bind)
    | none => none

/-- Component `c` and alpha of a layer at destination coordinates (i, j); `none` where the layer is omitted. -/
def layerPixel (s : State) (o slot : Nat) (d : List Nat) (i j : Nat) : Option ((Nat → Nat) × Nat) :=
  if dType d = 2 ∨ (dType d = 0 ∧ (layer s slot).loss = 2) then some (dColourA d, 0xFFFF)
  else if dType d = 3 then some (patternAt (outp s o) d i j, 0xFFFF)
  else if (layer s slot).loss = 1 then none
  else (layerImg s slot d).map fun img =>
    let at_ := fun q r => rotated d q r
    (fun c => scaled s o d 0xFFFFF i j fun q r => workPixel s o d img (at_ q r).1 (at_ q r).2 c,
     scaled s o d 0xFFFF i j fun q r => srcAlpha s img (at_ q r).1 (at_ q r).2)

/-- Blend one component (R192). -/
def blendComp (premult : Bool) (alpha aL src dst : Nat) : Nat :=
  let ka := alpha + alpha / 32768
  let kl := aL + aL / 32768
  let af := ka * kl / 65536
  let sf := if premult then kl else af
  min 0xFFFFF ((src * sf + dst * (65536 - af) + 32768) / 65536)

/-- One layer over the canvas at (x, y) of a view. -/
def blendLayer (s : State) (o view : Nat) (x y : Nat) (dst : List Nat) (l : Nat × List Nat) : List Nat :=
  let d := l.2
  let i : Int := x - dDestX d
  let j : Int := y - dDestY d
  if dEnable d = false ∨ bit (dViews d) view = false ∨ fenced s 4 l.1 ∨ i < 0 ∨ j < 0 ∨ dDestW d ≤ i ∨ dDestH d ≤ j then dst else
  match layerPixel s o l.1 d i.toNat j.toNat with
  | none => dst
  | some (src, a) => (List.range 3).map fun c => blendComp (dPremult d) a (dAlpha d) (src c) (dst.getD c 0)

/-- Active layers of an output in ascending Z. -/
def byZ (s : State) (o : Nat) : List (Nat × List Nat) :=
  (List.range 16).flatMap fun z => (activeLayers s o).filter fun l => dZ l.2 == z

/-! ### Output stage (R193) -/

/-- The background's working value. -/
def background (s : State) (o c : Nat) : Nat := leAt (keyOut s o (0x0730 + o)) (48 + 4 * c) 4 % 2 ^ 20

/-- The encoder of R193: a working value as a pixel code. -/
def encodeCode (x : Nat) : Nat :=
  if x < 4 then x * 512 else
  let e := msb x
  if e ≤ 11 then (e - 1) * 2048 + (x * 2 ^ (11 - e) - 2048) else
  let sh := e - 11
  let m := x / 2 ^ sh
  let r := x % 2 ^ sh
  let h := 2 ^ (sh - 1)
  let m1 := if h < r ∨ (r = h ∧ m % 2 = 1) then m + 1 else m
  if m1 = 4096 then e * 2048 else (e - 1) * 2048 + (m1 - 2048)

/-- The output stage's matrix and offset for component `c`. -/
def stageComp (s : State) (o : Nat) (x : List Nat) (c : Nat) : Nat :=
  let k := keyOut s o (0x0730 + o)
  satU 0xFFFFF (matRow (fun i => sgn 32 (leAt k (4 * i) 4)) c 16 (fun i => x.getD i 0) + sgn 32 (leAt k (36 + 4 * c) 4))

/-- A pixel of the raster: C2, C1, C0 from bit 47 down (06 R217). -/
def pixelWord (c : List Nat) : Nat := c.getD 2 0 * 2 ^ 32 + c.getD 1 0 * 65536 + c.getD 0 0

/-- Working values through the output stage. -/
def stagePixel (s : State) (o : Nat) (x : List Nat) : Nat := pixelWord ((List.range 3).map fun c => encodeCode (stageComp s o x c))

/-- The encoded BACKGROUND, which an underrun sends (R193; 06 R214). -/
def backPixel (s : State) (o : Nat) : Nat := stagePixel s o ((List.range 3).map (background s o))

/-- The composed pixel (x, y) of a view. -/
def composePixel (s : State) (o view x y : Nat) : Nat :=
  stagePixel s o ((byZ s o).foldl (blendLayer s o view x y) ((List.range 3).map (background s o)))

end Sys2Proof.Machine
end

