-- ==== Sys2Proof/Machine/Scanout.lean ====
section
/-! DEFINITION. Output timing and scan-out: latch points, lines, CRCs, flip times, guards and the group
(06_scanout; 05_composition R197–R199; 07_cascade_link R236–R238, R244, R269). -/

namespace Sys2Proof.Machine

/-- The outputs compose and send (R216). -/
def outputsRun (s : State) : Bool := s.sys.role == .sender && counted s.sys.st

/-- The ports that carry an output's raster: its head port and its return feeds, locked and not fenced (R255, R269, R275);
none while the other unit of a pair feeds it (17 R622). -/
def feedPorts (s : State) (o : Nat) : List Nat :=
  if pairMuted s o then [] else (List.range 8).filter fun p =>
    portLocked s p && !fenced s 2 p &&
      ((p == o && portMode s p == 1) || (portMode s p == 2 && returnOf s p == o && (wport s p).returnFeed))

/-- A SYNC cell of an output on every port that carries it. -/
def sendSync (s : State) (o : Nat) (cell : List Byte) : State := (feedPorts s o).foldl (fun t p => sendCell t p cell) s

/-- What an output puts into the data positions of every port that carries it (07 R237, R238). -/
def sendData (s : State) (o : Nat) (cells : List (List Byte)) : State := (feedPorts s o).foldl (fun t p => queueData t p cells) s

/-- A FLIP (0) or DECISION (1) cell of a frame has left now: the next one leaves 64 codewords later (07 R244). -/
def noteSent (s : State) (o frame kind : Nat) : State :=
  setOutp s o { outp s o with sentAt := tabSet 0 (outp s o).sentAt (2 * (frame % 65536) + kind) (s.time.loc + 1) }

/-- Arguments of a scan-out event: output, frame number, SYSTEM time of its instant, then its own (R228). -/
def outArgs (s : State) (o frame : Nat) (t : Int) (l : List (Nat × Nat)) : List Byte :=
  args ([(4, o), (4, frame % 65536), (8, timeForm s t.toNat)] ++ l)

/-- An event of OUTPUT_EVENT_EN is enabled (R213). -/
def outEventOn (s : State) (o k : Nat) : Bool := bit (leAt (keyOut s o 0x0900) o 1) k

/-- The codeword period of an output's port, ticks, rounded up to the bound of R206. -/
def codewordTicks (s : State) (o : Nat) : Nat :=
  match keyU s 0x0202 o 1 with
  | 0 => 1024
  | 1 => 2048
  | _ => 5276

/-! ### The grid after a step (R210) -/

/-- The active area of the frame in progress has ended, or no frame is in progress. -/
def activeOver (s : State) (x : Output) : Bool :=
  !x.inFrame || (decide (x.start + x.activeLen ≤ nowSys s) && decide (x.height ≤ x.line))

/-- The flip time of the next frame (R222). -/
def outFlip (x : Output) : Int := x.next + x.nextLen - x.vb + x.latency

/-- A frame of the group awaits its decision at g_n (R225). -/
def decisionDue (n : Nat) (f : Int) (s : State) : State :=
  if s.send.group.due.any fun p => p.1 == n then s else { s with send.group.due := lastN 64 (s.send.group.due ++ [(n, f)]) }

/-- The output takes the grid of the new count: its blanking extends to the first frame start at least VB after
the end of the active area (R210). -/
def resyncOutput (s : State) (o : Nat) : State :=
  let x := outp s o
  let from_ := if x.activeLen = 0 then nowSys s + x.vb else x.start + x.activeLen + x.vb
  let y := takeGrid { x with resync := false } (gridFirst x from_)
  let y1 := if x.latched then
      { y with prog := y.prog.map (fun f => if f.frame = x.nextNo then { f with frame := y.nextNo } else f)
               flips := [(y.nextNo, outFlip y)] }
    else y
  let s1 := if x.latched ∧ bit (keyU s 0x0911 0 1) o then
      decisionDue y.nextNo (outFlip y) { s with send.group.due := s.send.group.due.filter fun p => p.1 != x.nextNo || p.2 == outFlip y }
    else s
  raise (bump (setOutp s1 o y1) 9 o 3) 0x0906 (outArgs s o x.frame (nowSys s) [(4, x.nextNo), (4, y.nextNo)])

/-- FRAME_RESYNC (R210). -/
def frameResync (o : Nat) (s : State) : State :=
  let x := outp s o
  if outputsRun s = false ∨ x.started = false ∨ x.resync = false ∨ activeOver s x = false then s else resyncOutput s o

def execFrameResync (o : Nat) (s : State) : Host.Outcome State Fault Refusal := live s (frameResync o)

/-! ### Latch points (R197–R199, R202, R211, R213) -/

/-- Keys of class latch whose commit completed at least 100 µs ago take effect for the output (05 R202). -/
def latchKeys (o : Nat) (s : State) : State :=
  let mine := fun (p : PendKey) => (p.slot / 65536 == o + 1 || p.slot / 65536 == 0) && decide (p.at_ + 100 * usTicks ≤ s.time.loc)
  let s1 := (s.keys.pendLatch.filter mine).foldl (fun t p => { t with keys.eff := keyPut t.sys.role t.keys.eff p.slot p.value }) s
  { s1 with keys.pendLatch := s.keys.pendLatch.filter fun p => !mine p }

/-- Releases that wait for this output's latch point (05 R201; 07 R275). -/
def latchReleases (o : Nat) (s : State) : State :=
  let mine := fun (u : Nat × Nat) =>
    if u.1 = 4 then (match (layer s u.2).active with
      | some d => dOutput d == o
      | none => true)
    else u.2 == o
  let s1 := (s.send.unfence.filter mine).foldl (fun t u =>
    if fenced t u.1 u.2 then raise (liftFences t fun f => f.kind == u.1 && f.inst == u.2) 0x0D02 (args [(1, u.1), (2, u.2)]) else t) s
  { s1 with send.unfence := s.send.unfence.filter fun u => !mine u }

/-- The pending definitions of the output become active; its commits take effect (05 R197). A slot that keeps its stream
keeps the buffer it took (05 R199). -/
def latchCommits (o : Nat) (s : State) : State :=
  let x := outp s o
  let upd := s.send.layers.map fun p => match p.2.pend with
    | some d => if dOutput d = o then (p.1, { p.2 with
        active := some d, pend := none, held := p.2.held.filter fun h => dType d == 0 && dSource d == h.1 }) else p
    | none => p
  let fresh := s.send.layers.filterMap fun p => if p.2.pend.any (fun d => dOutput d == o) then some p.1 else none
  let s1 := setOutp { s with send.layers := upd, pair.omit_ := s.pair.omit_.filter fun k => !fresh.contains k } o { x with commits := [] }
  x.commits.foldl (fun t c =>
    cmdDone (raise t 0x0705 (args [(4, o), (4, c.1), (4, x.nextNo), (4, b2n c.2)])) c.1 0x31 .ok) s1

/-- A layer with a stream source takes its stream's NEWEST buffer, or follows LOSS_ACTION (R199); in HOLD it keeps
the buffer it held, and one without a buffer shows COLOUR_A where its stream is lost and LOSS_ACTION says so (06 R216).
`old` is what it took at the previous latch point. -/
def takeStream (s : State) (slot : Nat) (d : List Nat) : State :=
  let l := layer s slot
  let old := l.held
  let gone := (stream s (dSource d)).any Stream.lost && dLoss d == 2
  let keep := setLayer s slot { l with loss := if old.isSome then 0 else if gone then 2 else 1 }
  if s.sys.st = .hold then keep else
  match stream s (dSource d) with
  | none => setLayer s slot { l with loss := 1, held := none }
  | some x =>
    if x.lost then
      match dLoss d with
      | 1 => setLayer s slot { l with loss := 1, held := none }
      | 2 => setLayer s slot { l with loss := 2, held := none }
      | _ => keep
    else match x.newest with
      | none => keep
      | some k =>
        let now := some (dSource d, k, x.frames)
        let s1 := setStream (setLayer s slot { l with held := now, loss := 0 }) (dSource d) (some { x with newestTaken := true })
        if old = now then bump s1 7 slot 5 else s1

/-- Every enabled layer of the output takes its stream buffer. -/
def latchStreams (o : Nat) (s : State) : State :=
  (activeLayers s o).foldl (fun t l => if dEnable l.2 ∧ dType l.2 = 0 then takeStream t l.1 l.2 else t) s

/-- What the next frame reads (R182, R199). -/
def frameReads (s : State) (o frame : Nat) : Prog :=
  let on := (activeLayers s o).filter fun l => dEnable l.2
  { frame := frame
    streams := on.filterMap fun l => if dType l.2 = 0 then (layer s l.1).held.map fun h => (h.1, h.2.1) else none
    buffers := on.filterMap fun l => if dType l.2 = 1 then some (dSource l.2) else none }

/-- Check rectangles set since the last latch point take effect for the frame that is latched (R219, R220): the frame in
progress is still compared under the setting it started with. -/
def latchRects (o : Nat) (s : State) : State :=
  let x := outp s o
  setOutp s o { x with nextRects := x.pendRects.foldl (fun t p => tabSet CrcRect.cold t p.1 p.2) x.nextRects, pendRects := [] }

/-- Return ports that detected a loss send the raster from this latch point (07 R269). -/
def latchRings (o : Nat) (s : State) : State :=
  (List.range 8).foldl (fun t p =>
    let w := wport t p
    if portMode t p = 2 ∧ returnOf t p = o ∧ w.takeoverPending then
      setWport t p { w with returnFeed := true, takeoverPending := false }
    else t) s

/-- The output's next frame is latched: its reads and its flip time, whose first FLIP cell leaves now (R222). -/
def latchFrame (o : Nat) (s : State) : State :=
  let x := outp s o
  let f := outFlip x
  let s1 := setOutp (if bit (keyU s 0x0911 0 1) o ∧ pairCut s o = false then decisionDue x.nextNo f s else s) o { x with
    latched := true, prog := x.prog ++ [frameReads s o x.nextNo]
    flips := (x.flips.filter fun p => decide (nowSys s < p.2)) ++ [(x.nextNo, f)] }
  if pairCut s o then setOutp s1 o { outp s1 o with flips := x.flips.filter fun p => decide (nowSys s < p.2) }
  else sendSync (noteSent s1 o x.nextNo 0) o (syncCell 1 x.nextNo (timeValue f.toNat))

/-- A latch point is due: the frame in progress has reached its blanking, or the first frame's is here. -/
def latchDue (s : State) (o : Nat) : Bool :=
  let x := outp s o
  outputsRun s && x.started && !x.latched &&
    (if x.inFrame then activeOver s x
     else if x.resync then true else decide (x.next - x.vb ≤ nowSys s))

/-- START_BLANK of the frame in progress (R213). -/
def startBlank (s : State) (o : Nat) : State :=
  let x := outp s o
  if x.inFrame ∧ outEventOn s o 0 ∧ pairMuted s o = false then raiseQuiet s 0x0901 (outArgs s o x.frame (x.start + x.activeLen) []) else s

/-- At a latch point the active unit of a pair begins to feed a paired output once the takeover's instant has passed, and
ends its feed with the frame in progress once a hand-over's has (17 R633, R642). -/
def pairLatch (o : Nat) (s : State) : State :=
  if pairPort s o = false then s else
  let x := outp s o
  let last := if x.inFrame ∧ tabGet 0 s.pair.feed o = 1 then 2 else if tabGet 0 s.pair.feed o = 2 then 2 else 0
  let v := if s.pair.active = false then last
    else match s.pair.hand with
      | some (_, _, t) => if t ≤ nowSys s then last else tabGet 0 s.pair.feed o
      | none => if s.pair.feedFrom ≤ nowSys s then 1 else tabGet 0 s.pair.feed o
  { s with pair.feed := tabSet 0 s.pair.feed o v }

/-- The latch point of an output's next frame (R199, R211, R213, R541). A fenced output stops here. -/
def latchPoint (s : State) (o : Nat) : State :=
  let s0 := startBlank s o
  if fenced s0 5 o then withRetire (fun t => stopOutput t o) s0 else
  let s1 := if (outp s0 o).resync then resyncOutput s0 o else s0
  withRetire (fun t => latchFrame o (latchRings o (latchRects o (latchStreams o (latchCommits o (latchReleases o (latchKeys o (pairLatch o t)))))))) s1

/-! ### Frames and lines (R208, R209, R214; 07 R237, R238) -/

/-- FRAME_START_SEND (R244): the latched frame begins with FRAME_START; data cells of line 0 follow. -/
def frameStartSend (o : Nat) (s : State) : State :=
  let x := outp s o
  if outputsRun s = false ∨ x.started = false ∨ x.latched = false ∨ x.inFrame ∨ x.resync ∨
      nowSys s < x.next - codewordTicks s o then s else
  let y := takeGrid { rectsStart x with
    inFrame := true, latched := false, done := false, frame := x.nextNo, start := x.next, activeLen := x.nextLen - x.vb
    line := 0, sent := [], underrun := false, matched := false } (gridFirst x (x.next + 1))
  let c := syncCell 2 x.nextNo (leBytes 2 x.width ++ leBytes 2 x.height ++ [b8 (x.views - 1)])
  emits (sendData { setOutp s o y with send.pinLogged := [] } o [c]) ((feedPorts s o).map fun p => Out.cell p c)

def execFrameStartSend (o : Nat) (s : State) : Host.Outcome State Fault Refusal := live s (frameStartSend o)

/-- Start of line `j` of the frame in progress (R208). -/
def lineStart (x : Output) (j : Nat) : Int := x.start + (j * x.activeLen / max 1 x.height : Nat)

/-- The pixels of a line, view by view; from (view, x) of an underrun on they are the background (R209, R214). -/
def linePixels (s : State) (o j : Nat) (under : Option (Nat × Nat)) : List Nat :=
  let x := outp s o
  let bad := fun (v px : Nat) => match under with
    | some (uv, ux) => decide (uv < v ∨ (uv = v ∧ ux ≤ px))
    | none => false
  (List.range x.views).flatMap fun v => (List.range x.width).map fun px =>
    if bad v px then backPixel s o else composePixel s o v px j

/-- The payloads of a line's data cells: triplets of 16 pixels, unused pixels 0 (R237). -/
def linePayloads : Nat → List Nat → List Nat
  | 0, _ => []
  | n + 1, l =>
    let w := ((l.take 16).mapIdx fun i p => p * 2 ^ (48 * i)).sum
    [w % 2 ^ 256, w / 2 ^ 256 % 2 ^ 256, w / 2 ^ 512] ++ linePayloads n (l.drop 16)

/-- Key of a sent pixel: view, line, column. -/
def sentKey (v y x : Nat) : Nat := (v * 16384 + y) * 16384 + x

/-- The first underrun line of a frame: UNDERRUN_FRAME, UNDERRUN and the Spillway's line, once (R214). -/
def firstUnderrun (s : State) (o j view : Nat) : State :=
  let x := outp s o
  if x.underrun then s else
  let s1 := setOutp (bump s 9 o 1) o { x with underrun := true, underLine := j, underView := view }
  fire (raise s1 0x0904 (outArgs s o x.frame (lineStart x j) [(4, j), (4, view)])) 13 o (j % 65536 + view % 4 * 65536)

/-- OUTPUT_LINE (R209, R214): the next line leaves, complete or from `under` on with background. -/
def outputLine (o : Nat) (under : Option (Nat × Nat)) (s : State) : State :=
  let x := outp s o
  if outputsRun s = false ∨ x.inFrame = false ∨ x.height ≤ x.line ∨ nowSys s < lineStart x x.line then s else
  let j := x.line
  if pairMuted s o then setOutp s o { x with line := j + 1 } else
  let ps := linePixels s o j under
  let cells := linePayloads (tripletsOf x.width x.views) ps
  let put := (List.range x.views).foldl (fun t v => tabSetList 0 t (sentKey v j 0) ((ps.drop (v * x.width)).take x.width)) x.sent
  let s1 := setOutp s o { x with line := j + 1, sent := put }
  let s2 := emits (sendData s1 o (cells.map fun c => b8 1 :: leBytes 32 c)) ((feedPorts s o).flatMap fun p => cells.mapIdx fun i c => Out.dataCell p x.frame j i c)
  match under with
  | some (v, _) => firstUnderrun (bump s2 9 o 0) o j v
  | none => s2

def execOutputLine (o : Nat) (under : Option (Nat × Nat)) (s : State) : Host.Outcome State Fault Refusal := live s (outputLine o under)

/-- By START_BLANK every line of the frame in progress has left (R209): lines that no OUTPUT_LINE has reported leave
complete (DESIGN CHOICE, log 64). -/
def sendRest (o : Nat) (s : State) : State :=
  let x := outp s o
  if x.inFrame ∧ x.start + x.activeLen ≤ nowSys s then (List.range (x.height - x.line)).foldl (fun t _ => outputLine o none t) s else s

/-- LATCH_POINT. -/
def latchPointDue (o : Nat) (s0 : State) : State :=
  let s := sendRest o s0
  if latchDue s o then latchPoint s o else s

def execLatchPoint (o : Nat) (s : State) : Host.Outcome State Fault Refusal := live s (latchPointDue o)

/-- LINE_MATCH (R213). -/
def lineMatch (o : Nat) (s : State) : State :=
  let x := outp s o
  let j := leAt (keyOut s o (0x0901 + o)) 0 2
  if outputsRun s = false ∨ x.inFrame = false ∨ x.matched ∨ x.height ≤ j ∨ outEventOn s o 1 = false ∨ pairMuted s o ∨ nowSys s < lineStart x j then s
  else raiseQuiet (setOutp s o { x with matched := true }) 0x0902 (outArgs s o x.frame (lineStart x j) [(4, j)])

def execLineMatch (o : Nat) (s : State) : Host.Outcome State Fault Refusal := live s (lineMatch o)

/-! ### CRCs and FRAME_DONE (R213, R217–R220) -/

/-- CRC-32 over the sent pixels of a rectangle of one view, row by row, 6 bytes a pixel (R217). -/
def rectFeed (x : Output) (c v rx ry w h : Nat) : Nat :=
  (List.range h).foldl (fun c1 j => (List.range w).foldl (fun c2 i =>
    crcFeed c2 (leBytes 6 (tabGet 0 x.sent (sentKey v (ry + j) (rx + i))))) c1) c
def rectCrc (x : Output) (v rx ry w h : Nat) : Nat := Nat.xor (rectFeed x 0xFFFFFFFF v rx ry w h) 0xFFFFFFFF

/-- The per-tile CRC of a map rectangle, views ascending (R217). -/
def tileCrc (x : Output) (r : Nat × Nat × Nat × Nat) : Nat :=
  Nat.xor ((List.range x.views).foldl (fun c v => rectFeed x c v r.1 r.2.1 r.2.2.1 r.2.2.2) 0xFFFFFFFF) 0xFFFFFFFF

/-- Positions with a rectangle and their CRCs, ascending (R217). -/
def tileCrcs (x : Output) : List (Nat × Nat) :=
  x.map.filterMap fun p => if 0 < p.2.2.2.1 then some (p.1, tileCrc x p.2) else none

/-- TILE_CRC cells: five positions a cell, each cell sent twice (R243, R244). -/
def crcCells (frame : Nat) : Nat → List (Nat × Nat) → List (List Byte)
  | 0, _ => []
  | n + 1, l =>
    if l.isEmpty then [] else
    let g := l.take 5
    let c := syncCell 3 frame (b8 g.length :: g.flatMap fun p => b8 p.1 :: leBytes 4 p.2)
    c :: c :: crcCells frame n (l.drop 5)

/-- The comparison of one rectangle (R220). The frame that supplies EXPECTED is not compared: VALID stays 0 (R221). -/
def compareRect (o : Nat) (s : State) (k : Nat) : State :=
  let x := outp s o
  let r := tabGet CrcRect.cold x.rects k
  if r.enable = false then s else
  let c := rectCrc x r.view r.x r.y r.w r.h
  let put := fun (q : CrcRect) => setOutp s o { x with rects := tabSet CrcRect.cold x.rects k { q with crc := c, frame := x.frame } }
  match r.expected with
  | none => put { r with expected := some c }
  | some e =>
    if e = c then put { r with valid := true, match_ := true, first := false }
    else
      let s1 := put { r with valid := true, match_ := false, first := false, mismatches := min 0xFFFF (r.mismatches + 1) }
      if r.first ∨ r.match_ then
        fire (raise s1 0x0905 (outArgs s o x.frame (nowSys s) [(4, k), (4, c)])) 14 (5 * 4096 + o) (k + x.frame % 65536 * 65536)
      else s1

/-- The raster signature of a frame in the order of R209, for a capture (14_spillway R556). -/
def rasterCrc (x : Output) : Nat :=
  Nat.xor ((List.range x.height).foldl (fun c j => (List.range x.views).foldl (fun c1 v => rectFeed x c1 v 0 j x.width 1) c) 0xFFFFFFFF) 0xFFFFFFFF

/-- FRAME_DONE (R213, R220): the per-tile CRCs leave, buffers are released, rectangles compared. START_BLANK is
raised first. -/
def frameDone (o : Nat) (s0 : State) : State :=
  let s := latchPointDue o s0
  let x := outp s o
  if outputsRun s = false ∨ x.inFrame = false ∨ activeOver s x = false then s else
  if pairMuted s o then withRetire (fun t =>
    let y := outp t o
    setOutp t o { y with inFrame := false, done := true, prog := y.prog.filter fun f => f.frame != x.frame }) s else
  let crcs := tileCrcs x
  let s1 := (crcCells x.frame 64 crcs).foldl (fun t c => sendSync t o c) s
  let s2 := crcs.foldl (fun t p => capSignature t 3 (o * 256 + p.1) x.frame p.2) (capSignature s1 2 o x.frame (rasterCrc x))
  let s3 := (List.range 16).foldl (compareRect o) s2
  let s4 := withRetire (fun t =>
    let y := outp t o
    let t1 := if tabGet 0 t.pair.feed o = 2 then { t with pair.feed := tabSet 0 t.pair.feed o 0 } else t
    setOutp t1 o { y with inFrame := false, done := true, prog := y.prog.filter fun f => f.frame != x.frame }) s3
  if outEventOn s o 2 then raiseQuiet s4 0x0903 (outArgs s o x.frame (nowSys s) []) else s4

def execFrameDone (o : Nat) (s : State) : Host.Outcome State Fault Refusal := live s (frameDone o)

/-! ### Flip times, guards and the group (R222–R226, R244) -/

/-- A FLIP (0) or DECISION (1) cell of a frame is due: 64 codewords have passed since its last one (R244). -/
def cellDue (s : State) (o frame kind : Nat) : Bool :=
  let t := tabGet 0 (outp s o).sentAt (2 * (frame % 65536) + kind)
  t == 0 || decide (t - 1 + 64 * codeword100 (keyU s 0x0202 o 1) / 100 ≤ s.time.loc)

/-- FLIP_CELL_SEND (R244): the FLIP and DECISION cells that are due of the flip times still to come. -/
def flipCellSend (o : Nat) (s : State) : State :=
  let x := outp s o
  if outputsRun s = false ∨ x.started = false then s else
  let open_ := x.flips.filter fun p => decide (nowSys s < p.2)
  let live_ := x.sentAt.filter fun e => open_.any fun p => p.1 % 65536 == e.1 / 2
  let s1 := open_.foldl (fun t p => if cellDue s o p.1 0 then sendSync (noteSent t o p.1 0) o (syncCell 1 p.1 (timeValue p.2.toNat)) else t)
    (setOutp s o { x with flips := open_, sentAt := live_ })
  if bit (keyU s 0x0911 0 1) o = false then s1 else
  open_.foldl (fun t p => match s.send.group.decided.find? fun q => q.1 == p.1 with
    | some q => if cellDue s o p.1 1 then sendSync (noteSent t o p.1 1) o (syncCell 4 p.1 [b8 (b2n q.2)]) else t
    | none => t) s1

def execFlipCellSend (o : Nat) (s : State) : Host.Outcome State Fault Refusal := live s (flipCellSend o)

/-- The flip guard of an output (R223); dTail is in 1/256 tick. -/
def flipGuard (s : State) (o : Nat) : Bool :=
  decide (dTail s o + 256 * (150000 + keyU s 0x0910 0 4 : Nat) ≤ 256 * (outp s o).latency)

/-- The group guard of an output of the group (R226). -/
def groupGuard (s : State) (o : Nat) : Bool :=
  decide (groupTail s + 256 * (100000 + keyU s 0x0912 0 4 : Nat) ≤ 256 * (outp s o).latency) &&
    decide (groupLag s + groupTail s + 256 * (keyU s 0x0910 0 4 : Int) ≤ -256 * 50000)

/-- Both guards of an enabled output hold. -/
def guardsHold (s : State) (o : Nat) : Bool :=
  !(outp s o).enable || (flipGuard s o && (!(groupOuts s).contains o || groupGuard s o))

/-- One guard of one output rechecked in RUN: FLIP_GUARD_BROKEN once (R223, R226). -/
def checkGuard (s : State) (o : Nat) : State :=
  let x := outp s o
  if x.enable = false then s else
  let f := !flipGuard s o
  let g := (groupOuts s).contains o && !groupGuard s o
  let s1 := setOutp s o { x with guardBroken := f, groupBroken := g }
  let ev := fun (t : State) (kind : Nat) => raise t 0x0907 (outArgs s o x.frame (nowSys s) [(4, (dTail s o / 256).toNat), (4, kind)])
  if s.sys.st ≠ .run then s1 else
  let s2 := if f && !x.guardBroken then ev s1 0 else s1
  if g && !x.groupBroken then ev s2 1 else s2

/-- FLIP_GUARD_CHECK (R223): D_tail or the enumeration has changed. -/
def flipGuardCheck (s : State) : State :=
  if s.sys.role ≠ .sender then s else (List.range 8).foldl checkGuard s

def execFlipGuardCheck (s : State) : Host.Outcome State Fault Refusal := live s flipGuardCheck

/-- GROUP_DECISION (R225): at g_n of the earliest undecided frame, ADVANCE or REPEAT on every output of the group. -/
def groupDecision (s : State) : State :=
  match (groupOuts s).filter fun o => (outp s o).started && !pairMuted s o with
  | [] => s
  | o :: rest =>
    if outputsRun s = false then s else
    match s.send.group.due with
    | [] => s
    | (n, f) :: later =>
      if nowSys s * 256 < f * 256 + groupLag s then s else
      let late := tabGet none s.send.group.late n
      let rep := late.isSome
      let s1 := { s with send.group.due := later, send.group.decided := lastN 64 (s.send.group.decided ++ [(n, rep)]), send.group.late := tabSet none s.send.group.late n none }
      let s2 := (o :: rest).foldl (fun t k =>
        sendSync (noteSent (if rep then bump t 9 k 6 else t) k n 1) k (syncCell 4 n [b8 (b2n rep)])) s1
      match late with
      | some dev => raise s2 0x0908 (outArgs s o n (nowSys s) [(4, dev)])
      | none => s2

def execGroupDecision (s : State) : Host.Outcome State Fault Refusal := live s groupDecision

end Sys2Proof.Machine
end

