-- ==== Sys2Proof/Machine/Layers.lean ====
section
/-! DEFINITION. Commands on layers, still buffers, the wall map, outputs and check rectangles, with their budgets
(05_composition R179–R201; 06_scanout R205, R206, R218–R221; 07_cascade_link R236). -/

namespace Sys2Proof.Machine

/-! ### Budgets (05 R200, 07 R236) -/

/-- A sum of fractions, numerator and denominator. -/
def fracAdd (a b : Nat × Nat) : Nat × Nat := if b.2 = 0 then a else (a.1 * b.2 + b.1 * a.2, a.2 * b.2)
def fracSum (l : List (Nat × Nat)) : Nat × Nat := l.foldl fracAdd (0, 1)
def fracLe (a : Nat × Nat) (k : Nat) : Bool := decide (a.1 ≤ k * a.2)

/-- The number of bits set below bit `n`. -/
def bitCount (n x : Nat) : Nat := ((List.range n).filter (bit x)).length

/-- A configuration of the composition engine: outputs, enabled definitions and bindings. The sums over enabled layers
take every one, also where its output does not run (05 R200). -/
structure CompPlan where
  outs : List (Nat × Output)
  defs : List (List Nat)
  binds : List Binding
deriving DecidableEq, Repr

/-- The configuration as it stands: of each slot its pending definition, else its active one. -/
def planNow (s : State) : CompPlan :=
  { outs := s.send.outs
    defs := (s.send.layers.filterMap fun p => nextDef p.2).filter dEnable
    binds := s.send.streams.filterMap fun p => p.2.map Stream.bind }

/-- The output of a definition, running or not. -/
def planOut (p : CompPlan) (d : List Nat) : Output := ((p.outs.find? fun q => q.1 == dOutput d).map Prod.snd).getD Output.cold

/-- The outputs that run. -/
def planOn (p : CompPlan) : List (Nat × Output) := p.outs.filter fun q => q.2.enable

/-- Overlap of [at, at + n) with [0, hi). -/
def clipLen (at_ : Int) (n hi : Nat) : Nat := (min (at_ + n) hi - max at_ 0).toNat

/-- Composition budget: layer-pixels per second. -/
def compTerms (p : CompPlan) : List (Nat × Nat) :=
  ((planOn p).map fun q => (q.2.width * q.2.height * q.2.views * q.2.num, q.2.den)) ++
  p.defs.map fun d =>
    let x := planOut p d
    (clipLen (dDestX d) (dDestW d) x.width * clipLen (dDestY d) (dDestH d) x.height * bitCount 4 (dViews d) * x.num, x.den)

/-- Four times the bytes per pixel of a stream (R172). -/
def streamQuad (b : Binding) : Nat := 4 * pgBytes b.sampling b.depth / max 1 (pgPixels b.sampling b.depth)

/-- Four times the bytes per pixel of a definition's source; 0 where it has none. -/
def srcQuad (s : State) (d : List Nat) : Nat :=
  match dType d with
  | 0 => (match stream s (dSource d) with
    | some x => streamQuad x.bind
    | none => 0)
  | 1 => (match stillBuf s (dSource d) with
    | some b => 4 * stillBytes b.format
    | none => 0)
  | _ => 0

/-- DRAM budget: bytes per second. -/
def dramTerms (s : State) (p : CompPlan) : List (Nat × Nat) :=
  (p.binds.map fun b => (b.width * b.height * streamQuad b * b.rateNum, 4 * b.rateDen)) ++
  p.defs.map fun d =>
    let x := planOut p d
    (dCropW d * dCropH d * srcQuad s d * bitCount 4 (dViews d) * x.num * (if dRotate d % 2 = 1 then 2 else 1), 4 * x.den)

/-- Line stores: source pixels. -/
def storePixels (p : CompPlan) : Nat := ((p.defs.filter fun d => decide (dType d < 2)).map fetchW).sum

/-- Shortest active time of an output's frames (06 R208). -/
def minActive (x : Output) : Nat := x.den * secTicks / max 1 x.num - x.vb

/-- Pixel capacity of a port by its rate, and ten or 33 cell times with their scale (R230, R236). -/
def portPixels (rate : Nat) : Nat :=
  match rate with
  | 0 => 1000000000
  | 1 => 500000000
  | _ => 194117647
def cellTimeOk (rate line cells : Nat) : Bool :=
  match rate with
  | 0 => decide (cells * 512 ≤ 10 * line)
  | 1 => decide (cells * 1024 ≤ 10 * line)
  | _ => decide (cells * 8704 ≤ 33 * line)

/-- The frame and line conditions of the cascade capacity (R236). -/
def cascadeOk (rate : Nat) (x : Output) : Bool :=
  decide (100 * x.width * x.height * x.views * x.num ≤ 99 * portPixels rate * x.den) &&
    cellTimeOk rate (minActive x / max 1 x.height) (cdiv ((3 * tripletsOf x.width x.views + 4) * 25) 24)

/-- The budget that a configuration breaks, by its DETAIL (13_mailbox R496). -/
def overBudget (s : State) (p : CompPlan) : Option Nat :=
  if fracLe (fracSum (compTerms p)) 16000000000 = false then some 1
  else if fracLe (fracSum (dramTerms s p)) 100000000000 = false then some 2
  else if 66628 < storePixels p then some 3
  else if ((planOn p).all fun q => cascadeOk (keyU s 0x0202 q.1 1) q.2) = false then some 4
  else none

/-! ### LAYER_DEFINE (R185, R186) -/

/-- The payload word of a definition's first field out of its range. -/
def defBad (d : List Nat) : Option Nat :=
  let inSize := fun n => decide (1 ≤ n) && decide (n ≤ 16384)
  if dLoss d = 3 then some 0
  else if 8 < dTransfer d then some 1
  else if (dType d = 0 ∧ 7 < dSource d) ∨ (dType d = 3 ∧ 4 < dSource d) then some 1
  else if inSize (dCropW d) = false ∨ inSize (dCropH d) = false then some 3
  else if inSize (dDestW d) = false ∨ inSize (dDestH d) = false then some 5
  else if dStep d = 0 then some 6
  else none

def bodyLayerDefine : Body := fun c s =>
  let d := (List.range 25).map (pw c)
  match defBad d with
  | some i => (s, rBad .badParam i)
  | none =>
    let k := bits (pw c 0) 24 6
    (setLayer s k { layer s k with staged := some d }, rOk)

def opLayerDefine : OpSpec := opS 0x30 stRdRnHoSa false (some 25)
def execLayerDefine (c : Cmd) (s : State) : Host.Outcome State Fault Refusal := live s (runCmd opLayerDefine noBuild bodyLayerDefine c)

/-! ### LAYER_COMMIT (R196–R198; 06 R211) -/

/-- The slots that a commit names. -/
def maskSlots (c : Cmd) : List Nat := (List.range 64).filter fun i => bit (pw c (i / 32)) (i % 32)

/-- Size of a definition's source; `none` where it is not bound or not registered. -/
def srcSize (s : State) (d : List Nat) : Option (Nat × Nat) :=
  if dType d = 0 then (stream s (dSource d)).map fun x => (x.bind.width, x.bind.height)
  else (stillBuf s (dSource d)).map fun b => (b.width, b.height)

/-- A scaling ratio lies in R189. -/
def ratioOk (sIn sOut : Nat) : Bool := sIn == sOut || (decide (sIn ≤ 16 * sOut) && decide (sOut ≤ 64 * sIn))

/-- A staged definition fits its output's views and its source. -/
def defFits (s : State) (d : List Nat) : Bool :=
  decide (dViews d < 2 ^ (outp s (dOutput d)).views) &&
    (decide (2 ≤ dType d) ||
      (match srcSize s d with
      | none => false
      | some (w, h) => decide (dCropX d + dCropW d ≤ w) && decide (dCropY d + dCropH d ≤ h) &&
          ratioOk (fetchW d) (dDestW d) && ratioOk (fetchH d) (dDestH d)))

/-- The slots with the named staged definitions made pending. -/
def pendSlots (s : State) (l : List Nat) : Tab LayerSlot :=
  l.foldl (fun t k => tabUpd LayerSlot.cold t k fun x => { x with pend := x.staged }) s.send.layers

/-- Enabled definitions of an output as they would stand, without a shared Z. -/
def zClear (t : Tab LayerSlot) (o : Nat) : Bool :=
  decide (((t.filterMap fun p => nextDef p.2).filter fun d => dEnable d && dOutput d == o).map dZ).Nodup

/-- The slot of a commit at fault. -/
def commitBad (s : State) (l : List Nat) (o : Nat) : Option Nat :=
  match l.find? fun k => (match (layer s k).staged with
    | none => true
    | some d => dOutput d != o || !defFits s d ||
        (match (layer s k).active with
        | some a => dEnable a && dOutput a != o
        | none => false)) with
  | some k => some k
  | none => if zClear (pendSlots s l) o then none else l.head?

/-- In STANDBY and SAFE the pending definitions become active at acceptance (R197). The frame they first show is
not yet known: a free value. -/
def commitNow (s : State) (l : List Nat) (o tag : Nat) : State :=
  let s1 := { s with send.layers := l.foldl (fun t k =>
    tabUpd LayerSlot.cold t k fun x => { x with active := x.staged, pend := none, held := none }) s.send.layers }
  let n := Config.free s.sys.free 0x31 % 65536
  cmdDone (raise (nextFree s1) 0x0705 (args [(4, o), (4, tag), (4, n), (4, 0)])) tag 0x31 .ok

/-- In READY, RUN and HOLD they wait for the latch point. One that lands at or after the latch point of a frame that has
not started, thus anywhere in the blanking, carries COMMIT_LATE (06 R211). -/
def commitPend (s : State) (l : List Nat) (o tag : Nat) : State :=
  let x := outp s o
  let late := x.started && (x.latched || (x.inFrame && decide (nowSys s < x.start)))
  let s1 := setOutp { s with send.layers := pendSlots s l } o { x with commits := x.commits ++ [(tag, late)] }
  if late then bump s1 9 o 2 else s1

/-- Bytes that a still buffer takes. -/
def stillLen (b : StillBuf) : Nat := b.pitch * b.height

/-- The still buffers of a commit are capture inputs: CONTENT records, once per buffer (14_spillway R555). -/
def recordStills (s : State) (l : List Nat) : State :=
  let ids := (l.filterMap fun k => match (layer s k).staged with
    | some d => if dType d = 1 then some (dSource d) else none
    | none => none).eraseDups
  ids.foldl (fun t id => match stillBuf t id with
    | some b => capRec t 0x04 id 0 (leBytes 4 1 ++ leBytes 4 id ++ leBytes 4 (crc32 (rdBytes t b.addr (stillLen b))))
    | none => t) s

/-- LAYER_COMMIT. -/
def bodyLayerCommit : Body := fun c s0 =>
  let l := maskSlots c
  match l with
  | [] => (s0, rBad .badParam 0)
  | k :: _ =>
    match (layer s0 k).staged with
    | none => (s0, rBad .badParam (k / 32))
    | some d =>
      let o := dOutput d
      let s := latchPointDue o s0
      match commitBad s l o with
      | some i => (s, rBad .badParam (i / 32))
      | none =>
        match overBudget s (planNow { s with send.layers := pendSlots s l }) with
        | some b => (s, rBad .overBudget b)
        | none =>
          (withRetire (fun t => if counted t.sys.st then commitPend t l o c.tag else commitNow t l o c.tag) (recordStills s l), rAccepted)

def opLayerCommit : OpSpec := opS 0x31 stRdRnHoSa false (some 2)
def execLayerCommit (c : Cmd) (s : State) : Host.Outcome State Fault Refusal := live s (runCmd opLayerCommit noBuild bodyLayerCommit c)

/-! ### Still buffers (R179–R183) -/

/-- First byte of the stream area (R172). -/
def streamAreaAt (s : State) : Nat := dramTop s - keyU s 0x0704 0 4 * 2 ^ 20

/-- The payload word at fault of a registration. -/
def bufferBad (s : State) (id : Nat) (b : StillBuf) : Option Nat :=
  let inSize := fun n => decide (1 ≤ n) && decide (n ≤ 16384)
  if 3 < b.format ∨ (stillBuf s id).isSome then some 0
  else if b.addr % 256 ≠ 0 then some 1
  else if inSize b.width = false ∨ inSize b.height = false ∨ (b.format = 2 ∧ b.width % 2 = 1) then some 3
  else if b.pitch % 256 ≠ 0 ∨ b.pitch < b.width * stillBytes b.format then some 4
  else if streamAreaAt s < b.addr + stillLen b then some 1
  else if s.send.bufs.any fun p => (match p.2 with
      | some q => decide (b.addr < q.addr + stillLen q ∧ q.addr < b.addr + stillLen b)
      | none => false) then some 1
  else none

/-- BUFFER_REGISTER (R180, R181). -/
def bodyBufferRegister : Body := fun c s =>
  let id := bits (pw c 0) 0 10
  let b : StillBuf := { format := bits (pw c 0) 16 4, addr := pw c 1 + pw c 2 * 2 ^ 32
                        width := pw c 3 % 65536, height := pw c 3 / 65536, pitch := pw c 4 }
  match bufferBad s id b with
  | some i => (s, rBad .badParam i)
  | none => ({ s with send.bufs := tabSet none s.send.bufs id (some b) }, rOk)

def opBufferRegister : OpSpec := opS 0x32 stRdRnHoSa false (some 5)
def execBufferRegister (c : Cmd) (s : State) : Host.Outcome State Fault Refusal := live s (runCmd opBufferRegister noBuild bodyBufferRegister c)

/-- BUFFER_RELEASE (R181–R183). -/
def bodyBufferRelease : Body := fun c s =>
  let id := bits (pw c 0) 0 10
  if (stillBuf s id).isNone then (s, rBad .badParam 0)
  else if bufState s id ≠ 0 then (s, rBad .pinned id)
  else ({ s with send.bufs := tabSet none s.send.bufs id none }, rOk)

def opBufferRelease : OpSpec := opS 0x33 stRdRnHoSa false (some 1)
def execBufferRelease (c : Cmd) (s : State) : Host.Outcome State Fault Refusal := live s (runCmd opBufferRelease noBuild bodyBufferRelease c)

/-! ### MAP_DEFINE (R194, R195) -/

/-- Rectangle `k` of the payload: X, Y, W, H. -/
def mapRect (c : Cmd) (k : Nat) : Nat × Nat × Nat × Nat :=
  let a := pw c (1 + 2 * k)
  let b := pw c (2 + 2 * k)
  (a % 65536, a / 65536, b % 65536, b / 65536)

/-- A rectangle satisfies R195 on a canvas. -/
def mapRectOk (x : Output) (r : Nat × Nat × Nat × Nat) : Bool :=
  let (rx, ry, w, h) := r
  w == 0 || (decide (w * h ≤ 32768) && decide (rx + w ≤ x.width) && decide (ry + h ≤ x.height))

/-- MAP_DEFINE. -/
def bodyMapDefine : Body := fun c s =>
  let o := bits (pw c 0) 16 3
  let n := bits (pw c 0) 8 8
  let first := bits (pw c 0) 0 8
  if n = 0 ∨ 30 < n ∨ first = 0 ∨ 255 < first + n - 1 then (s, rBad .badParam 0)
  else if c.len ≠ 1 + 2 * n then (s, rBad .badLength 0xFFFF)
  else match (List.range n).find? fun k => !mapRectOk (outp s o) (mapRect c k) with
    | some k => (s, rBad .badParam (1 + 2 * k))
    | none =>
      let m := (List.range n).foldl (fun t k =>
        let r := mapRect c k
        tabSet (0, 0, 0, 0) t (first + k) (if r.2.2.1 = 0 then (0, 0, 0, 0) else r)) (outp s o).map
      (setOutp s o { outp s o with map := m }, rOk)

def opMapDefine : OpSpec := opS 0x34 [.standby] false none
def execMapDefine (c : Cmd) (s : State) : Host.Outcome State Fault Refusal := live s (runCmd opMapDefine noBuild bodyMapDefine c)

/-! ### OUTPUT_TIMING (06 R205, R206) -/

/-- Two codeword periods at a rate, the bound of R206. -/
def twoCodewords (rate : Nat) : Nat :=
  match rate with
  | 0 => 2048
  | 1 => 4096
  | _ => 10551

/-- The bound of R206 on FLIP_LATENCY. -/
def latencyOk (rate : Nat) (x : Output) : Bool := decide (x.latency + twoCodewords rate ≤ x.vb)

/-- The payload word at fault of a timing. -/
def timingBad (s : State) (o : Nat) (x : Output) : Option Nat :=
  let inSize := fun n => decide (1 ≤ n) && decide (n ≤ 16384)
  if portMode s o = 3 then some 0
  else if inSize x.width = false ∨ inSize x.height = false then some 1
  else if x.den = 0 then some 3
  else if 1001 * x.num < 24000 * x.den ∨ 240 * x.den < x.num then some 2
  else if x.vb < 500000 ∨ x.den * secTicks < 2 * x.vb * x.num then some 4
  else if x.den * secTicks ≤ x.phase * x.num then some 5
  else if minActive x / x.height < 10 * x.width * x.views then some 1
  else if 10000000 < x.latency ∨ latencyOk (keyU s 0x0202 o 1) x = false then some 6
  else none

/-- OUTPUT_TIMING. -/
def bodyOutputTiming : Body := fun c s =>
  let o := bits (pw c 0) 0 3
  let x := { outp s o with
    enable := bit (pw c 0) 31, views := bits (pw c 0) 16 2 + 1, width := pw c 1 % 65536, height := pw c 1 / 65536
    num := pw c 2, den := pw c 3 % 65536, vb := pw c 4, phase := pw c 5, latency := pw c 6 }
  match timingBad s o x with
  | some i => (s, rBad .badParam i)
  | none =>
    let s1 := setOutp s o x
    match overBudget s1 (planNow s1) with
    | some b => (s, rBad .overBudget b)
    | none => (s1, rOk)

def opOutputTiming : OpSpec := opS 0x35 [.standby] false (some 7)
def execOutputTiming (c : Cmd) (s : State) : Host.Outcome State Fault Refusal := live s (runCmd opOutputTiming noBuild bodyOutputTiming c)

/-! ### Check rectangles (06 R218–R221) -/

/-- CRC_RECT_SET. -/
def bodyCrcRectSet : Body := fun c s =>
  let o := bits (pw c 0) 16 3
  let k := bits (pw c 0) 0 4
  let x := outp s o
  let r : CrcRect := { CrcRect.cold with
    enable := bit (pw c 0) 31, learn := bit (pw c 0) 30, view := bits (pw c 0) 20 2
    x := pw c 1 % 65536, y := pw c 1 / 65536, w := pw c 2 % 65536, h := pw c 2 / 65536
    expected := if bit (pw c 0) 30 then none else some (pw c 3), first := true }
  if x.views ≤ r.view then (s, rBad .badParam 0)
  else if r.w = 0 ∨ r.h = 0 then (s, rBad .badParam 2)
  else if x.width < r.x + r.w ∨ x.height < r.y + r.h then (s, rBad .badParam 1)
  else if counted s.sys.st then (setOutp s o { x with pendRects := tabSet CrcRect.cold x.pendRects k r }, rOk)
  else (setOutp s o { x with rects := tabSet CrcRect.cold x.rects k r, nextRects := tabErase x.nextRects k, pendRects := tabErase x.pendRects k }, rOk)

def opCrcRectSet : OpSpec := opS 0x36 stRdRnHoSa false (some 4)
def execCrcRectSet (c : Cmd) (s : State) : Host.Outcome State Fault Refusal := live s (runCmd opCrcRectSet noBuild bodyCrcRectSet c)

/-- The setting of a rectangle in force since the last latch point (R219). -/
def rectShown (x : Output) (k : Nat) : CrcRect :=
  let r := tabGet CrcRect.cold x.nextRects k
  if r = CrcRect.cold then tabGet CrcRect.cold x.rects k else r

/-- Result words of one rectangle (R221). -/
def rectWords (r : CrcRect) : List Word :=
  [w32 r.crc, w32 (r.frame % 65536 * 65536 + r.mismatches), w32 (flag r.valid 2 + flag r.match_ 1 + flag r.enable 0)]

/-- CRC_RESULT_READ. -/
def bodyCrcResultRead : Body := fun c s =>
  let x := outp s (bits (pw c 0) 0 3)
  (s, rWords (w32 (pw c 0 % 8) :: (List.range 16).flatMap fun k => rectWords (rectShown x k)))

def opCrcResultRead : OpSpec := opS 0x37 [] false (some 1)
def execCrcResultRead (c : Cmd) (s : State) : Host.Outcome State Fault Refusal := live s (runCmd opCrcResultRead noBuild bodyCrcResultRead c)

end Sys2Proof.Machine
end

