-- ==== Sys2Proof/Machine/Capture.lean ====
section
/-! DEFINITION. CAPTURE_CONTROL and REPLAY_CONTROL (14_spillway R553–R563). -/

namespace Sys2Proof.Machine

/-! ### Capture -/

/-- The ring asked for by CAPTURE_CONTROL: address and bytes. -/
def capRingAt (c : Cmd) : Nat := pw c 1 + pw c 2 * 2 ^ 32
def capRingLen (c : Cmd) : Nat := pw c 3 * 2 ^ 20

/-- Two byte ranges overlap. -/
def rangesMeet (a n b m : Nat) : Bool := decide (a < b + m) && decide (b < a + n)

/-- The ring overlaps the stream area, a registered buffer, a jet list or a summary area (R554). -/
def ringMeets (s : State) (a n : Nat) : Bool :=
  (s.sys.role == .sender && (rangesMeet a n (streamAreaAt s) (dramTop s - streamAreaAt s) ||
    s.send.bufs.any fun p => match p.2 with
      | some b => rangesMeet a n b.addr (b.pitch * b.height)
      | none => false)) ||
  (s.sys.role == .bed && s.bed.build.st != 0 && (layerHeads s).any fun h =>
    let b := blist s h
    rangesMeet a n b.addr (32 * b.count) || rangesMeet a n b.sum (32 * b.count))

/-- The pixel region lies within its stream (R554). -/
def regionOk (s : State) (c : Cmd) : Bool :=
  match stream s (pw c 9 % 8) with
  | some x => decide (pw c 7 % 65536 + pw c 8 % 65536 ≤ x.bind.width) && decide (pw c 7 / 65536 + pw c 8 / 65536 ≤ x.bind.height)
  | none => false

/-- What R554 refuses: the index of the word at fault. -/
def captureFault (s : State) (c : Cmd) : Option Nat :=
  let w := pw c 0
  let tile := s.sys.role == .tile
  if tile && (bits w 28 2 != 1 || bit w 27) then some 0
  else if bit w 26 && s.sys.role != .sender then some 0
  else if tile then
    (if pw c 1 ≠ 0 then some 1 else if pw c 2 ≠ 0 then some 2 else if pw c 3 ≠ 0 then some 3
     else if 10000 < pw c 4 then some 4 else none)
  else if pw c 1 % 4096 ≠ 0 then some 1
  else if pw c 3 < 1 ∨ 1024 < pw c 3 then some 3
  else if dramTop s < capRingAt c + capRingLen c then some 1
  else if 10000 < pw c 4 then some 4
  else if ringMeets s (capRingAt c) (capRingLen c) then some 1
  else if bit w 26 && !regionOk s c then some 7
  else none

/-- OP 0: start or arm a capture (R553, R554). START 0 has its origin at once. -/
def captureStart : Body := fun c s =>
  if 1 ≤ s.cap.state ∧ s.cap.state ≤ 3 then (s, rBad .busy 0)
  else match captureFault s c with
    | some i => (s, rBad .badParam i)
    | none =>
      let w := pw c 0
      let s1 := { s with cap := { Capture.cold with
        state := 1, startMode := bits w 28 2, wrap := bit w 27, pixels := bit w 26, stopOnFault := bit w 25, stopSev := bits w 23 2
        headMask := w % 65536, ring := capRingAt c, ringMib := pw c 3, postMs := pw c 4
        startTime := (unshort (sysTicks s) (pw c 5 + pw c 6 % 65536 * 2 ^ 32)).toNat
        region := [pw c 7 % 65536, pw c 7 / 65536, pw c 8 % 65536, pw c 8 / 65536, pw c 9 % 8] } }
      (capOriginAt s1 0, rOk)

/-- OP 1 ends the capture (R557). -/
def captureStop : Body := fun _ s => (capEnd s 1, rOk)

/-- The oldest checkpoint that no later record has overwritten, as an offset. -/
def oldestCheckpoint (s : State) : Nat :=
  match s.cap.ckpts.find? fun p => decide (s.cap.bytes ≤ p + capSize s) with
  | some p => p % max 1 (capSize s)
  | none => 0xFFFFFFFF

/-- OP 2: the status (R554). -/
def captureStatus : Body := fun _ s =>
  (s, rWords ([w32 (s.cap.state % 16 + s.cap.endCause % 16 * 16 + flag s.cap.wrap 8 + flag s.cap.wrapped 9 + flag s.cap.lost 10)] ++
    two32 s.cap.bytes ++ [w32 s.cap.writeOff, w32 (oldestCheckpoint s)] ++ two32 s.cap.originLocal))

/-- OP 3: bytes of the ring (R554). What lies outside the ring is BAD_PARAM (DESIGN CHOICE, log 35). -/
def captureRead : Body := fun c s =>
  let off := pw c 1
  let n := pw c 2
  if n < 1 ∨ 240 < n then (s, rBad .badParam 2)
  else if capSize s < off + n then (s, rBad .badParam 1)
  else (s, rWords (wordsOf (if s.sys.role = .tile then tabGetList 0 s.cap.onChip off n else rdBytes s (s.cap.ring + off) n)))

/-- CAPTURE_CONTROL carries 1 to 10 words; OP selects. -/
def captureLen (b : Body) : Body := fun c s => if c.len = 0 ∨ 10 < c.len then (s, rBad .badLength 10) else b c s
def captureBody (op : Nat) : Body :=
  match op with
  | 0 => captureLen captureStart
  | 1 => captureLen captureStop
  | 2 => captureLen captureStatus
  | _ => captureLen captureRead

def opCapture : OpSpec := opTSB 0x84 [.standby, .ready, .run, .hold, .safe] true none
/-- The four rows are one opcode: word 0 selects. -/
def runCapture (c : Cmd) (s : State) : State := runCmd opCapture noBuild (captureBody (bits (pw c 0) 30 2)) c s
def execCaptureStart (c : Cmd) (s : State) : Host.Outcome State Fault Refusal := live s (runCapture c)
def execCaptureStop (c : Cmd) (s : State) : Host.Outcome State Fault Refusal := live s (runCapture c)
def execCaptureStatus (c : Cmd) (s : State) : Host.Outcome State Fault Refusal := live s (runCapture c)
def execCaptureRead (c : Cmd) (s : State) : Host.Outcome State Fault Refusal := live s (runCapture c)

/-- CAPTURE_ORIGIN (R553, R555): the origin at START_TIME. Entries to RUN and BUILD_START reach theirs themselves. -/
def captureOrigin (s : State) : State :=
  if s.cap.startMode = 3 ∧ s.cap.startTime ≤ sysTicks s then capOrigin s else s

def execCaptureOrigin (s : State) : Host.Outcome State Fault Refusal := live s captureOrigin

/-- CAPTURE_CHECKPOINT (R557): with WRAP, every CHECKPOINT_PERIOD; of a BED at a frame instant whose number is a
multiple of 1024. -/
def captureCheckpoint (s : State) : State :=
  if capRuns s = false ∨ s.cap.wrap = false ∨ s.time.loc < s.cap.lastCkpt + keyU s 0x0D01 0 2 * msTicks ∨
      (s.sys.role = .bed ∧ frameNumber s (buildNow s) % 1024 ≠ 0) then s else
  nextFree (capRec { s with cap.lastCkpt := s.time.loc, cap.ckpts := s.cap.ckpts ++ [s.cap.bytes] } 0x0D 0 0 (checkpointBody s))

def execCaptureCheckpoint (s : State) : Host.Outcome State Fault Refusal := live s captureCheckpoint

/-- CAPTURE_END (R557): POST_MS has passed after the stop trigger, the ring is full, or `lost` records found no room in
the FIFO. The last two record CAPTURE_OVERFLOW. -/
def captureEnd (lost : Nat) (s : State) : State :=
  if capRuns s = false then s
  else if 0 < lost then fire (capEnd { bumpN s 0x0D 0 7 lost with cap.lost := true } 3) 44 0 2
  else if s.cap.full then fire (capEnd s 2) 44 0 1
  else if s.cap.stopAt.any fun t => decide (t ≤ s.time.loc) then capEnd s 4
  else s

def execCaptureEnd (lost : Nat) (s : State) : Host.Outcome State Fault Refusal := live s (captureEnd lost)

/-! ### Replay -/

/-- The start record's four values as captured (R555, R560): an ORIGIN's, or a CHECKPOINT's first. -/
def startRecordValues (r : RepRec) : List Nat :=
  if r.type = 0x01 then [leAt r.body 0 4, leAt r.body 8 4, leAt r.body 12 4, leAt r.body 16 4]
  else (List.range 4).map fun i => leAt r.body (4 * i) 4

/-- The capture holds an END record of cause 3: LOST was set. -/
def repLost (s : State) : Nat → Nat → Bool
  | 0, _ => false
  | n + 1, off =>
    match repRecord s off with
    | some r => if r.type = 0x10 then leAt r.body 0 4 == 3 else repLost s n (off + r.len)
    | none => false

/-- The result of a load (R560). -/
def loadResult (s : State) : Nat :=
  match repRecord s 0 with
  | none => 5
  | some r =>
    if r.type ≠ 0x01 ∧ r.type ≠ 0x0D then 5
    else
      let bad := (List.range 4).find? fun i => (startRecordValues r).getD i 0 != (startValues s).getD i 0
      match bad with
      | some i => i + 1
      | none => if repLost s (repAvail s / 16 + 1) 0 then 6 else 0

/-- The load is complete: REPLAY_LOADED, and CMD_DONE. A capture without a start record is not loaded. -/
def finishLoad (s : State) : State :=
  let r := loadResult s
  cmdEnds (raise { s with rep.st := if r = 5 then 0 else 2, rep.result := r } 0x0D08 (args [(1, r)])) s.rep.tag 0x85 0

/-- OP 0 (R559, R560). A TILE's start record comes with its feeds. -/
def replayLoad : Body := fun c s =>
  let tile := s.sys.role == .tile
  let at_ := pw c 1 + pw c 2 * 2 ^ 32
  if s.rep.st = 3 ∨ s.rep.st = 1 then (s, rBad .busy 0)
  else if !tile && decide (dramTop s < at_ + pw c 3) then (s, rBad .badParam 1)
  else if !tile && decide (dramTop s < pw c 5 + pw c 6 * 2 ^ 32 + 16 * pw c 7) then (s, rBad .badParam 5)
  else
    let s1 := { s with rep := { Replay.cold with
      st := 1, src := at_, len := pw c 3, startOff := pw c 4, table := pw c 5 + pw c 6 * 2 ^ 32, entries := pw c 7, tag := c.tag } }
    (if tile then s1 else finishLoad s1, rAccepted)

/-- OP 1 (R561): the engines run. Without a loaded capture it is BAD_PARAM (DESIGN CHOICE, log 35). -/
def replayStart : Body := fun c s =>
  if s.rep.st = 3 then (s, rBad .busy 0)
  else if s.rep.st ≠ 2 then (s, rBad .badParam 0)
  else
    let s1 := { s with rep.st := 3, rep.tag := c.tag, rep.stopOnMismatch := bit (pw c 0) 29 }
    (if s.sys.role = .tile then feedsDone (replayRun (repAvail s1 / 16 + 1) s1) else s1, rAccepted)

/-- The bytes that a feed carries: BYTES of its data words, which follow 0x0C. -/
def feedBytes (c : Cmd) : List Byte := (bytesOf (c.payload.drop 4)).take (pw c 2 % 256)

/-- OP 2 (R559): a TILE takes capture bytes in order. The start record complete, the load ends; while replay runs, whole
records are consumed. -/
def replayFeed : Body := fun c s =>
  let n := pw c 2 % 256
  if s.sys.role ≠ .tile ∨ s.rep.st = 0 then (s, rBad .badParam 0)
  else if pw c 1 ≠ s.rep.fed.length then (s, rBad .badParam 1)
  else if n < 1 ∨ 232 < n ∨ (bytesOf (c.payload.drop 4)).length < n then (s, rBad .badParam 2)
  else
    let fed := s.rep.fed ++ feedBytes c
    let s1 := { s with rep.fed := fed, rep.feeds := s.rep.feeds ++ [(fed.length, c.tag)] }
    let s2 := if s1.rep.st = 1 ∧ (repRecord s1 0).isSome then finishLoad s1 else s1
    (feedsDone (replayRun (repAvail s2 / 16 + 1) s2), rAccepted)

/-- OP 3 (R563). -/
def replayAbort : Body := fun c s => (cmdEnds (replayStop s 1) c.tag 0x85 0, rAccepted)

/-- OP selects. -/
def replayBody (op : Nat) : Body :=
  match op with
  | 0 => replayLoad
  | 1 => replayStart
  | 2 => replayFeed
  | _ => replayAbort

def opReplay : OpSpec := opTSB 0x85 [.service] false none
/-- The four rows are one opcode: word 0 selects. -/
def runReplay (c : Cmd) (s : State) : State := runCmd opReplay noBuild (replayBody (bits (pw c 0) 30 2)) c s
def execReplayLoad (c : Cmd) (s : State) : Host.Outcome State Fault Refusal := live s (runReplay c)
def execReplayRun (c : Cmd) (s : State) : Host.Outcome State Fault Refusal := live s (runReplay c)
def execReplayFeed (c : Cmd) (s : State) : Host.Outcome State Fault Refusal := live s (runReplay c)
def execReplayAbort (c : Cmd) (s : State) : Host.Outcome State Fault Refusal := live s (runReplay c)

/-- REPLAY_DONE (R561, R563): the records of a capture in DRAM have been consumed. -/
def replayDone (s : State) : State :=
  if s.rep.st = 3 ∧ s.sys.role ≠ .tile then replayRun (repAvail s / 16 + 2) s else s

def execReplayDone (s : State) : Host.Outcome State Fault Refusal := live s replayDone

end Sys2Proof.Machine
end

