-- ==== Sys2Proof/Machine/Faults.lean ====
section
/-! DEFINITION. FAULT_READ, FAULT_CLEAR, FAULT_INJECT, LOG_READ and plain firings (14_spillway R530–R552). -/

namespace Sys2Proof.Machine

/-! ### Firings and injection -/

/-- SPILLWAY_FIRING (R530, R531): a source's line as its unit drives it: `line` 0 asserts it for one cycle,
1 holds it asserted, 2 releases it. A reserved source has no line. -/
def spillwayFiring (src inst detail line : Nat) (s : State) : State :=
  if 45 < src ∨ s.sys.st = .reset then s
  else if line = 2 then releaseLine s src inst
  else if line = 1 then assertLine s src inst detail
  else fire s src inst detail

def execSpillwayFiring (src inst detail line : Nat) (s : State) : Host.Outcome State Fault Refusal :=
  live s (spillwayFiring src inst detail line)

/-- The unit kinds that R712 lists for the sources of R711. -/
def contextKinds (src : Nat) : List Nat :=
  match src with
  | 2 => [8, 4, 6, 7]
  | 4 => [4, 6]
  | 11 => [3]
  | 14 => [5]
  | _ => []

/-- The unit kind that a source's INSTANCE names, and the number of its values in the widest role (R537, R712). -/
def instanceKind (src : Nat) : Option Nat :=
  match src with
  | 9 => some 1 | 10 => some 2 | 12 => some 4 | 13 => some 5 | 16 => some 8 | 17 => some 8 | 18 => some 8
  | 20 => some 9 | 22 => some 6 | 23 => some 6 | 24 => some 6 | 25 => some 10 | 26 => some 6 | 27 => some 7
  | 28 => some 7 | 32 => some 11 | 42 => some 1 | 43 => some 3
  | _ => none

/-- A kind of unit exists in a role (R540). -/
def kindExists (role : Role) (kind : Nat) : Bool := unitExists role kind 0

/-- Calibration elements by domain (16_calibration R599): SINK groups, DELAY interpolators, SLICER lanes, CSADC stages. -/
def calInstance (role : Role) (inst : Nat) : Bool :=
  match inst / 4096, role with
  | 0, .tile => decide (inst % 4096 < 96)
  | 1, .tile => decide (inst % 4096 < 112)
  | 1, .bed => decide (inst % 4096 < 52)
  | 1, _ => decide (inst % 4096 < 16)
  | 2, _ => decide (inst % 4096 < 16)
  | 3, .tile => decide (inst % 4096 < 12)
  | 3, .bed => decide (inst % 4096 < 12)
  | _, _ => false

/-- INSTANCE values that R712 allows for an injected source in a role (R544). -/
def injectInstance (role : Role) (src inst : Nat) : Bool :=
  if (contextKinds src).isEmpty = false then
    inst / 4096 == 0 || ((contextKinds src).contains (inst / 4096) && unitExists role (inst / 4096) (inst % 4096))
  else match instanceKind src with
    | some k => !kindExists role k || unitExists role k inst
    | none =>
      if src = 19 then role != .tile || decide (inst < 3)
      else if src = 29 ∨ src = 30 ∨ src = 31 then decide (inst < 24)
      else if src = 35 then decide (inst < 5)
      else if src = 38 then decide (inst < 12)
      else if src = 41 then decide (inst < 3)
      else if src = 6 ∨ src = 36 then calInstance role inst
      else inst == 0

/-- FAULT_INJECT (R543–R545). -/
def bodyFaultInject : Body := fun c s =>
  let src := pw c 0 % 64
  let inst := bits (pw c 0) 16 16
  let quiet := bit (pw c 0) 15
  let us := pw c 1
  if 45 < src ∨ injectInstance s.sys.role src inst = false then (s, rBad .badParam 0)
  else if us < 1 ∨ 1000000 < us then (s, rBad .badParam 1)
  else if s.spill.injection.isSome then (s, rBad .busy 0)
  else
    let s1 := bump { s with spill.injection := some ⟨src, inst, quiet, s.time.loc + us * usTicks, false⟩ } 0x0D 0 4
    (fireOne s1 { source := src, inst := inst, detail := 0, injected := true, noReaction := quiet }, rOk)

def opFaultInject : OpSpec := opTSB 0x82 [.standby, .ready, .run, .hold, .service] false (some 2)
def execFaultInject (c : Cmd) (s : State) : Host.Outcome State Fault Refusal :=
  live s (runCmd opFaultInject (fun _ => 0) bodyFaultInject c)

/-- INJECTION_WINDOW_CLOSE (R545). -/
def injectionWindowClose (s : State) : State :=
  match s.spill.injection with
  | some j =>
    if s.time.loc < j.endAt then s
    else raise { s with spill.injection := none } 0x0D05 (args [(1, j.source), (1, b2n j.coincident)])
  | none => s

def execInjectionWindowClose (s : State) : Host.Outcome State Fault Refusal := live s injectionWindowClose

/-! ### Reading and clearing (R547, R548) -/

/-- A fence entry of FAULT_READ (R547). -/
def fenceWord (f : Fence) : Word := w32 (f.kind % 16 * 2 ^ 28 + f.source % 64 * 2 ^ 22 + f.inst % 65536)

/-- SPILL_FIRST as a word (R490, R547). -/
def firstWord (f : First) : Word :=
  w32 (if f.valid then 2 ^ 31 + flag f.coincident 19 + flag f.injected 18 + flag f.merged 17 + flag f.overflow 16 +
    f.severity % 4 * 256 + f.source % 64 else 0)

/-- FAULT_READ (R547). -/
def bodyFaultRead : Body := fun c s =>
  let first := pw c 0 % 256
  let f := s.spill.first
  let es := (s.spill.fences.drop first).take 51
  (s, rWords ([w32 s.spill.status, w32 (s.spill.status / 2 ^ 32), firstWord f] ++ two32 f.localT ++ timeRecord f.sysT ++
    [w32 (f.inst % 65536), w32 f.detail, w32 (es.length * 2 ^ 24 + first * 65536 + s.spill.fences.length % 65536)] ++
    es.map fenceWord))

def opFaultRead : OpSpec := opTSB 0x80 [] false (some 1)
def execFaultRead (c : Cmd) (s : State) : Host.Outcome State Fault Refusal :=
  live s (runCmd opFaultRead (fun _ => 0) bodyFaultRead c)

/-- Clear one status bit unless its line is asserted; its record fences are lifted, and with SENSOR_FAIL the
throttle floor (R542, R548; 15_thermal_ageing R577). -/
def clearBit (mask : Nat) (s : State) (i : Nat) : State :=
  if bit mask i = false ∨ lineAsserted s i then s else
  let s1 := liftFences { s with spill.status := putBit s.spill.status i false } fun f => f.kind == 0 && f.source == i
  if i = 32 then dropFloor s1 else s1

/-- FAULT_CLEAR (R548). -/
def bodyFaultClear : Body := fun c s =>
  let s1 := (List.range 64).foldl (clearBit (pw c 0 + pw c 1 * 2 ^ 32)) s
  let s2 := if bit (pw c 2) 0 then { s1 with spill.first := First.cold } else s1
  (s2, rWords [w32 s2.spill.status, w32 (s2.spill.status / 2 ^ 32)])

def opFaultClear : OpSpec := opTSB 0x81 [] true (some 3)
def execFaultClear (c : Cmd) (s : State) : Host.Outcome State Fault Refusal :=
  live s (runCmd opFaultClear (fun _ => 0) bodyFaultClear c)

/-- LOG_READ (R552). -/
def bodyLogRead : Body := fun c s =>
  let n := pw c 1 % 8
  let next := s.log.next
  let held := s.log.entries.length
  let oldest := next - held
  let first := pw c 0
  if n = 0 then (s, rBad .badParam 1)
  else if next ≤ first then (s, rWords [w32 next, w32 0])
  else
    let skipped := decide (first < oldest)
    let from_ := max first oldest
    let es := (s.log.entries.drop (from_ - oldest)).take n
    (s, rWords ([w32 next, w32 (flag skipped 8 + es.length)] ++ es.flatten))

def opLogRead : OpSpec := opTSB 0x83 [] false (some 2)
def execLogRead (c : Cmd) (s : State) : Host.Outcome State Fault Refusal :=
  live s (runCmd opLogRead (fun _ => 0) bodyLogRead c)

end Sys2Proof.Machine
end

