-- ==== Sys2Proof/Machine/Hardware.lean ====
section
/-! DEFINITION. BAR2, the PCIe link, the die-to-die link, clocks, supplies, the supervisor, memory errors, stage faults and
the TAP (01_architecture; 13_mailbox R493, R529, R714; 19_pins R693, R708). -/

namespace Sys2Proof.Machine

/-! ### BAR2 (13 R493, R714) -/

/-- A protected area: kind 0 still buffer or stream area, 1 jet list, 2 capture ring, 3 beyond the top of DRAM; its ID or
head; its first byte and its length. -/
structure Area where
  kind : Nat
  id : Nat
  lo : Nat
  len : Nat
deriving DecidableEq, Repr

/-- The areas of R714 as they stand. -/
def protectedAreas (s : State) : List Area :=
  (if s.sys.role = .sender then
    ⟨0, 0xFFFF, streamAreaAt s, dramTop s - streamAreaAt s⟩ :: s.send.bufs.filterMap fun p => match p.2 with
      | some b => if bufState s p.1 = 0 then none else some ⟨0, p.1, b.addr, stillLen b⟩
      | none => none
  else []) ++
  (if s.sys.role = .bed ∧ 2 ≤ s.bed.build.st ∧ s.bed.build.st ≤ 6 then
    (layerHeads s).map fun h => ⟨1, h, (blist s h).addr, 32 * (blist s h).count⟩
  else []) ++
  (if capRuns s then [⟨2, 0, s.cap.ring, capSize s⟩] else []) ++ [⟨3, 0, dramTop s, 2 ^ 65⟩]

/-- A byte address lies in an area. -/
def inArea (a : Nat) (r : Area) : Bool := decide (r.lo ≤ a) && decide (a < r.lo + r.len)

/-- The addresses of a write of `n` bytes that are dropped. -/
def droppedBytes (areas : List Area) (at_ n : Nat) : List Nat :=
  ((List.range n).map (at_ + ·)).filter fun a => areas.any (inArea a)

/-- The areas that a write's dropped bytes touch. -/
def touched (areas : List Area) (l : List Nat) : List Area := areas.filter fun r => l.any fun a => inArea a r

/-- The counts of a write with dropped bytes: one for each kind of area (R714). -/
def countDrops (s : State) (ts : List Area) : State :=
  let has := fun k => ts.find? fun r => r.kind == k
  let s1 := if (has 0).isSome then bump s 7 0 6 else s
  let s2 := match has 1 with
    | some r => bump s1 0x0A r.id 8
    | none => s1
  let s3 := if (has 2).isSome then bump s2 0x0D 0 8 else s2
  if (has 3).isSome then bump s3 0 0 9 else s3

/-- PINNED for a buffer's first such write in an output frame (05 R184). -/
def pinnedLog (at_ : Nat) (s : State) (r : Area) : State :=
  if r.kind ≠ 0 ∨ s.send.pinLogged.contains r.id then s
  else raise { s with send.pinLogged := s.send.pinLogged ++ [r.id] } 0x0706 (args [(4, r.id), (4, at_)])

/-- The start of the BAR2 window. -/
def bar2Base (s : State) : Nat := s.regs.bar2Lo + s.regs.bar2Hi * 2 ^ 32

/-- The bytes of a write that are kept. -/
def keepBytes (areas : List Area) : Nat → List Byte → State → State
  | _, [], s => s
  | a, b :: r, s => keepBytes areas (a + 1) r (if areas.any (inArea a) then s else wrBytes s a [b])

/-- A host reaches BAR2: in the roles with a PCIe endpoint, inside the 256 MiB window. -/
def bar2Reaches (s : State) (off n : Nat) : Bool :=
  s.sys.role != .tile && s.sys.st != .reset && decide (off + n ≤ 2 ^ 28)

/-- BAR2_WRITE (R493, R714). -/
def bar2Write (off : Nat) (data : List Byte) (s : State) : State :=
  if bar2Reaches s off data.length = false then s else
  let at_ := bar2Base s + off
  let areas := protectedAreas s
  let l := droppedBytes areas at_ data.length
  let ts := touched areas l
  ts.foldl (pinnedLog (l.headD 0)) (countDrops (keepBytes areas at_ data s) ts)

def execBar2Write (off : Nat) (data : List Byte) (s : State) : Host.Outcome State Fault Refusal := live s (bar2Write off data)

/-- BAR2_READ of `n` words (R493): a word at or above the top of DRAM reads all ones. -/
def bar2Read (off n : Nat) (s : State) : State :=
  if bar2Reaches s off (4 * n) = false then s else
  let at_ := bar2Base s + off
  let top := dramTop s
  let word := fun i => if top < at_ + 4 * i + 4 then w32 0xFFFFFFFF else w32 (rdLe s (at_ + 4 * i) 4)
  emit (if top < at_ + 4 * n then bump s 0 0 9 else s) (.readData 1 ((List.range n).map word))

def execBar2Read (off n : Nat) (s : State) : Host.Outcome State Fault Refusal := live s (bar2Read off n)

/-! ### Links, clocks, supplies, supervisor -/

/-- PCIE_LINK_LOSS (R529): the link has been out of L0 for more than 10 ms. -/
def pcieLinkLoss (s : State) : State :=
  if s.sys.role = .tile then s else
  let s1 := { s with sys.pcieUp := false }
  if counted s.sys.st then fire s1 37 0 3 else s1

def execPcieLinkLoss (s : State) : Host.Outcome State Fault Refusal := live s pcieLinkLoss

/-- The emitter die's outputs go: sinks, scan controls, stage gates, shunts (01 R23). -/
def emitterDark (s : State) : State :=
  match s.sys.role with
  | .tile => scanLow (darkenSlot s)
  | .bed => (List.range 12).foldl (fun t n => driveShunt t n false (nowSys t)) s
  | _ => s

/-- DIE_LINK_FRAMING_LOSS (R22, R23): the emitter die removes its outputs on its own; DIE_LINK. While WRST_N is low the
Spillway is in reset, and the lost link alone remains: emission stays off until it is framed again. -/
def dieLinkLoss (s : State) : State :=
  if s.sys.dieFramed = false then s else
  let s1 := { s with sys.dieFramed := false, sys.emitEnabled := false }
  if s.sys.st = .reset then s1 else fire (emitterDark s1) 45 0 0

def execDieLinkFramingLoss (s : State) : Host.Outcome State Fault Refusal := liveAny s dieLinkLoss

/-- DIE_LINK_FRAMED (R23): the control die may enable emission again; it does so at the next entry to READY (log 3). -/
def execDieLinkFramed (s : State) : Host.Outcome State Fault Refusal := liveAny s fun t => { t with sys.dieFramed := true }

/-- CLOCK_ROOT_LOSS (R28): the PLL lost lock, or REFCLK stopped. -/
def execClockRootLoss (refclk : Bool) (s : State) : Host.Outcome State Fault Refusal :=
  live s fun t => if t.sys.st = .reset then t else fire t 7 0 (b2n refclk)

/-- CLOCK_DERIVED_FAIL (R28): 0 CORE_CLK, 1 EMIT_CLK, 2 SYS_CLK, 3 memory PLL. -/
def execClockDerivedFail (clock : Nat) (s : State) : Host.Outcome State Fault Refusal :=
  live s fun t => if t.sys.st = .reset ∨ 3 < clock then t else fire t 8 0 clock

/-- The window of a supply by its index, mV (19 R693): VDD_CORE from 50 mV below the commanded voltage, for 2 ms after a
command below the lower of the two; VDD_SRAM, VDDA_LN, VDDH_LN, VDD2H, VDD2L, VDDQ, VIO18, VIO33, VEMIT. -/
def supplyWindow (s : State) (i : Nat) : Nat × Nat :=
  if i = 0 then ((if avsFresh s then min s.th.avsOld s.th.avsMv else s.th.avsMv) - 50, 880)
  else [(760, 840), (855, 945), (1140, 1260), (990, 1140), (850, 990), (450, 590), (1670, 1930), (3070, 3530), (4650, 5350)].getD (i - 1) (0, 0)

/-- The supply at `mv` lies outside its window. -/
def outsideWindow (s : State) (i mv : Nat) : Bool := decide (mv < (supplyWindow s i).1) || decide ((supplyWindow s i).2 < mv)

/-- SUPPLY_OUT_OF_WINDOW (19 R693); while PORST_N is low the monitor does not act. -/
def supplyOut (o : SupplyObs) (s : State) : State :=
  if s.sys.porstLow ∨ 9 < o.supply ∨ outsideWindow s o.supply o.mv = false then s else fire s 33 0 o.supply

def execSupplyOutOfWindow (supply : SupplyObs) (s : State) : Host.Outcome State Fault Refusal := liveAny s (supplyOut supply)

/-- SUPERVISOR_FAULT (R37): lockstep disagreement, or the watchdog. -/
def execSupervisorFault (watchdog : Bool) (s : State) : Host.Outcome State Fault Refusal :=
  live s fun t => if t.sys.st = .reset then t else fire t (b2n watchdog) 0 0

/-! ### Memory errors -/

/-- INSTANCE of a memory error (R711): the unit where it is of a kind of the source and of the role, else kind 0 with
the source. -/
def eccInstance (s : State) (src kind inst : Nat) : Nat :=
  if (contextKinds src).contains kind && unitExists s.sys.role kind inst then kind * 4096 + inst else src

/-- SRAM_ECC_ERROR (R29): `table` 0–3 is an entry `i` of a TILE's Fretboard or wear counters (04 R155, R159); any other
names a word that the unit `kind`, `inst` owns. -/
def sramEcc (uncorr : Bool) (table i kind inst word : Nat) (s : State) : State :=
  if s.sys.st = .reset then s
  else if uncorr = false then fire s 3 0 word
  else if s.sys.role = .tile ∧ table < 4 then fretEcc s table i word
  else fire s 2 (eccInstance s 2 kind inst) word

def execSramEccError (uncorr : Bool) (table i kind inst word : Nat) (s : State) : Host.Outcome State Fault Refusal :=
  live s (sramEcc uncorr table i kind inst word)

/-- DRAM_ECC_UNCORR (R34, 14 R711): DETAIL is the address's bits [34:3]. -/
def execDramEccUncorr (kind inst addr : Nat) (s : State) : Host.Outcome State Fault Refusal :=
  live s fun t => if t.sys.st = .reset ∨ t.sys.role = .tile ∨ t.sys.dramTrained = false then t
    else fire t 4 (eccInstance t 4 kind inst) (addr / 8)

/-! ### Stages, TAP -/

/-- SWITCH_STAGE_FAULT (03 R115; 11 R434): a stage that runs; causes 1 current limit, 2 FB above 110 %, and of a BED 3 the
string's voltage while its shunt is high. A soft-start that fails is judged when it ends. -/
def switchStageFault (n cause : Nat) (s : State) : State :=
  if 12 ≤ n ∨ (stage s n).mode = 0 ∨ s.sys.role = .sender then s
  else if cause = 1 ∨ cause = 2 then fire s 20 n cause
  else if cause = 3 ∧ s.sys.role = .bed ∧ (stringRef s n).shg ∧ keyU s 0x0B36 (2 * n) 2 ≠ 0 then fire s 20 n 3
  else s

def execSwitchStageFault (n cause : Nat) (s : State) : Host.Outcome State Fault Refusal := live s (switchStageFault n cause)

/-- TAP_INSTRUCTION (19 R708): 0 BYPASS, 1 IDCODE, 2 SAMPLE/PRELOAD, 3 EXTEST, 4 CLAMP; 5 any other, which needs a debug
token; 6 loads a debug token, `valid` where it is signed and names the device (log 37). -/
def tapInstruction (ir : Nat) (valid : Bool) (s : State) : State :=
  if ir = 6 then { s with sys.debugToken := s.sys.debugToken || valid }
  else if 6 < ir ∨ (ir = 5 ∧ s.sys.debugToken = false) then s
  else
    let s1 := { s with sys.tapInstr := ir }
    let s2 := if ir = 1 then emit s1 (.readData 12 [w32 Config.idcode]) else s1
    if ir = 3 ∨ ir = 4 then (match s.sys.role with
      | .tile => darkenSlot s2
      | .bed => cutAllGates s2
      | _ => s2) else s2

def execTapInstruction (ir : Nat) (valid : Bool) (s : State) : Host.Outcome State Fault Refusal := liveAny s (tapInstruction ir valid)

end Sys2Proof.Machine
end

