-- ==== Sys2Proof/Machine/Heads.lean ====
section
/-! DEFINITION. Head frames down and up, halts, gate edges, strings and the EMIT_EN interlock (11_heads_lasers),
with the head loops they drive (12_loops R458–R464). -/

namespace Sys2Proof.Machine

/-! ### Set-points (10 R368–R371, R387) -/

/-- Head coordinates of a bed point with its focus; Z saturates (R368). Without a valid grid the last set-point. -/
def bedToHead (hd : BHead) (p : Int × Int × Int) : (Int × Int × Int) × Bool :=
  if gridValid hd then
    let z := headCoord hd 2 p.1 p.2.1 + p.2.2
    ((headCoord hd 0 p.1 p.2.1, headCoord hd 1 p.1 p.2.1, satS 24 z), z != satS 24 z)
  else ((hd.hx, hd.hy, hd.hz), false)

/-- The point of a motion outside the jets. -/
def movePoint (hd : BHead) (m : Move) (t : Int) : Int × Int × Int :=
  let d := if m.headCoord then refDistance hd (m.x1 - m.x0) (m.y1 - m.y0) else segLength (m.x1 - m.x0) (m.y1 - m.y0)
  let q := jumpFrac d (hw hd 7) (hw hd 8) (hw hd 9) (t - m.start)
  (lerpFrac m.x0 m.x1 q, lerpFrac m.y0 m.y1 q, lerpFrac m.z0 m.z1 q)

/-- The set-point of a head at a frame instant, and whether Z saturated. -/
def setPoint (s : State) (h : Nat) (t : Int) : (Int × Int × Int) × Bool :=
  let hd := bhead s h
  if hd.frozen then ((hd.hx, hd.hy, hd.hz), false)
  else match hd.move with
    | some m => if m.headCoord then (movePoint hd m t, false) else bedToHead hd (movePoint hd m t)
    | none => match (blist s h).span with
      | some sp => bedToHead hd (spanPoint hd sp t)
      | none => bedToHead hd (hd.bx, hd.bby, hd.fz)

/-! ### Taking profile and power (12 R455, R460) -/

/-- The entry of LOOP_PROFILES: target, ENABLE, RESET_I, GAIN_SCALE (R459). -/
def takeProfile (s : State) (h ix : Nat) : State :=
  let w := keyU s 0x0C02 (8 * ix) 4
  let l := loopSlot s h
  setLoop s h { l with
    profTarget := w % 65536, profOn := bit w 16, gainScale := keyU s 0x0C02 (8 * ix + 4) 2, integ := if bit w 17 then 0 else l.integ }

/-- At the first frame instant at or after a span's start: the profile, and a lasing jet's POWER and Weir. -/
def takeJet (s : State) (h : Nat) (f : Int) : State :=
  let x := bhead s h
  match (blist s h).span with
  | some sp =>
    if x.taken = some sp.ix ∨ f < sp.start then s else
    let s1 := takeProfile (setHead s h { x with taken := some sp.ix }) h (jetProfile sp.w)
    if isLasing sp.w then
      let r := weirTarget x.power (weirPar s (jetWeir sp.w)) (jetPower sp.w)
      setHead (if r.2 = 0 then s1 else bump s1 0x0C h 6) h { bhead s1 h with power := r.1, powerIx := jetWeir sp.w }
    else s1
  | none => s

/-! ### The head loop's sample (12 R458, R461, R463) -/

/-- All four sample instants of the frame at `f` lie in one gate-open interval, GATE_SETTLE after its opening. -/
def qualifies (s : State) (h : Nat) (f : Int) : Bool :=
  let a := f + keyS s 0x0B04 (4 * h) 4
  (bhead s h).opens.any fun p =>
    decide (p.1 + gateSettle s h ≤ a) && (match p.2 with | some c => decide (a + 1536 < c) | none => true)

/-- The sample of an upstream frame (R458). -/
def meltSample (src : Nat) (mp : List Nat) : Int :=
  let a := (mp.take 4).sum
  let b := ((mp.drop 4).take 4).sum
  match src with
  | 0 => (a / 4 : Nat)
  | 1 => (b / 4 : Nat)
  | _ => ((a + b) / 8 : Nat)

/-- The update of a head slot for the frame at `f` (R443, R463): its output, or the power Weir's. -/
def headLoop (s : State) (h : Nat) (f : Int) : State × Int :=
  let x := bhead s h
  let ff := weirOut x.power
  if slotExists s h = false then (s, ff) else
  let u := x.rx.find? fun r => r.f == f - 2048 * x.d
  let late := match u with
    | some r => decide (f - keyU s 0x0B00 (2 * h) 2 + 24 - 64 < r.ready + 128)
    | none => false
  let s1 := if late then bump s 0x0C h 5 else s
  let v := match u with
    | some r => if late then none else some (meltSample (loopSource s h) r.mp)
    | none => none
  let s2 := loopUpdate s1 h
    { delta := 2048, target := (loopSlot s h).profTarget, headFf := ff, lo := loopOutMin s h, hi := loopOutMax s h
      x := v, noDemand := false, qualified := qualifies s h (f - 2048 * x.d), first := none }
  (s2, (loopSlot s2 h).out)

/-- The part of a frame instant that HEAD_LOOP_UPDATE makes, once: the jet is taken, the power Weir steps, the head
slot updates (12 R443, R455). -/
def headUpdate (s : State) (h : Nat) (f : Int) : State :=
  if (bhead s h).loopAt = some f then s else
  let s1 := takeJet s h f
  let x := bhead s1 h
  let s2 := setHead s1 h { x with power := weirStep x.power (weirPar s1 x.powerIx) 2048 }
  let p := headLoop s2 h f
  let cl := decide ((loopSlot s2 h).satTicks < (loopSlot p.1 h).satTicks)
  setHead p.1 h { bhead p.1 h with loopAt := some f, loopOut := p.2, loopClamped := cl }

/-- The loop correction of a frame enters the present jet's summary (10 R396). -/
def noteLoop (s : State) (h : Nat) (f : Int) : State :=
  let b := blist s h
  match b.span with
  | none => s
  | some sp =>
    if slotExists s h = false ∨ f < sp.start then s else
    let b1 := if (loopSlot s h).opened = 0 then b else { b with sFlags := Nat.lor b.sFlags 8 }
    let open_ := (bhead s h).opens.any fun p => decide (p.1 ≤ f) && (match p.2 with | some c => decide (f < c) | none => true)
    let c := (bhead s h).loopOut - weirOut (bhead s h).power
    let b2 := if open_ then
        { b1 with sPeak := if b1.sPeak.natAbs < c.natAbs then c else b1.sPeak, sSum := b1.sSum + c, sN := b1.sN + 1 } else b1
    setList s h { b2 with sSat := if (bhead s h).loopClamped then b2.sSat + 2048 else b2.sSat }

/-! ### Gate edges of a frame (R414) -/

/-- Place the edges that fall into the frame at `f`: those to send, those left, the last close and the intervals. -/
def placeEdges (minOff : Nat) (f : Int) : List (Int × Bool) → Int → List (Int × Option Int) →
    List (Int × Bool) × List (Int × Bool) × Int × List (Int × Option Int)
  | [], lc, iv => ([], [], lc, iv)
  | (t, on) :: r, lc, iv =>
    let t1 := if on && decide (t - lc < minOff) then lc + minOff else t
    if f + 2048 ≤ t1 then ([], (t1, on) :: r, lc, iv)
    else
      let t2 := max f t1
      let p := placeEdges minOff f r (if on then lc else t2)
        (if on then (t2, none) :: iv.take 63 else match iv with | (o, none) :: q => (o, some t2) :: q | l => l)
      ((t2, on) :: p.1, p.2)

/-- GATE_ENABLE (R413). -/
def gateEnable (s : State) (h : Nat) : Bool :=
  let x := bhead s h
  !pausing s && s.sys.st == .run && s.sys.emitEnA && s.sys.emitEnB && x.referenced && !x.frozen && !fenced s 6 h && x.halt.isNone

/-- The frame's edges: those it carries, placed also for LGATE and the shunts; without GATE_ENABLE none. -/
def frameEdges (s : State) (h : Nat) (f : Int) : State × List (Int × Bool) :=
  let x := bhead s h
  if gateEnable s h then
    let p := placeEdges (keyU s 0x0B06 0 2) f x.edges x.lastClose x.opens
    (setHead s h { x with gateEn := true, edges := p.2.1, lastClose := p.2.2.1, opens := p.2.2.2, toPlace := x.toPlace ++ p.1 }, p.1)
  else
    let x1 := { x with
      gateEn := false, toPlace := [], edges := x.edges.filter fun e => decide (f + 2048 ≤ e.1)
      opens := match x.opens with | (o, none) :: q => (o, some f) :: q | l => l }
    let s1 := driveLgate (setHead s h x1) h false (sysOfBuild s f)
    ((stringsOf s1 h).foldl (fun t n => driveShunt t n false (sysOfBuild t f)) s1, [])

/-- A run decided to begin in this frame is sent ahead: it begins whatever comes (10 R376). -/
def commitRun (s : State) (h : Nat) (f : Int) : State :=
  let b := blist s h
  match b.runNext with
  | some r =>
    if b.commit ∨ f + 2048 ≤ runStart r f ∨ (bhead s h).frozen then s
    else setList (sendEdges s h r) h { b with commit := true }
  | none => s

/-! ### Strings' references (R429) -/

/-- The requested current in µA for a POWER (R429). -/
def stringCurrent (s : State) (n p : Nat) : Nat :=
  let r := stringRef s n
  let a := p * keyU s 0x0B13 (4 * n) 4 * 1000 / 65535
  r.th * 1000 + a * r.k / 2 ^ 15 * r.a / 2 ^ 15 * r.q / 2 ^ 16

/-- The reference of a string from its head's POWER; clamping counts, and reports once per run. -/
def stringFrame (s : State) (n p : Nat) : State :=
  let r := stringRef s n
  let i := stringCurrent s n p
  let lim := keyU s 0x0B12 (4 * n) 4 * 1000
  let code := (min i lim * keyU s 0x0B11 (4 * n) 4 + 18750000) / 37500000
  let s1 := if lim < i then
      (if r.clamped then bump s 0x0B n 8 else raise (bump s 0x0B n 8) 0x0B0B (args [(4, n), (4, i)])) else s
  setString s1 n { r with ref := code, clamped := decide (lim < i), sigCrc := crcFeed r.sigCrc (leBytes 2 code) }

/-! ### Blocks (R407–R409, R411, R423) -/

def headPort (s : State) (h : Nat) : HeadPort := tabGet HeadPort.cold s.bed.ports h
def setHeadPort (s : State) (h : Nat) (x : HeadPort) : State := { s with bed.ports := tabSet HeadPort.cold s.bed.ports h x }

/-- Blocks as they go on the line: the payload scrambled from block to block, bit 0 first, the sync header as it is (R407). -/
def lineBlocks : Nat → List (Nat × List Byte) → List (Nat × Nat) × Nat
  | h, [] => ([], h)
  | h, b :: r =>
    let p := scramble h (bitsOf b.2)
    let q := lineBlocks p.2 r
    ((b.1, bitsNat p.1) :: q.1, q.2)

/-- The 32 blocks of a frame of 256 bytes: frame block 0, then data blocks (R408, R409). -/
def frameBlocks (l : List Byte) : List (Nat × List Byte) :=
  (List.range 32).map fun i => (if i = 0 then 2 else 1, (l.drop (8 * i)).take 8)

/-- `n` control blocks of one byte value: IDLE 0x33, HALT_ACK 0x2D (R408). -/
def ctrlBlocks (n v : Nat) : List (Nat × List Byte) := List.replicate n (2, List.replicate 8 (b8 v))

/-- The instant at which block 0 of the frame at `f` leaves: F_n − HEAD_LEAD, SYSTEM time (R411). -/
def leaveTime (s : State) (h : Nat) (f : Int) : Int := sysOfBuild s f - keyU s 0x0B00 (2 * h) 2

/-- The blocks of the frame at `f` are handed to the port. -/
def sendBlocks (s : State) (h : Nat) (f : Int) (l : List (Nat × List Byte)) : State :=
  let p := headPort s h
  let q := lineBlocks p.scr l
  emit (setHeadPort s h { p with scr := q.2, at_ := leaveTime s h f, before := p.scr, blocks := l }) (.headBlocks h (leaveTime s h f) q.1)

/-- HALT_ACK in the place of every block from the first boundary at least 12.8 ns away, the rest of the frame in progress
included (R423). -/
def ackHalt (s : State) (h : Nat) : State :=
  let p := headPort s h
  let n := min p.blocks.length (-((p.at_ - nowSys s - 128) / 64)).toNat
  let before := (lineBlocks p.before (p.blocks.take n)).2
  let l := ctrlBlocks (p.blocks.length - n) 0x2D
  let q := lineBlocks before l
  if l.isEmpty then s else
  emit (setHeadPort s h { p with scr := q.2, blocks := p.blocks.take n ++ l }) (.headBlocks h (p.at_ + 64 * n) q.1)

/-- Sync headers towards block lock by IEEE 802.3 Clause 49: `n` valid ones, or an invalid one (R407; log 73). Lock is gained
by 64 consecutive valid headers and lost by 16 invalid ones within 64. -/
def blockHeaders (s : State) (h n : Nat) (valid : Bool) : State :=
  let p := headPort s h
  let locked := (lane s h).st == 5
  let bad := if valid then p.bad else p.bad + 1
  if laneUse s h ≠ .head h then s
  else if (lane s h).st = 3 ∧ valid ∧ 64 ≤ p.seen + n then gainLock (setHeadPort s h { p with seen := 0, bad := 0 }) h
  else if locked ∧ 16 ≤ bad then loseLock (setHeadPort s h { p with seen := 0, bad := 0 }) h 1
  else if (valid || locked) = false then setHeadPort s h { p with seen := 0, bad := 0 }
  else if 64 ≤ p.seen + n then setHeadPort s h { p with seen := p.seen + n - 64, bad := 0 }
  else setHeadPort s h { p with seen := p.seen + n, bad := bad }

/-! ### The downstream frame (R410–R413; 10 R397) -/

/-- A gate-edge word (10 R397). -/
def edgeWord (f : Int) (e : Option (Int × Bool)) : Nat :=
  match e with
  | some (t, on) => flag on 15 + (t - f).toNat % 2048
  | none => 0x7FFF

/-- The 256 bytes of a downstream frame (R409, R412). -/
def frameBytes (seq fl h : Nat) (p : Int × Int × Int) (power e0 e1 time : Nat) : List Byte :=
  let l := b8 0xD5 :: leBytes 2 seq ++ [b8 fl, b8 h] ++ leBytes 3 (uns 24 p.1) ++ leBytes 3 (uns 24 p.2.1) ++ leBytes 3 (uns 24 p.2.2) ++
    leBytes 2 power ++ leBytes 2 e0 ++ leBytes 2 e1 ++ leBytes 6 time
  let l := l ++ List.replicate (252 - l.length) (b8 0)
  l ++ leBytes 4 (crc32 l)

/-- The signatures of a head and its strings begin anew at frame numbers that are multiples of 1024 (DEDUCED, log 31). -/
def startSignature (s : State) (h seq : Nat) : State :=
  if seq % 1024 ≠ 0 then s else
  let s1 := setHead s h { bhead s h with sigN := 0, sigCrc := 0xFFFFFFFF, drvCrc := 0xFFFFFFFF }
  (stringsOf s1 h).foldl (fun t n => setString t n { stringRef t n with sigCrc := 0xFFFFFFFF }) s1

/-- A head port sends only IDLE blocks (R413; 17 R635). -/
def idleFrame (f : Int) (s : State) (h : Nat) : State :=
  if laneUse s h = .head h then sendBlocks s h f (ctrlBlocks 32 0x33) else s

/-- One head at the frame instant `f`: jets and loop are taken, and the frame is sent, HALT_ACK while a halt stands. A
live restart holds the set-points (18 R674). -/
def headFrame (f : Int) (s : State) (h : Nat) : State :=
  if !headDefined s h then idleFrame f s h else
  let seq := frameNumber s f
  let s1 := startSignature (headUpdate (commitRun s h f) h f) h seq
  let x1 := bhead s1 h
  let sp := if pausing s then ((x1.hx, x1.hy, x1.hz), false) else setPoint s1 h f
  let s2 := setHead (if sp.2 then bump s1 0x0A h 6 else s1) h { x1 with
    hx := sp.1.1, hy := sp.1.2.1, hz := sp.1.2.2
    hist := (f, sp.1.1, sp.1.2.1) :: x1.hist.takeWhile fun e => decide (f - hw x1 10 - 8192 < e.1) }
  let power := if s.sys.emitEnA && s.sys.emitEnB then satU 65535 x1.loopOut else 0
  let ed := frameEdges s2 h f
  let s3 := noteLoop ed.1 h f
  let s4 := (stringsOf s3 h).foldl (fun t n => stringFrame t n power) s3
  let x := bhead s4 h
  let e0 := edgeWord f ed.2[0]?
  let e1 := edgeWord f ed.2[1]?
  let fl := flag x.referenced 3 + flag (x.frozen || fenced s4 6 h) 2 + flag x.haltSeen 1 + flag x.gateEn 0
  let xyz := leBytes 3 (uns 24 x.hx) ++ leBytes 3 (uns 24 x.hy) ++ leBytes 3 (uns 24 x.hz)
  if x.halt.isSome then sendBlocks (setHead s4 h { x with powerSent := power }) h f (ctrlBlocks 32 0x2D) else
  sendBlocks (setHead s4 h { x with
    powerSent := power, waiting := x.waiting ++ [(seq, f)], sigN := x.sigN + 1
    sigCrc := crcFeed x.sigCrc (xyz ++ leBytes 2 e0 ++ leBytes 2 e1), drvCrc := crcFeed x.drvCrc (leBytes 2 power) }) h f
    (frameBlocks (frameBytes seq fl h (x.hx, x.hy, x.hz) power e0 e1 (shortForm (sysOfBuild s f).toNat)))

/-- A frame less than 2048 ticks back has been sent (R411). -/
def frameSent (s : State) (f : Int) : Bool :=
  match s.bed.lastFrame with
  | some l => decide (f < l + 2048)
  | none => false

/-- HEAD_FRAME_INSTANT (R410, R411, R413): the grid instant now, at least 2048 ticks after the last one sent. The frame is composed at its instant
and leaves HEAD_LEAD before it (log 31). `enc` holds the raw encoder counts of the axes.
The standby of a pair sends only IDLE blocks on its head ports (17 R635). -/
def headFrames (enc : List Int) (s : State) : State :=
  if s.sys.role ≠ .bed ∨ s.sys.st = .reset ∨ s.sys.st = .boot then s else
  let f := buildAt s (nowSys s / 2048 * 2048)
  if frameSent s f then s else
  let s1 := { s with bed.lastFrame := some f }
  stallChecks enc ((List.range 16).foldl (if pairStandby s then idleFrame f else headFrame f) s1)

def execHeadFrameInstant (enc : List Int) (s : State) : Host.Outcome State Fault Refusal := live s (headFrames enc)

/-- SETPOINT_SIGNATURE (10 R397; 14 R556): the signatures of 1024 frames enter a running capture; a string's index is
16 + its number (DEDUCED, log 31). -/
def setpointSignature (h : Nat) (s : State) : State :=
  let x := bhead s h
  if x.sigN ≠ 1024 then s else
  let k := frameNumber s (buildNow s) / 1024
  let s1 := capSignature (capSignature (setHead s h { x with sigN := 0 }) 4 h k (Nat.xor x.sigCrc 0xFFFFFFFF)) 5 h k (Nat.xor x.drvCrc 0xFFFFFFFF)
  (stringsOf s1 h).foldl (fun t n => capSignature t 5 (16 + n) k (Nat.xor (stringRef t n).sigCrc 0xFFFFFFFF)) s1

def execSetpointSignature (h : Nat) (s : State) : Host.Outcome State Fault Refusal := live s (setpointSignature h)

/-! ### Gate edges at their ticks (R424, R428) -/

/-- A string's shunt may open: its stage regulates, and emission is on (R428, R433). -/
def shuntReady (s : State) (n : Nat) : Bool := (stage s n).mode == 3 && !fenced s 9 n && emissionOn s

/-- GATE_EDGE: the edges of a head that have come are placed on LGATE and on the shunts of its strings. -/
def gateEdge (h : Nat) (s : State) : State :=
  let x := bhead s h
  match x.toPlace with
  | (t, on) :: r =>
    if buildNow s < t then s else
    let s1 := setHead s h { x with toPlace := r }
    let at_ := sysOfBuild s t
    let s2 := if on && !(emissionOn s && laneUse s h == .head h) then s1 else driveLgate s1 h on (at_ + keyS s 0x0B05 (2 * h) 2)
    (stringsOf s2 h).foldl (fun u n =>
      if on && !shuntReady u n then u else driveShunt u n on (at_ + keyS u 0x0B37 (2 * n) 2)) s2
  | [] => s

def execGateEdge (h : Nat) (s : State) : Host.Outcome State Fault Refusal := live s (gateEdge h)

/-! ### Following error (10 R386) -/

/-- The commanded coordinates at `t`, between the two set-points around it; history is newest first. -/
def predicted : List (Int × Int × Int) → Int → Int × Int
  | [], _ => (0, 0)
  | [e], _ => (e.2.1, e.2.2)
  | b :: a :: r, t =>
    if b.1 ≤ t then (b.2.1, b.2.2)
    else if a.1 ≤ t then (lerp a.2.1 b.2.1 (t - a.1) (b.1 - a.1), lerp a.2.2 b.2.2 (t - a.1) (b.1 - a.1))
    else predicted (a :: r) t

/-- The window of the frame at `f` in head units. -/
def devWindow (s : State) (hd : BHead) (f : Int) : Nat :=
  let nm := if hw hd 18 = 0 then 20000 else hw hd 18
  let w := nm * hw hd 17 / 256000000
  if hd.jumps.any fun j => decide (j.1 ≤ f) && decide (f ≤ j.2 + hw hd 10) then w * keyU s 0x0A02 0 1 else w

/-- The following error of the frame at `f`. -/
def followError (hd : BHead) (f ex ey : Int) : Int × Int :=
  let p := predicted hd.hist (f - hw hd 10)
  (ex - p.1, ey - p.2)

/-- A frame of a head that is referencing is checked once its hold is over (R366). -/
def checkReference (s : State) (h : Nat) (f : Int) (beyond : Bool) : State :=
  let x := bhead s h
  match x.ref, x.move with
  | some (tag, n, bad), some m =>
    if n < 64 ∧ m.start + m.dur + hw x 14 ≤ f then setHead s h { x with ref := some (tag, n + 1, bad + b2n beyond) } else s
  | _, _ => s

/-- SCAN_DEVIATION after DEV_FRAMES beyond frames: recorded, and the head freezes whatever the severity (R387). -/
def checkFollow (s : State) (h : Nat) (f ex ey : Int) : State :=
  let x := bhead s h
  let e := followError x f ex ey
  let w := devWindow s x f
  let beyond := decide (w < e.1.natAbs) || decide (w < e.2.natAbs)
  if headState s h ≠ 2 then checkReference s h f beyond
  else if !beyond then setHead s h { x with devRun := 0 }
  else
    let s1 := setHead (bump s 0x0A h 5) h { x with devRun := x.devRun + 1 }
    let lim := if hw x 19 % 256 = 0 then 4 else hw x 19 % 256
    if x.devRun + 1 = lim then
      pauseBuild (freezeHead (fire s1 24 h (uns 16 (satS 16 e.1) + uns 16 (satS 16 e.2) * 65536)) h 5) 5
    else s1

/-! ### Upstream frames (R415–R420) -/

/-- Camera bytes go to the head's ring (R418); CAM_BYTES is 64 bits and wraps. -/
def camBytes (s : State) (h : Nat) (l : List Byte) : State :=
  let a := keyU s 0x0B07 (12 * h) 8
  let n := keyU s 0x0B07 (12 * h + 8) 4
  if n = 0 ∨ l.isEmpty then s else
  let pos := counter s 0x0B h 6 + counter s 0x0B h 7 * 2 ^ 32
  let s1 := (List.range l.length).foldl (fun t i => wrBytes t (a + (pos + i) % n) [l.getD i 0]) s
  let p := (pos + l.length) % 2 ^ 64
  { s1 with ctr := tabSet 0 (tabSet 0 s1.ctr (ctrKey 0x0B h 6) (p % 2 ^ 32)) (ctrKey 0x0B h 7) (p / 2 ^ 32) }

/-- A frame failing its CRC: counted; more than 64 within one second record HEAD_LINK (R420). -/
def headCrcBad (s : State) (h : Nat) : State :=
  let x := bhead s h
  let l := (x.crcAt.filter fun t => decide (s.time.loc < t + secTicks)) ++ [s.time.loc]
  let s1 := setHead (bump s 0x0B h 1) h { x with crcAt := lastN 65 l, crcFired := decide (64 < l.length) }
  if 64 < l.length ∧ x.crcFired = false then fire s1 22 h 4 else s1

/-- LASER_STATE, and HEAD_LINK for a fault in 2 consecutive frames of a REFERENCED head. -/
def headLaser (s : State) (h laser : Nat) (fault : Bool) : State :=
  let x := bhead s h
  let bad := headState s h == 2 && (laser == 4 || fault)
  let n := if bad then x.laserBad + 1 else 0
  let s1 := setHead s h { x with laser := some laser, laserBad := n }
  let s2 := match x.laser with
    | some o => if o = laser then s1 else raise s1 0x0B05 (args [(4, h), (4, o), (4, laser)])
    | none => s1
  if n = 2 then fire s2 22 h 3 else s2

/-- Slope efficiency of the head's strings over frames with the gate open (15_thermal_ageing R591). -/
def etaSample (s : State) (h mon : Nat) (f : Int) : State :=
  if (bhead s h).opens.any (fun p => decide (p.1 ≤ f) && (match p.2 with | some c => decide (f < c) | none => true)) then
    (stringsOf s h).foldl (fun t n =>
      let i := (stringRef t n).ref * 37500000 / max 1 (keyU t 0x0B11 (4 * n) 4)
      let d := i - (stringRef t n).th * 1000
      if d = 0 then t else
      { t with th.age.etaSum := tabUpd 0 t.th.age.etaSum n (fun v => v + mon * 2 ^ 32 / d), th.age.etaN := tabUpd 0 t.th.age.etaN n (· + 1) }) s
  else s

/-- A new active unit references each head from its first upstream frame (17 R636). -/
def pairReference (s : State) (h : Nat) : State :=
  if s.pair.refHeads.contains h = false then s else
  let s1 := { s with pair.refHeads := s.pair.refHeads.filter (· != h) }
  if gridValid (bhead s1 h) && !fenced s1 6 h then startReference s1 h 4096 else s1

/-- The fields of an upstream frame received under block lock (R415, R417), with the LOCAL stamp of block 0. -/
def takeFrame (h : Nat) (crcOk : Bool) (seq laser : Nat) (fault : Bool) (ex ey ez : Int) (mon : Nat) (mp : List Nat) (cam : List Byte)
    (stamp : Nat) (s : State) : State :=
  let x := bhead s h
  if x.defn.isEmpty then setHead s h { x with ignRun := false }
  else if !crcOk then headCrcBad s h
  else
    let now := buildNow s
    let s0 := bump s 0x0B h 0
    match x.waiting.find? fun p => p.1 == seq with
    | none => if x.rx.any fun u => u.seq == seq then bump s0 0x0B h 4 else s0
    | some (_, f) =>
      if f + keyU s 0x0B02 0 2 < now then s0 else
      let run := match x.rx with
        | u :: _ => if u.f = f - 2048 then x.okRun + 1 else 1
        | [] => 1
      let s1 := setHead s0 h { x with
        waiting := x.waiting.filter fun p => p.1 != seq
        rx := ({ f := f, seq := seq, ready := now + 64, mp := mp } :: x.rx).take 64, okRun := run, missRun := 0, enc := some (ex, ey, ez) }
      let s2 := capHead s1 h 0 (leBytes 4 h ++ leBytes 8 stamp ++ leBytes 2 seq ++ [b8 h, b8 (laser % 8 + flag fault 4 + flag (!cam.isEmpty) 5)] ++
        leBytes 3 (uns 24 ex) ++ leBytes 3 (uns 24 ey) ++ leBytes 3 (uns 24 ez) ++ leBytes 2 mon ++ mp.flatMap (leBytes 2))
      camBytes (etaSample (checkFollow (headLaser (pairReference s2 h) h laser fault) h f ex ey) h mon f) h cam

/-- HEAD_UPSTREAM_FRAME: 32 blocks in sequence, whose valid headers count towards block lock; with it the frame is taken. -/
def headUp (h : Nat) (crcOk : Bool) (seq laser : Nat) (fault : Bool) (ex ey ez : Int) (mon : Nat) (mp : List Nat) (cam : List Byte)
    (stamp : Nat) (s : State) : State :=
  if s.sys.role ≠ .bed ∨ (h = 15 ∧ peerLane s) then s
  else if (lane s h).st ≠ 5 then blockHeaders s h 32 true
  else takeFrame h crcOk seq laser fault ex ey ez mon mp cam stamp (blockHeaders s h 32 true)

def execHeadUpstreamFrame (h : Nat) (crcOk : Bool) (seq laser : Nat) (fault : Bool) (ex ey ez : Int) (mon : Nat) (mp : List Nat)
    (cam : List Byte) (stamp : Nat) (s : State) : Host.Outcome State Fault Refusal :=
  live s (headUp h crcOk seq laser fault ex ey ez mon mp cam stamp)

/-- HEAD_FRAME_MISSING (R417, R420). -/
def headMissing (h : Nat) (s : State) : State :=
  let x := bhead s h
  match x.waiting with
  | (seq, f) :: r =>
    if buildNow s < f + keyU s 0x0B02 0 2 then s else
    let s1 := setHead (bump s 0x0B h 3) h { x with waiting := r, okRun := 0, missRun := x.missRun + 1, laserBad := 0 }
    let s2 := capHead s1 h 1 (leBytes 4 h ++ leBytes 8 0 ++ leBytes 2 seq)
    if headState s h = 2 ∧ x.missRun + 1 = keyU s 0x0B03 0 1 then fire s2 22 h 2 else s2
  | [] => s

def execHeadFrameMissing (h : Nat) (s : State) : Host.Outcome State Fault Refusal := live s (headMissing h)

/-! ### The link (R419, R420; 12 R462) -/

/-- d_h from the echo latency and HEAD_LEAD: at once the first time, else at the next gate-closed boundary (R462). -/
def setLoopDelay (s : State) (h : Nat) (el : Int) (first : Bool) : State :=
  let lead := keyU s 0x0B00 (2 * h) 2
  let d := max 1 (cdiv (el + lead + 232).toNat 2048)
  let x := bhead s h
  let x1 := { x with echo := some el, leadUsed := lead }
  raise (setHead s h (if first then { x1 with d := d, dPend := none } else { x1 with dPend := some d })) 0x0C04
    (args [(4, h), (4, d), (4, uns 32 el)])

/-- HEAD_LINK_CHANGE (R419): up after 16 consecutive frames under block lock; down on loss of it or 16 missing. -/
def headLinkChange (h : Nat) (s : State) : State :=
  let x := bhead s h
  if s.sys.role ≠ .bed ∨ x.defn.isEmpty then s else
  let lock := (lane s h).st == 5
  if !x.up then
    match x.rx with
    | u :: _ =>
      if lock && decide (16 ≤ x.okRun) then
        let el := u.ready - 64 - u.f
        let s1 := raise (setHead s h { x with up := true }) 0x0B01 (args [(4, h), (4, uns 32 el)])
        setLoopDelay s1 h el x.echo.isNone
      else s
    | [] => s
  else if !lock || decide (16 ≤ x.missRun) then
    raise (setHead s h { x with up := false, okRun := 0, downAt := s.time.loc, linkRecorded := false }) 0x0B02 (args [(4, h), (4, b2n lock)])
  else s

def execHeadLinkChange (h : Nat) (s : State) : Host.Outcome State Fault Refusal := live s (headLinkChange h)

/-- LOOP_DELAY_SET (12 R462): HEAD_LEAD has changed since d_h was set. -/
def loopDelaySet (h : Nat) (s : State) : State :=
  let x := bhead s h
  match x.echo with
  | some el => if x.leadUsed = keyU s 0x0B00 (2 * h) 2 then s else setLoopDelay s h el false
  | none => s

def execLoopDelaySet (h : Nat) (s : State) : Host.Outcome State Fault Refusal := live s (loopDelaySet h)

/-- HEAD_LINK_FAULT (R420): the link has been down for 1 ms in READY, RUN or HOLD; once per loss. -/
def headLinkFault (h : Nat) (s : State) : State :=
  let x := bhead s h
  if x.defn.isEmpty ∨ x.up ∨ x.linkRecorded ∨ counted s.sys.st = false ∨ s.time.loc < x.downAt + msTicks then s
  else fire (setHead s h { x with linkRecorded := true }) 22 h 1

def execHeadLinkFault (h : Nat) (s : State) : Host.Outcome State Fault Refusal := live s (headLinkFault h)

/-- HEAD_LOOP_UPDATE (12 R443, R444): the update of a head slot for the frame instant now. -/
def headLoopUpdate (h : Nat) (s : State) : State :=
  let f := buildAt s (nowSys s / 2048 * 2048)
  if s.sys.role ≠ .bed ∨ s.sys.st = .reset ∨ s.sys.st = .boot ∨ headDefined s h = false ∨ frameSent s f then s
  else headUpdate (commitRun s h f) h f

def execHeadLoopUpdate (h : Nat) (s : State) : Host.Outcome State Fault Refusal := live s (headLoopUpdate h)

/-! ### Halts (R421–R423) -/

/-- What a 64b/66b block is, by sync header and descrambled payload (R408). -/
inductive BlockKind where
  | data | frame | idle | halt | haltAck | foreign | invalid
deriving DecidableEq, Repr

/-- Payload bytes of a value. -/
def bytesEqual (block : List Byte) (v : Nat) : Nat := (block.filter fun b => b.toNat == v).length

/-- The class of a block: `up` for one received from a head (R408). -/
def blockKind (up : Bool) (header : Nat) (block : List Byte) : BlockKind :=
  if header = 1 then .data
  else if header ≠ 2 then .invalid
  else if (block.getD 0 0).toNat = (if up then 0xD6 else 0xD5) then .frame
  else if bytesEqual block 0x33 = 8 then .idle
  else if up ∧ 7 ≤ bytesEqual block 0x1E then .halt
  else if up = false ∧ 7 ≤ bytesEqual block 0x2D then .haltAck
  else .foreign

/-- A HALT block: LGATE and every shunt go low; the first block of a halt is HEAD_HALT. -/
def haltBlock (h : Nat) (s : State) : State :=
  let x := bhead s h
  if s.sys.role ≠ .bed ∨ s.sys.st = .boot ∨ s.sys.st = .reset then s
  else if x.defn.isEmpty then
    let s1 := setHead (bump s 0x0B h 5) h { x with ignRun := true }
    if x.ignRun then s1 else raise s1 0x0B04 (args [(4, h)])
  else
    let s1 := (List.range 12).foldl (fun t n => driveShunt t n false (nowSys t)) (cutGate s h)
    let x1 := bhead s1 h
    match x.halt with
    | some (a, _) => setHead s1 h { x1 with halt := some (a, s.time.loc) }
    | none => fire (ackHalt (setHead s1 h { x1 with halt := some (s.time.loc, s.time.loc), haltSeen := true }) h) 23 h 0

/-- HALT_BLOCK: an upstream block outside a frame, as received (R408, R421). Its header counts towards block lock (R407). A
foreign block counts in HEAD_BLOCK_ERROR, one with an invalid sync header in the lane's CW_UNCORR (08 R313). -/
def upstreamBlock (h header : Nat) (block : List Byte) (s : State) : State :=
  if s.sys.role ≠ .bed ∨ 16 ≤ h ∨ (h = 15 ∧ peerLane s) then s else
  match blockKind true header block with
  | .halt => haltBlock h (blockHeaders s h 1 true)
  | .foreign => bump (blockHeaders s h 1 true) 0x0B h 2
  | .invalid => bump (blockHeaders s h 1 false) 1 h 1
  | _ => blockHeaders s h 1 true

def execHaltBlock (h header : Nat) (block : List Byte) (s : State) : Host.Outcome State Fault Refusal :=
  live s (upstreamBlock h header block)

/-- HALT_RELEASED: 64 frame periods without a HALT block. -/
def haltReleased (h : Nat) (s : State) : State :=
  let x := bhead s h
  match x.halt with
  | some (a, b) =>
    if s.time.loc < b + 64 * 2048 then s
    else raise (setHead s h { x with halt := none }) 0x0B03 (args [(4, h), (4, (s.time.loc - a) / usTicks)])
  | none => s

def execHaltReleased (h : Nat) (s : State) : Host.Outcome State Fault Refusal := live s (haltReleased h)

/-! ### String factors (R430–R432) -/

/-- The temperature of a string's source. -/
def stringTemp (s : State) (n : Nat) : Int :=
  let src := keyU s 0x0B30 n 1
  if src = 4 then emitterMean s else tempUse s (24 + src)

/-- Interpolation of a string's table by the arithmetic of 03_lamp_drive R116. -/
def stringTable (s : State) (key n : Nat) : Nat :=
  let t := satU 2240 (stringTemp s n + 320)
  let i := min (t / 70) 31
  let frac := t - 70 * i
  (keyU s (key + n) (2 * i) 2 * (70 - frac) + keyU s (key + n) (2 * i + 2) 2 * frac) / 70

/-- Q's target (03 R117 with the strings' keys) and its step. -/
def stringQ (s : State) (n q : Nat) : Nat :=
  let target := derateAt (keyS s 0x0B31 0 2) (keyS s 0x0B32 0 2) (keyU s 0x0B33 0 4) (stringTemp s n)
  let d := keyU s 0x0B34 0 2
  if q < target then min target (q + d) else max target (q - d)

/-- One string's factors at the millisecond, recorded (R40), with the derating events. -/
def latchString (s : State) (n : Nat) : State :=
  let r := stringRef s n
  let q := stringQ s n r.q
  let r1 := { r with th := stringTable s 0x0B14 n, k := stringTable s 0x0B20 n, q := q, derating := q != 0x10000 }
  let s1 := capRec (setString s n r1) 7 (64 + n) 0 (leBytes 2 r1.th ++ leBytes 2 r1.k ++ leBytes 2 r1.a ++ leBytes 4 q)
  if q ≠ 0x10000 ∧ r.derating = false then raise s1 0x0B09 (args [(4, n), (4, uns 32 (stringTemp s n)), (4, q)])
  else if q = 0x10000 ∧ r.derating then raise s1 0x0B0A (args [(4, n), (4, uns 32 (stringTemp s n))])
  else s1

/-- STRING_FACTOR_LATCH: once per millisecond of LOCAL time. -/
def stringLatch (s : State) : State :=
  if s.sys.role ≠ .bed ∨ s.time.loc / msTicks ≤ s.bed.latchAt then s else
  ((List.range 12).filter (stringOn s)).foldl latchString { s with bed.latchAt := s.time.loc / msTicks }

def execStringFactorLatch (s : State) : Host.Outcome State Fault Refusal := live s stringLatch

/-! ### The EMIT_EN interlock (R435–R438) -/

/-- The low inputs as bits (14 R712). -/
def emitLow (s : State) : Nat := flag (!s.sys.emitEnA) 0 + flag (!s.sys.emitEnB) 1

/-- The inputs differ since now, or no longer. -/
def trackDiffer (s : State) : State :=
  if s.sys.emitEnA = s.sys.emitEnB then { s with sys.emitDiffer := none }
  else if s.sys.emitDiffer.isSome then s else { s with sys.emitDiffer := some s.time.loc }

/-- One input falls: 0 A, 1 B. The emission outputs go in hardware; INTERLOCK or EMIT_DISABLED. -/
def emitFall (s : State) (input : Nat) : State :=
  if (if input = 0 then s.sys.emitEnA else s.sys.emitEnB) = false then s else
  let s1 := bump (if input = 0 then { s with sys.emitEnA := false } else { s with sys.emitEnB := false }) 0x0B 0 9
  let s2 := capRec (trackDiffer s1) 0x0A 1 0 (leBytes 4 1 ++ leBytes 4 (emitLow s1))
  match s.sys.role with
  | .bed => fire (cutAllGates s2) 21 0 (emitLow s2)
  | .tile => raise (darkenSlot s2) 0x0B06 (args [(4, b2n s2.sys.emitEnA), (4, b2n s2.sys.emitEnB)])
  | _ => raise s2 0x0B06 (args [(4, b2n s2.sys.emitEnA), (4, b2n s2.sys.emitEnB)])

/-- EMIT_EN_FALL of input A, B or both. -/
def emitFalls (a b : Bool) (s : State) : State :=
  if s.sys.st = .reset then { s with sys.emitEnA := s.sys.emitEnA && !a, sys.emitEnB := s.sys.emitEnB && !b } else
  let s1 := if a then emitFall s 0 else s
  if b then emitFall s1 1 else s1

def execEmitEnFall (a b : Bool) (s : State) : Host.Outcome State Fault Refusal := liveAny s (emitFalls a b)

/-- EMIT_EN_RISE: EMIT_ENABLED when both are high again, in TILE and SENDER roles (R437). -/
def emitRise (a b : Bool) (s : State) : State :=
  let was := s.sys.emitEnA && s.sys.emitEnB
  let s1 := { s with sys.emitEnA := s.sys.emitEnA || a, sys.emitEnB := s.sys.emitEnB || b }
  if s.sys.st = .reset then s1 else
  let s2 := capRec (trackDiffer s1) 0x0A 1 0 (leBytes 4 1 ++ leBytes 4 (emitLow s1))
  if !was && s1.sys.emitEnA && s1.sys.emitEnB && s.sys.role != .bed then raise s2 0x0B07 [] else s2

def execEmitEnRise (a b : Bool) (s : State) : Host.Outcome State Fault Refusal := liveAny s (emitRise a b)

/-- EMIT_EN_DISCREPANCY (R438): the inputs have differed for the time of the key. -/
def emitDiscrepancy (s : State) : State :=
  match s.sys.emitDiffer with
  | some t =>
    if s.sys.st = .reset ∨ s.time.loc < t + keyU s 0x0B38 0 2 * msTicks then s else
    let s1 := { s with sys.emitDiffer := none }
    if s.sys.role = .bed then fire s1 21 0 (emitLow s + 4) else raise s1 0x0B08 (args [(4, b2n s.sys.emitEnA)])
  | none => s

def execEmitEnDiscrepancy (s : State) : Host.Outcome State Fault Refusal := live s emitDiscrepancy

end Sys2Proof.Machine
end

