-- ==== Sys2Proof/Machine/Host.lean ====
section
/-! DEFINITION. BAR0, mailboxes, the command ring, the event queue, SPI and the service port
(13_mailbox R480–R493, R524–R529). -/

namespace Sys2Proof.Machine

/-! ### Mailboxes (R482–R484, R501) -/

/-- Word `i` of a mailbox's command slot. -/
def slotWord (m : Mailbox) (i : Nat) : Nat := tabGet 0 m.cmd i

/-- The words that a doorbell takes: those that LEN names (R484). -/
def slotTake (m : Mailbox) : List Word :=
  (List.range (2 + min 62 (slotWord m 0 % 256))).map fun i => w32 (slotWord m i)

/-- The response words of NOT_READY, as hardware gives them (R501). -/
def notReadyWords (s : State) (tag : Nat) : List Word := respWords s tag (rBad .notReady 0) false

/-- MBX_DOORBELL (R483, R484, R501). -/
def mbxDoorbell (n : Nat) (s : State) : State :=
  if 8 ≤ n ∨ s.sys.st = .reset then s else
  let m := mbox s n
  let tag := bits (slotWord m 0) 12 12
  if m.busy then
    fire (bump (setMbox s n { m with refused := true }) 0 0 3) 38 n (1 + tag * 65536)
  else if s.sys.notReady then
    irq (bump (setMbox s n { m with tag := tag, done := true, busy := false, hwAnswer := true, taken := []
                                    resp := notReadyWords s tag }) 0 0 4) (2 ^ n)
  else setMbox s n { m with tag := tag, done := false, busy := true, taken := slotTake m }

def execMbxDoorbell (n : Nat) (s : State) : Host.Outcome State Fault Refusal := live s (mbxDoorbell n)

/-- MBX_STATUS_WRITE: W1C of DONE and REFUSED (R482). -/
def mbxStatusWrite (n v : Nat) (s : State) : State :=
  if 8 ≤ n then s else
  let m := mbox s n
  setMbox s n { m with done := m.done && !bit v 1, refused := m.refused && !bit v 2 }

def execMbxStatusWrite (n v : Nat) (s : State) : Host.Outcome State Fault Refusal := live s (mbxStatusWrite n v)

/-- A word written into a command slot; ignored while BUSY (R483). -/
def slotWrite (n i v : Nat) (s : State) : State :=
  let m := mbox s n
  if m.busy then s else setMbox s n { m with cmd := tabSet 0 m.cmd i (v % 2 ^ 32) }

/-! ### Delivering responses (R483, R487, R525, R526; 07_cascade_link R261) -/

/-- The first response in line that `p` names. -/
def findResp (p : Resp → Bool) (l : List Resp) : Option Resp := l.find? p

/-- Take a response out of the line; its tag leaves flight where the response ends it (R495). -/
def finishResp (s : State) (r : Resp) : State :=
  let s1 := { s with cmds.responses := s.cmds.responses.erase r }
  if r.ends then dropTag s1 r.tag else s1

/-- A mailbox response: the slot, DONE, BUSY, MBX_DONE (R483). -/
def mailboxResp (s : State) (n : Nat) (r : Resp) : State :=
  irq (setMbox s n { mbox s n with resp := r.words, done := true, busy := false, hwAnswer := r.hw }) (2 ^ (n % 8))

/-- A service-port response: sent to the command's origin with its SEQ, and kept (R525, R526). -/
def serviceResp (s : State) (r : Resp) : State :=
  match s.cmds.serviceCmds.find? fun k => k.origin == r.origin && k.tag == r.tag with
  | some k =>
    emit { s with
      cmds.serviceCmds := s.cmds.serviceCmds.erase k
      cmds.cache := lastN 256 (s.cmds.cache ++ [{ k with resp := r.words }]) }
      (.datagram r.origin 1 k.seq r.words)
  | none => emit s (.datagram r.origin 1 0 r.words)

/-- The port of an MGMT answer: upstream of a TILE, the peer port otherwise (07 R261). -/
def mgmtPort (s : State) (dev : Nat) : Option Nat :=
  if s.sys.role = .tile then
    (if s.link.tile.activeUp < 2 ∧ fenced s 2 s.link.tile.activeUp = false then some s.link.tile.activeUp else none)
  else if s.sys.role = .bed then some 15 else peerPortFor s dev

/-- An MGMT response to the device that sent the command. -/
def mgmtResp (s : State) (r : Resp) : State :=
  match mgmtPort s r.origin with
  | some p => sendCells s p (mgmtCells 1 false r.origin s.sys.deviceId r.tag 12 0 (bytesOf r.words))
  | none => s

/-- COMMAND_RESPONSE (R483): the oldest response of a path other than the ring goes out. A command posted
over SPI stands in the mailbox that its origin names. -/
def commandResponse (s : State) : State :=
  match findResp (fun r => r.path != 8) s.cmds.responses with
  | none => s
  | some r =>
    let s1 := if r.path < 8 then mailboxResp s r.path r
      else if r.path = 9 then serviceResp s r
      else if r.path = 10 then mailboxResp s (r.origin % 8) r
      else mgmtResp s r
    finishResp s1 r

def execCommandResponse (s : State) : Host.Outcome State Fault Refusal := live s commandResponse

/-! ### Command ring (R485–R488) -/

/-- A size is a power of two within bounds. -/
def pow2In (n lo hi : Nat) : Bool :=
  decide (lo ≤ n ∧ n ≤ hi) && (List.range 17).any fun k => 2 ^ k == n

/-- ENABLE of a ring changes (R486): own index to 0, base and size taken, BAD_CONFIG where they are invalid. -/
def ringEnable (r : RingRegs) (ctrl lo hi : Nat) : RingRegs :=
  if bit ctrl 0 && !bit r.ctrl 0 then
    let good := r.baseLo % 64 == 0 && pow2In r.size lo hi
    { r with ctrl := ctrl, devIx := 0, effBase := r.baseLo + r.baseHi * 2 ^ 32, effSize := r.size
             badConfig := !good, running := good }
  else if bit ctrl 0 then { r with ctrl := ctrl }
  else { r with ctrl := ctrl, running := false }

/-- The fields of CR_CTRL and EQ_CTRL; reserved bits read 0 (R485; 00_scope R14). -/
def crCtrlMask (v : Nat) : Nat := bits v 8 5 * 256 + v % 2
def eqCtrlMask (v : Nat) : Nat := bits v 16 12 * 65536 + bits v 8 5 * 256 + v % 2

/-- The ring registers act in SENDER and BED roles only (R524). -/
def ringRole (s : State) : Bool := s.sys.role != .tile

/-- CR_CTRL_WRITE (R486). -/
def crCtrlWrite (v : Nat) (s : State) : State :=
  if ringRole s then { s with regs.cr := ringEnable s.regs.cr (crCtrlMask v) 16 4096 } else s

def execCrCtrlWrite (v : Nat) (s : State) : Host.Outcome State Fault Refusal := live s (crCtrlWrite v)

/-- CR_TAIL_WRITE (R485, R487): signals new entries (log 16). -/
def crTailWrite (v : Nat) (s : State) : State :=
  if ringRole s then { s with regs.cr := { s.regs.cr with hostIx := v % 4096 } } else s

def execCrTailWrite (v : Nat) (s : State) : Host.Outcome State Fault Refusal := live s (crTailWrite v)

/-- Word `i` of a ring entry. -/
def entryWord (e : List Word) (i : Nat) : Nat := (e.getD i 0).toNat

/-- The ring can fetch (R487, R488, R501). -/
def canFetch (s : State) : Bool :=
  s.regs.cr.running && !s.sys.notReady && decide (s.cmds.inFlight.length < 4096) &&
    decide (s.regs.cr.devIx ≠ s.regs.cr.hostIx % max 1 s.regs.cr.effSize)

/-- The command that a ring entry carries. -/
def entryCmd (e : List Word) : Cmd :=
  { path := 8, tag := bits (entryWord e 0) 12 12, notify := bit (entryWord e 0) 8, len := entryWord e 0 % 256
    self := bit (entryWord e 1) 15, bcast := bit (entryWord e 1) 14, target := entryWord e 1 % 0x4000
    origin := entryWord e 2 + entryWord e 3 * 2 ^ 32, payload := [] }

/-- RING_ENTRY_FETCH (R487, R488, R529): the entry's 16 words as read. A misaligned address is recorded and
the entry is dropped; an inline payload longer than 10 words returns BAD_LENGTH. -/
def ringEntryFetch (e : List Word) (s : State) : State :=
  if canFetch s = false then s else
  let s1 := { s with regs.cr := { s.regs.cr with devIx := (s.regs.cr.devIx + 1) % max 1 s.regs.cr.effSize } }
  let c := entryCmd e
  let pay := entryWord e 4 + entryWord e 5 * 2 ^ 32
  if entryWord e 2 % 16 ≠ 0 ∨ pay % 4 ≠ 0 then fire s1 38 8 (3 + c.tag * 65536)
  else if pay = 0 ∧ 10 < c.len then answer s1 (bits (entryWord e 0) 24 8) c (rBad .badLength 0xFFFF) false
  else { s1 with cmds.fetched := s1.cmds.fetched ++ [(c.origin, c.tag)] }

def execRingEntryFetch (e : List Word) (s : State) : Host.Outcome State Fault Refusal := live s (ringEntryFetch e)

/-- RING_RESPONSE_WRITE (R487): words 1 onward, word 0 last, then the completion notice. -/
def ringResponseWrite (s : State) : State :=
  match findResp (fun r => r.path == 8) s.cmds.responses with
  | none => s
  | some r =>
    if s.regs.cr.dmaError then s else
    let s1 := emits s [.hostWrite (r.origin + 4) (r.words.drop 1), .hostWrite r.origin (r.words.take 1)]
    let s2 := if r.notify then emit s1 (.msix (bits s.regs.cr.ctrl 8 5)) else s1
    finishResp { s2 with cmds.fetched := s2.cmds.fetched.erase (r.origin, r.tag) } r

def execRingResponseWrite (s : State) : Host.Outcome State Fault Refusal := live s ringResponseWrite

/-- RING_DMA_ERROR (R489): DMA_ERROR, the ring stops, HOST_LINK. -/
def ringDmaError (queue : Bool) (s : State) : State :=
  if queue then
    if s.regs.eq.running = false then s else
    fire (irq { s with regs.eq := { s.regs.eq with dmaError := true, running := false } } irqHostError) 37 0 2
  else
    if s.regs.cr.running = false then s else
    fire (irq { s with regs.cr := { s.regs.cr with dmaError := true, running := false } } irqHostError) 37 0 1

def execRingDmaError (queue : Bool) (s : State) : Host.Outcome State Fault Refusal := live s (ringDmaError queue)

/-! ### Event queue (R486, R489) -/

/-- EQ_CTRL_WRITE (R486). -/
def eqCtrlWrite (v : Nat) (s : State) : State :=
  if ringRole s then { s with regs.eq := ringEnable s.regs.eq (eqCtrlMask v) 64 65536 } else s

def execEqCtrlWrite (v : Nat) (s : State) : Host.Outcome State Fault Refusal := live s (eqCtrlWrite v)

/-- EQ_HEAD_WRITE (R489): frees room (log 16). -/
def eqHeadWrite (v : Nat) (s : State) : State :=
  if ringRole s then { s with regs.eq := { s.regs.eq with hostIx := v % 65536 } } else s

def execEqHeadWrite (v : Nat) (s : State) : Host.Outcome State Fault Refusal := live s (eqHeadWrite v)

/-- COALESCE_US in ticks. -/
def coalesceTicks (s : State) : Nat := bits s.regs.eq.ctrl 16 12 * usTicks

/-- Notify the host of a record, at most once per COALESCE_US (R489). -/
def eqNotify (s : State) : State :=
  let wait := match s.evs.coalesceUntil with
    | some t => decide (s.time.loc < t)
    | none => false
  if wait then { s with evs.notifyPending := true }
  else emit { s with evs.coalesceUntil := some (s.time.loc + coalesceTicks s), evs.notifyPending := false }
    (.msix (bits s.regs.eq.ctrl 8 5))

/-- EVENT_RECORD_WRITE (R489): one record at EQ_TAIL. -/
def eventRecordWrite (s : State) : State :=
  match s.evs.held with
  | [] => s
  | r :: rest =>
    if eqRoom s = false ∨ s.sys.notReady then s else
    let q := s.regs.eq
    let s1 := emit { s with evs.held := rest, regs.eq := { q with devIx := (q.devIx + 1) % max 1 q.effSize } }
      (.hostWrite (q.effBase + 16 * q.devIx) r)
    eqNotify (irq s1 irqEvent)

def execEventRecordWrite (s : State) : Host.Outcome State Fault Refusal := live s eventRecordWrite

/-- EVENT_COALESCE_EXPIRY (R489). -/
def eventCoalesceExpiry (s : State) : State :=
  match s.evs.coalesceUntil with
  | none => s
  | some t =>
    if s.time.loc < t then s
    else if s.evs.notifyPending then eqNotify { s with evs.coalesceUntil := none }
    else { s with evs.coalesceUntil := none }

def execEventCoalesceExpiry (s : State) : Host.Outcome State Fault Refusal := live s eventCoalesceExpiry

/-- EQ_STATUS as read (R485). -/
def eqStatus (s : State) : Nat :=
  s.regs.eqDropped * 65536 + flag s.regs.eq.badConfig 2 + flag s.regs.eq.dmaError 1 + flag s.regs.eq.running 0

/-- EQ_STATUS_READ (R485): DROPPED is returned and cleared. -/
def eqStatusRead (s : State) : State :=
  emit { s with regs.eqDropped := 0 } (.readData 0 [w32 (eqStatus s)])

def execEqStatusRead (s : State) : Host.Outcome State Fault Refusal := live s eqStatusRead

/-! ### Interrupts and time (R491, R492) -/

/-- IRQ_STATUS_WRITE: W1C (R491). -/
def irqStatusWrite (v : Nat) (s : State) : State :=
  { s with regs.irqStatus := s.regs.irqStatus - Nat.land s.regs.irqStatus v }

def execIrqStatusWrite (v : Nat) (s : State) : Host.Outcome State Fault Refusal := live s (irqStatusWrite v)

/-- TIME_LATCH (R492; 09_time R352). -/
def timeLatch (s : State) : State := { s with regs.timeSys := timeForm s (sysTicks s), regs.timeLocal := s.time.loc }

def execTimeLatch (s : State) : Host.Outcome State Fault Refusal := live s timeLatch

/-! ### The register map (R16, R480–R493) -/

/-- DEV_ID, DEV_STEP, ROLE and HW_STATUS (R481). -/
def regDevId (s : State) : Nat :=
  0x2416 * 65536 + flag s.sys.unassigned 14 + (if s.sys.unassigned then 0 else s.sys.deviceId % 0x4000)
def regDevStep : Nat := Config.grade.toNat * 65536 + 0x4201
def roleCode : Role → Nat
  | .tile => 0 | .sender => 1 | .bed => 2 | .factory => 3
def regHwStatus (s : State) : Nat :=
  flag (degraded s) 10 + flag s.img.fallback 9 + flag (s.sys.st == .safe) 8 + stateCode s.sys.st * 16 + flag s.sys.notReady 0

/-- MBXn_STATUS (R482). -/
def regMbx (m : Mailbox) : Nat :=
  m.tag * 16 + flag m.hwAnswer 3 + flag m.refused 2 + flag m.done 1 + flag m.busy 0

/-- SPILL_FIRST (R490). -/
def regFirst (f : First) : Nat :=
  if f.valid then 2 ^ 31 + flag f.coincident 19 + flag f.injected 18 + flag f.merged 17 + flag f.overflow 16 +
    f.severity % 4 * 256 + f.source % 64 else 0

/-- SPILL_FIRST_TIME in the TIME_FORMAT form (R490). -/
def firstTime (s : State) : Nat := if s.spill.first.valid then timeForm s (s.spill.first.sysT / 2 ^ 32) else 0

/-- A BAR0 register as read, without the effect of a read on it (R480–R493). -/
def barRead (s : State) (off : Nat) : Nat :=
  let n := off / 16 % 16
  if off = 0x0000 then regDevId s
  else if off = 0x0004 then regDevStep
  else if off = 0x0008 then roleCode s.sys.role
  else if off = 0x0010 then regHwStatus s
  else if off = 0x0020 then (if ringRole s then s.regs.bar2Lo else 0)
  else if off = 0x0024 then (if ringRole s then s.regs.bar2Hi else 0)
  else if 0x0100 ≤ off ∧ off < 0x0180 ∧ off % 16 = 4 then regMbx (mbox s n)
  else if 0x1000 ≤ off ∧ off < 0x1800 then slotWord (mbox s ((off - 0x1000) / 256)) (off % 256 / 4)
  else if 0x1800 ≤ off ∧ off < 0x2000 then ((mbox s ((off - 0x1800) / 256)).resp.getD (off % 256 / 4) 0).toNat
  else match off with
    | 0x2000 => s.regs.cr.baseLo
    | 0x2004 => s.regs.cr.baseHi
    | 0x2008 => s.regs.cr.size
    | 0x200C => s.regs.cr.hostIx
    | 0x2010 => s.regs.cr.devIx
    | 0x2014 => s.regs.cr.ctrl
    | 0x2018 => flag s.regs.cr.badConfig 2 + flag s.regs.cr.dmaError 1 + flag (s.regs.cr.running && !s.sys.notReady) 0
    | 0x2100 => s.regs.eq.baseLo
    | 0x2104 => s.regs.eq.baseHi
    | 0x2108 => s.regs.eq.size
    | 0x210C => s.regs.eq.hostIx
    | 0x2110 => s.regs.eq.devIx
    | 0x2114 => s.regs.eq.ctrl
    | 0x2118 => eqStatus s
    | 0x3000 => s.spill.status % 2 ^ 32
    | 0x3004 => s.spill.status / 2 ^ 32
    | 0x3008 => regFirst s.spill.first
    | 0x300C => firstTime s % 2 ^ 32
    | 0x3010 => firstTime s / 2 ^ 32
    | 0x3100 => s.regs.irqStatus
    | 0x3104 => s.regs.irqMask
    | 0x4004 => s.regs.timeSys % 2 ^ 32
    | 0x4008 => s.regs.timeSys / 2 ^ 32
    | 0x400C => s.regs.timeLocal % 2 ^ 32
    | 0x4010 => s.regs.timeLocal / 2 ^ 32
    | _ => 0

/-- A ring's base or size register written; the ring in TILE role has no effect (R485, R524). -/
def ringRegWrite (off v : Nat) (s : State) : State :=
  let cr := s.regs.cr
  let eq := s.regs.eq
  match off with
  | 0x2000 => { s with regs.cr := { cr with baseLo := v } }
  | 0x2004 => { s with regs.cr := { cr with baseHi := v } }
  | 0x2008 => { s with regs.cr := { cr with size := v % 8192 } }
  | 0x200C => crTailWrite v s
  | 0x2014 => crCtrlWrite v s
  | 0x2018 => { s with regs.cr := { cr with dmaError := cr.dmaError && !bit v 1 } }
  | 0x2100 => { s with regs.eq := { eq with baseLo := v } }
  | 0x2104 => { s with regs.eq := { eq with baseHi := v } }
  | 0x2108 => { s with regs.eq := { eq with size := v % 2 ^ 17 } }
  | 0x210C => eqHeadWrite v s
  | 0x2114 => eqCtrlWrite v s
  | 0x2118 => { s with regs.eq := { eq with dmaError := eq.dmaError && !bit v 1 } }
  | _ => s

/-- A 32-bit write at an aligned BAR0 offset (R16, R480). -/
def barWrite (off v : Nat) (s : State) : State :=
  let n := off / 16 % 16
  if off = 0x0020 then (if ringRole s then { s with regs.bar2Lo := bits v 28 4 * 2 ^ 28 } else s)
  else if off = 0x0024 then (if ringRole s then { s with regs.bar2Hi := v % 2 ^ 32 } else s)
  else if 0x0100 ≤ off ∧ off < 0x0180 ∧ off % 16 = 0 then (if bit v 0 then mbxDoorbell n s else s)
  else if 0x0100 ≤ off ∧ off < 0x0180 ∧ off % 16 = 4 then mbxStatusWrite n v s
  else if 0x1000 ≤ off ∧ off < 0x1800 then slotWrite ((off - 0x1000) / 256) (off % 256 / 4) v s
  else if 0x2000 ≤ off ∧ off < 0x2200 then (if ringRole s then ringRegWrite off (v % 2 ^ 32) s else s)
  else if off = 0x3100 then irqStatusWrite v s
  else if off = 0x3104 then { s with regs.irqMask := v % 2 ^ 14 }
  else if off = 0x4000 then (if bit v 0 then timeLatch s else s)
  else s

/-- REGISTER_WRITE (R16, R480): another width or an unaligned offset is ignored and counted. -/
def registerWrite (off width v : Nat) (s : State) : State :=
  if s.sys.st = .reset then s
  else if width ≠ 4 ∨ off % 4 ≠ 0 then bump s 0 0 6
  else if off < 65536 then barWrite off v s else s

def execRegisterWrite (off width v : Nat) (s : State) : Host.Outcome State Fault Refusal :=
  live s (registerWrite off width v)

/-! ### SPI (R524) -/

/-- Whole words written from an offset. -/
def spiWrite : Nat → Nat → List Byte → State → State
  | 0, _, _, s => s
  | fuel + 1, off, l, s =>
    if l.length < 4 then s else spiWrite fuel ((off + 4) % 65536) (l.drop 4) (barWrite off (leAt l 0 4) s)

/-- SPI_TRANSACTION: the bytes of one transaction, CS_N low to high; a read clocks its data out after the
dummy byte. -/
def spiTransaction (l : List Byte) (s : State) : State :=
  if s.sys.role ≠ .tile ∨ s.sys.st = .reset then s else
  let off := (l.getD 1 0).toNat * 256 + (l.getD 2 0).toNat
  if off % 4 ≠ 0 then s
  else if (l.getD 0 0).toNat = 0x02 then spiWrite l.length off (l.drop 3) s
  else if (l.getD 0 0).toNat = 0x0B then
    emit s (.readData 10 ((List.range ((l.length - 4) / 4)).map fun i => w32 (barRead s ((off + 4 * i) % 65536))))
  else s

def execSpiTransaction (bytes : List Byte) (s : State) : Host.Outcome State Fault Refusal := live s (spiTransaction bytes)

/-! ### Service port (R525, R526) -/

/-- The address of the service port (R527): SERVICE_IP, or the link-local address of the identity. -/
def serviceIp (s : State) : Nat :=
  let ip := keyU s 0x0000 0 4
  let u := Config.uniqueId.toNat
  if ip = 0 then 169 * 2 ^ 24 + 254 * 65536 + (1 + bits u 8 8 % 254) * 256 + u % 256 else ip

/-- Service-port commands in flight: those not yet answered, and accepted ones before CMD_DONE (R526). -/
def serviceInFlight (s : State) : Nat :=
  s.cmds.serviceCmds.length +
    (s.cmds.inFlight.filter fun f => f.path == 9 && !s.cmds.serviceCmds.any fun k => k.tag == f.tag).length

/-- SERVICE_DATAGRAM (R501, R525, R526): a command datagram from `origin`, address × 65 536 + UDP port. -/
def serviceDatagram (origin version kind seq : Nat) (words : List Word) (s : State) : State :=
  if version ≠ 1 ∨ kind ≠ 0 ∨ s.sys.st = .reset then s else
  let tag := bits (entryWord words 0) 12 12
  if s.sys.notReady then emit (bump s 0 0 4) (.datagram origin 1 seq (notReadyWords s tag))
  else match s.cmds.cache.find? fun k => k.origin == origin && k.tag == tag && k.cmd == words with
    | some k => emit (bump s 0 0 8) (.datagram origin 1 seq k.resp)
    | none =>
      if 32 ≤ serviceInFlight s then
        let s1 := logAdd (bump (bump s 0 0 7) 0 0 1) 0x0D03
          (args [(1, bits (entryWord words 0) 24 8), (1, statusCode .noCredit), (2, tag), (1, 9)])
        emit s1 (.datagram origin 1 seq (respWords s1 tag (rBad .noCredit 0xFFFF) false))
      else { s with cmds.serviceCmds := s.cmds.serviceCmds ++
          [{ origin := origin, tag := tag, seq := seq % 65536, cmd := words, resp := [] }] }

def execServiceDatagram (origin version kind seq : Nat) (words : List Word) (s : State) : Host.Outcome State Fault Refusal :=
  live s (serviceDatagram origin version kind seq words)

/-- SERVICE_ARP (R525): the answer with the service port's MAC address, the identity base + 4 (R713). -/
def serviceArp (ip asker : Nat) (s : State) : State :=
  if s.sys.notReady ∨ ip ≠ serviceIp s then s else emit s (.arp 4 ip (macBase + 4) asker)

def execServiceArp (ip asker : Nat) (s : State) : Host.Outcome State Fault Refusal := live s (serviceArp ip asker)

/-- Whole events that fit in `n` records. -/
def takeEvents : Nat → List EvRec → List EvRec
  | _, [] => []
  | n, e :: r => if e.length ≤ n then e :: takeEvents (n - e.length) r else []

/-- SERVICE_EVENT_DATAGRAM (R525): up to 64 records to SERVICE_EVENT_DEST. -/
def serviceEventDatagram (s : State) : State :=
  if s.sys.notReady ∨ s.evs.svc.isEmpty ∨ eqEnabled s ∨ keyU s 0x0002 0 4 = 0 then s else
  let e := takeEvents 64 s.evs.svc
  emit { s with evs.svc := s.evs.svc.drop e.length, cmds.eventSeq := (s.cmds.eventSeq + 1) % 65536 }
    (.datagram (keyU s 0x0002 0 4 * 65536 + keyU s 0x0002 4 2) 2 s.cmds.eventSeq (e.flatMap List.flatten))

def execServiceEventDatagram (s : State) : Host.Outcome State Fault Refusal := live s serviceEventDatagram

end Sys2Proof.Machine
end

