-- ==== Sys2Proof/Machine/Loops.lean ====
section
/-! DEFINITION. The loop engine's commands, the trace unit, and the updates of headroom and string slots (12_loops). -/

namespace Sys2Proof.Machine

/-! ### LOOP_DEFINE (R467, R468) -/

/-- The first word of a definition at fault, for the slot's kind; ignored fields are not checked. -/
def loopFault (kind : Nat) (c : Cmd) : Option Nat :=
  let w := pw c
  if 12 < bits (w 0) 12 4 ∨ (if kind = 1 then 2 else 0) < bits (w 0) 18 2 then some 0
  else if kind ≠ 0 ∧ w 2 / 65536 < w 2 % 65536 then some 2
  else if sgn 16 (w 3 / 65536) < sgn 16 (w 3) then some 3
  else if w 5 < 2048 ∨ 1000000000 < w 5 then some 5
  else if w 6 / 65536 = 1 ∨ bits (w 6) 8 8 = 0 then some 6
  else none

def bodyLoopDefine : Body := fun c s =>
  let k := bits (pw c 0) 24 5
  if slotExists s k = false then (s, rBad .badParam 0)
  else if slotEnabled s k then (s, rBad .busy 0)
  else match loopFault (slotKind s k) c with
    | some i => (s, rBad .badParam i)
    | none => (setLoop s k { loopSlot s k with defn := some ((List.range 8).map (pw c)) }, rOk)

def opLoopDefine : OpSpec := opTB 0x60 stRdRnHoSa false (some 8)
def execLoopDefine (c : Cmd) (s : State) : Host.Outcome State Fault Refusal := live s (runCmd opLoopDefine noBuild bodyLoopDefine c)

/-! ### LOOP_LUT_LOAD (R470), LOOP_ENABLE (R471), SETPOINT_SET (R472) -/

/-- Every state except BOOT and SERVICE. -/
def stNotService : List DevState := [.standby, .ready, .run, .hold, .safe]

def bodyLoopLutLoad : Body := fun c s =>
  let h := pw c 0
  let n := bits h 0 6
  let first := bits h 16 6
  let k := bits h 24 5
  if c.len ≠ 1 + n then (s, rBad .badLength 0xFFFF)
  else if slotExists s k = false ∨ 64 < first + n ∨ 61 < n ∨ (n = 0 ∧ bit h 31 = false) then (s, rBad .badParam 0)
  else
    let t := (List.range n).foldl (fun (t : List Int) i => t.set (first + i) (sgn 32 (pw c (1 + i)))) (stagedTable s k)
    (setLoop s k { loopSlot s k with staged := some t, commit := (loopSlot s k).commit || bit h 31 }, rOk)

def opLoopLutLoad : OpSpec := opTB 0x61 stNotService false none
def execLoopLutLoad (c : Cmd) (s : State) : Host.Outcome State Fault Refusal := live s (runCmd opLoopLutLoad noBuild bodyLoopLutLoad c)

def bodyLoopEnable : Body := fun c s =>
  let named := (List.range 32).filter fun k => bit (pw c 0) k
  if named.any (fun k => !slotExists s k) then (s, rBad .badParam 0)
  else (named.foldl (fun t k =>
    setLoop t k { loopSlot t k with en := some (slotEnabled t k), want := some (bit (pw c 1) 0) }) s, rOk)

def opLoopEnable : OpSpec := opTB 0x62 stRdRnHoSa false (some 2)
def execLoopEnable (c : Cmd) (s : State) : Host.Outcome State Fault Refusal := live s (runCmd opLoopEnable noBuild bodyLoopEnable c)

/-- The range of a target by the slot's kind (R472). -/
def setpointOk (kind : Nat) (v : Int) : Bool :=
  match kind with
  | 0 => decide (150 ≤ v) && decide (v ≤ 300)
  | 1 => decide (0 ≤ v) && decide (v ≤ 65535)
  | _ => decide (0 ≤ v) && decide (v ≤ 4095)

/-- A headroom override below 250 mV with a drive code above 127 (03_lamp_drive R113). -/
def headroomTooLow (s : State) (k : Nat) (v : Int) : Bool :=
  slotKind s k == 0 && decide (v < 250) && decide (127 < leAt (keyCommitted s (0x0502 + keyU s 0x0501 k 1 % 4)) 0 1)

def bodySetpointSet : Body := fun c s =>
  let k := bits (pw c 0) 0 5
  let v := sgn 32 (pw c 1)
  if slotExists s k = false then (s, rBad .badParam 0)
  else if bit (pw c 0) 31 then (setLoop s k { loopSlot s k with over_ := none, notify := false }, rOk)
  else if setpointOk (slotKind s k) v = false ∨ headroomTooLow s k v then (s, rBad .badParam 1)
  else (setLoop s k { loopSlot s k with over_ := some v, notify := bit (pw c 0) 30 }, rOk)

def opSetpointSet : OpSpec := opTB 0x63 stRdRnHo false (some 2)
def execSetpointSet (c : Cmd) (s : State) : Host.Outcome State Fault Refusal := live s (runCmd opSetpointSet noBuild bodySetpointSet c)

/-! ### The trace unit (R473–R476) -/

/-- A channel of TRACE_ARM. -/
def armChan (w : Nat) : TraceChan :=
  { TraceChan.cold with enable := bit w 31, decim := bits w 16 8 + 1, slot := bits w 8 5, node := bits w 0 4 }

/-- OP 0's checks. -/
def traceArmBad (s : State) (c : Cmd) : Bool :=
  let ch := (List.range 8).map fun i => armChan (pw c (2 + i))
  !ch.any (·.enable) || ch.any (fun x => x.enable && (!slotExists s x.slot || decide (8 < x.node))) || decide (16384 < bits (pw c 0) 0 15)

def bodyTraceArm : Body := fun c s =>
  let w := pw c 0
  match bits w 30 2 with
  | 0 =>
    if traceArmBad s c then (s, rBad .badParam 0)
    else ({ s with trace := { Trace.cold with
      st := 1, trigSrc := bits w 16 8, trigArg := pw c 1, pre := bits w 0 15
      chans := (List.range 8).foldl (fun t i => tabSet TraceChan.cold t i (armChan (pw c (2 + i)))) [] } }, rOk)
  | 1 => (traceFire s 0, rOk)
  | 2 => (if s.trace.st = 1 ∨ s.trace.st = 2 then { s with trace.st := 4 } else s, rOk)
  | _ => (s, rBad .badParam 0)

def opTraceArm : OpSpec := opB 0x64 [] false (some 10)
/-- TRACE_ARM: the OP of the command's word decides (R475). -/
def runTraceArm (c : Cmd) (s : State) : State := runCmd opTraceArm noBuild bodyTraceArm c s
def execTraceArmArm (c : Cmd) (s : State) : Host.Outcome State Fault Refusal := live s (runTraceArm c)
def execTraceArmTrigger (c : Cmd) (s : State) : Host.Outcome State Fault Refusal := live s (runTraceArm c)
def execTraceArmDisarm (c : Cmd) (s : State) : Host.Outcome State Fault Refusal := live s (runTraceArm c)

/-- TRACE_READ (R476). A sample beyond VALID is a free value. -/
def bodyTraceRead : Body := fun c s =>
  let w := pw c 0
  let x := tchan s (bits w 24 3)
  let n := bits w 16 6
  let first := bits w 0 14
  if n = 0 ∨ 58 < n then (s, rBad .badParam 0)
  else if s.trace.st = 1 ∨ s.trace.st = 2 then (s, rBad .busy 0)
  else
    let head := [w, s.trace.st * 2 ^ 28 + s.trace.firedBy * 65536 + x.samples.length, s.trace.firedLocal % 2 ^ 32,
      s.trace.firedLocal / 2 ^ 32]
    (nextFree s, rWords ((head ++ (List.range n).map fun i =>
      x.samples.getD (first + i) (Config.free s.sys.free (200 + i))).map w32))

def opTraceRead : OpSpec := opB 0x65 [] false (some 1)
def execTraceRead (c : Cmd) (s : State) : Host.Outcome State Fault Refusal := live s (runCmd opTraceRead noBuild bodyTraceRead c)

/-- TRACE_TRIGGER (R473, R474): a source of the trigger acts. -/
def execTraceTrigger (src arg : Nat) (s : State) : Host.Outcome State Fault Refusal := live s (fun t => traceTrigger t src arg)

/-- TRACE_DONE (R473). -/
def execTraceDone (s : State) : Host.Outcome State Fault Refusal := live s traceDone

/-! ### Headroom slots (R443, R466) -/

/-- Target of a headroom slot (R442; 03_lamp_drive R112). -/
def headroomTarget (s : State) (n : Nat) : Int := (min (keyU s 0x0520 0 2 + tabGet 0 s.th.age.railA n) 300 : Nat)

/-- HEADROOM_LOOP_UPDATE: once per slot boundary, in RUN and in HOLD with display. The slot's output is the rail's present
code, which a fallback and a Capo hold (R450, R453; 03 R114), and the code keeps to its limits (03 R107). -/
def headroomUpdate (n : Nat) (s : State) : State :=
  let l := { loopSlot s n with out := (stage s n).code, held := (stage s n).code }
  if s.sys.role ≠ .tile ∨ slotExists s n = false ∨ displayed s = false ∨ (stage s n).mode ≠ 3 ∨ l.seen = s.loops.ended then s else
  let r := (stage s n).report
  let s1 := loopUpdate (setLoop s n { l with seen := s.loops.ended, epoch := s.loops.epoch }) n
    { delta := s.loops.endedLen, target := headroomTarget s n, headFf := 0, lo := codeMin s n, hi := codeMax s n
      x := r.map fun c => (c : Int) * 10, noDemand := r.isNone, qualified := true
      first := if l.epoch = s.loops.epoch then none else some ((stage s n).code : Int) }
  trackLimit (setStage s1 n { stage s1 n with code := max (codeMin s1 n) (min (codeMax s1 n) (loopSlot s1 n).out.toNat) }) n

def execHeadroomLoopUpdate (n : Nat) (s : State) : Host.Outcome State Fault Refusal := live s (headroomUpdate n)

/-! ### String slots (R443, R465; 11_heads_lasers R433, R434) -/

/-- Ticks of a soft-start or ramp-down. -/
def rampTicks : Nat := 1000000

/-- The reference of a string with the soft-start or the ramp-down upon it (11 R433). -/
def stringTarget (s : State) (n : Nat) : Int :=
  let g := stage s n
  let r := stringRef s n
  let t := min rampTicks (s.time.loc - g.softAt)
  match g.mode with
  | 1 => (r.ref * t / rampTicks : Nat)
  | 4 => (r.rampFrom * (rampTicks - t) / rampTicks : Nat)
  | _ => r.ref

/-- The upper limit of a string's threshold: STAGE_ILIM in codes of 37.5 µV (R465). -/
def stringMax (s : State) (n : Nat) : Int := (min (loopOutMax s (16 + n)) (keyU s 0x0526 n 1 * 80 / 3) : Nat)

/-- STRING_LOOP_UPDATE at the multiples of 8000 ticks of LOCAL time: the mean of the conversions, none where the ADC
gave no valid one. A stage ramped down goes off. -/
def stringUpdate (n : Nat) (sample : Option Int) (s : State) : State :=
  let g := stage s n
  let k := 16 + n
  if s.sys.role ≠ .bed ∨ 12 ≤ n ∨ g.mode = 0 ∨ s.time.loc / 8000 ≤ (loopSlot s k).seen then s else
  let s0 := capRec s 7 (32 + n) 0 (leBytes 4 n ++ leBytes 4 (uns 32 (sample.getD (-1))))
  let s1 := loopUpdate (setLoop s0 k { loopSlot s0 k with seen := s.time.loc / 8000 }) k
    { delta := 8000, target := stringTarget s n, headFf := 0, lo := loopOutMin s k, hi := stringMax s n
      x := sample, noDemand := false, qualified := true, first := none }
  let s2 := setStage s1 n { stage s1 n with code := (loopSlot s1 k).out.toNat }
  if g.mode = 4 ∧ g.softAt + rampTicks ≤ s.time.loc then stopStage s2 n else s2

def execStringLoopUpdate (n : Nat) (sample : Option Int) (s : State) : Host.Outcome State Fault Refusal := live s (stringUpdate n sample)

/-- STAGE_SOFTSTART_DONE (03_lamp_drive R114; 11 R433, R434): a TILE's rail has reached RAIL_V_MAX after 1 ms; a string
has reached its reference after 100 µs, or has not come within 2 % of it after 1 ms. -/
def softStartDone (n : Nat) (ok : Bool) (s : State) : State :=
  let g := stage s n
  if g.mode ≠ 1 then s else
  match s.sys.role with
  | .tile => if g.softAt + msTicks ≤ s.time.loc then trackLimit (setStage s n { g with mode := if displayed s then 3 else 2 }) n else s
  | .bed =>
    if ok then (if g.softAt + rampTicks ≤ s.time.loc then setStage s n { g with mode := 3 } else s)
    else if g.softAt + msTicks ≤ s.time.loc then fire s 20 n 4 else s
  | _ => s

def execStageSoftstartDone (stage : Nat) (ok : Bool) (s : State) : Host.Outcome State Fault Refusal := live s (softStartDone stage ok)

end Sys2Proof.Machine
end

