-- ==== Sys2Proof/Machine/KeyCmds.lean ====
section
/-! DEFINITION. Configuration keys: reading, writing, the checks and the effect of a commit, DRIVE_SET, BRIGHTNESS_SET
and SEAL_CONFIG (13_mailbox R517–R519, R523). -/

namespace Sys2Proof.Machine

/-! ### CFG_WRITE and CFG_READ (R517) -/

/-- Bytes of one element of a key that has reserved bits, as masks repeated over the value (00_scope R14). -/
def keyMask (id : Nat) : List Nat :=
  if 0x0410 ≤ id ∧ id ≤ 0x041F then [255, 255, 255, 255, 255, 255, 255, 255, 0x0F, 0x01, 0, 0]
  else if 0x0730 ≤ id ∧ id ≤ 0x0737 then List.replicate 48 255 ++ [255, 255, 0x0F, 0, 255, 255, 0x0F, 0, 255, 255, 0x0F, 0]
  else if 0x0A10 ≤ id ∧ id ≤ 0x0A17 then List.replicate 20 255 ++ [7, 0, 0, 0]
  else match id with
    | 0x0201 => [0x7F]
    | 0x0500 => [0x0F]
    | 0x0501 => [0x8F]
    | 0x0B10 => [0x8F]
    | 0x0C02 => [255, 255, 3, 0, 255, 255, 0, 0]
    | _ => [255]

/-- A value without its reserved bits. -/
def maskKey (id : Nat) (v : List Byte) : List Byte :=
  let m := keyMask id
  v.mapIdx fun i b => b8 (Nat.land b.toNat (m.getD (i % m.length) 255))

/-- The staged value of a key, else its committed one. -/
def keyStaged (s : State) (id : Nat) : List Byte := (tabGet none s.keys.staged id).getD (keyCommitted s id)

/-- Fields of the header. -/
def cfgKey (c : Cmd) : Nat := pw c 0 / 65536
def cfgOffset (c : Cmd) : Nat := pw c 1 / 65536
def cfgBytes (c : Cmd) : Nat := pw c 1 % 65536

/-- The case of R517 that holds first; a standby of a pair takes no write of a pair-state key (17 R630). -/
def cfgFault (write : Bool) (c : Cmd) (s : State) : Option Reply :=
  let id := cfgKey c
  match keyDef s.sys.role id with
  | none => some (rBad .badParam 0)
  | some k =>
    let n := cfgBytes c
    if keyInRole k s.sys.role = false then some (rBad .roleReject 0)
    else if write ∧ ((k.cls = .sealed ∧ (s.sys.st ≠ .standby ∨ s.sys.sealed)) ∨ (pairStandby s ∧ pairKey s.sys.role id)) then
      some (rBad .stateReject 0)
    else if n = 0 ∨ 240 < n ∨ k.size < cfgOffset c + n then some (rBad .badParam 1)
    else
      let want := if write then 2 + cdiv n 4 else 2
      if c.len ≠ want then some (rBad .badLength want) else none

/-- CFG_WRITE: bytes go into the staged value. -/
def bodyCfgWrite : Body := fun c s =>
  match cfgFault true c s with
  | some r => (s, r)
  | none =>
    let id := cfgKey c
    let v := putBytes (keyStaged s id) (cfgOffset c) ((bytesOf (c.payload.drop 2)).take (cfgBytes c))
    ({ s with keys.staged := tabSet none s.keys.staged id (some (maskKey id v)) }, rOk)

/-- CFG_READ: bytes of the staged or the committed value. -/
def bodyCfgRead : Body := fun c s =>
  match cfgFault false c s with
  | some r => (s, r)
  | none =>
    let id := cfgKey c
    let v := if bit (pw c 0) 0 then keyStaged s id else keyCommitted s id
    (s, rWords ([w32 (pw c 0 / 65536 * 65536 + pw c 0 % 2), w32 (pw c 1)] ++ wordsOf ((v.drop (cfgOffset c)).take (cfgBytes c))))

def opCfgWrite : OpSpec := opTSB 0x10 [] true none
def execCfgWrite (c : Cmd) (s : State) : Host.Outcome State Fault Refusal := live s (runCmd opCfgWrite noBuild bodyCfgWrite c)
def opCfgRead : OpSpec := opTSB 0x11 [] false none
def execCfgRead (c : Cmd) (s : State) : Host.Outcome State Fault Refusal := live s (runCmd opCfgRead noBuild bodyCfgRead c)

/-! ### The checks (R518, R519) -/

/-- Keys with a staged value, ascending. -/
def stagedIds (s : State) : List Nat := s.keys.staged.filterMap fun p => if p.2.isSome then some p.1 else none

/-- The configuration that would result, with every value in effect: the checks read it through `keyU`. -/
def resulting (s : State) : State :=
  { s with keys.eff := s.keys.staged.foldl (fun t p => match p.2 with
      | some v => keyPut s.sys.role t p.1 v
      | none => t) s.keys.committed }

/-- A rule over several keys: it fails, the keys it reads, the key it is charged to where none of them is staged, and
whether SEAL_CONFIG alone checks it. -/
structure KeyRule where
  bad : Bool
  keys : List Nat
  home : Nat
  sealOnly : Bool
deriving DecidableEq, Repr

/-- Ranges that are not runs of fields: WIDTH of CASCADE_MODE (07 R276), STAGE_MAP's colours (03 R106), unicast addresses (08 R314), HEAD_CAM_RING (11 R439), STEP_WIDTH (10 R404),
NTC_CONFIG (15 R596), PAIR_STATE_AREA (17 R646). -/
def specialOk (id : Nat) (v : List Byte) : Bool :=
  let u := leAt v
  if 0x0A10 ≤ id ∧ id ≤ 0x0A17 then decide (2 * u 4 2 * u 0 4 ≤ secTicks)
  else match id with
    | 0x0201 => (List.range 8).all fun p => bits (u p 1) 5 2 != 3
    | 0x0501 => (List.range 12).all fun n => u n 1 % 4 != 3
    | 0x0101 => (List.range 4).all fun p => u (6 * p + 5) 1 % 2 == 0
    | 0x0B07 => (List.range 16).all fun h => u (12 * h) 8 % 256 == 0 && u (12 * h + 8) 4 % 256 == 0
    | 0x0E01 => (List.range 4).all fun n =>
        let par := u (3 * n + 1) 2
        if u (3 * n) 1 = 0 then decide (2000 ≤ par ∧ par ≤ 6000) else decide (1000 ≤ par ∧ par ≤ 1100)
    | 0x0F84 =>
        let b := u 8 4
        (v.all fun x => x == 0) || (u 0 8 % 4096 == 0 && decide (16 * 2 ^ 20 ≤ b ∧ b ≤ 256 * 2 ^ 20))
    | _ => true

/-- Longest slot of a frame of `f` ticks, and U_min (02 R45–R49). -/
def slotLong (v : State) (f : Nat) : Nat := cdiv f (max 1 (slotCount v))
def slotUsable (v : State) (f : Nat) : Int := (f / max 1 (slotCount v) : Nat) - (keyU v 0x0402 0 2 : Int)

/-- An exposure window of the configuration. -/
def winField (v : State) (i off : Nat) : Nat := keyU v (0x0410 + i) off 4
def winOn (v : State) (i : Nat) : Bool := bit (winField v i 8) 8
def viewOk (v : State) (w : Nat) : Bool := w == 0xF || decide (w < keyU v 0x0409 0 1)
def winBad (v : State) (i : Nat) : Bool :=
  winOn v i && (decide (winField v i 4 ≤ winField v i 0) ||
    decide (frameLo (keyU v 0x0403 0 4) (keyU v 0x0404 0 2) < winField v i 4) || !viewOk v (winField v i 8 % 16) ||
    (List.range i).any fun j => winOn v j && decide (winField v i 0 < winField v j 4) && decide (winField v j 0 < winField v i 4))

/-- Ticks of the shift of a scan line (03 R97–R99). -/
def shiftTicks (v : State) : Nat := keyU v 0x0506 0 1 * 32 * (if keyU v 0x0507 0 1 = 0 then 6 else 1)

/-- Enabled stages that feed the colour and zone of a group (03 R106). -/
def feeders (v : State) (g : Nat) : Nat :=
  ((List.range 12).filter fun n => bit (keyU v 0x0501 n 1) 7 && keyU v 0x0501 n 1 % 16 == keyU v 0x0500 g 1 % 16).length
def groupUsed (v : State) (g : Nat) : Bool := keyU v 0x0500 g 1 % 4 != 3

/-- Basin words of the TILE's rectangle; 32 768 until a GEOMETRY has come (DESIGN CHOICE, log 34). -/
def tileWords (s : State) : Nat :=
  if s.link.tile.geomKnown then s.link.tile.rw * s.link.tile.rh else 32768

/-- A pixel that a used sink reads lies outside the rectangle (04 R137). -/
def pixelBad (v : State) : Bool :=
  (List.range 1536).any fun n => groupUsed v (n / 16) &&
    decide (tileWords v ≤ keyU v 0x0600 (2 * n) 2 + (keyU v 0x0400 0 1 - 1) * keyU v 0x0601 0 2)

/-- Rules of a TILE's keys (02 R49, R59; 03 R99, R104, R106, R113; 04 R137). -/
def tileRules (s v : State) : List KeyRule :=
  let nom := keyU v 0x0403 0 4
  let tol := keyU v 0x0404 0 2
  let codes := (List.range 3).map fun c => keyU v (0x0502 + c) 0 1
  let dead := keyU v 0x0402 0 2
  let blank := keyU v 0x0505 0 2
  [⟨decide (slotUsable v (frameLo nom tol) < 5000) || decide (1048575 < slotLong v (frameHi nom tol)),
      [0x0400, 0x0401, 0x0402, 0x0403, 0x0404], 0x0403, false⟩,
   ⟨!viewOk v (keyU v 0x040B 0 1), [], 0x040B, false⟩,
   ⟨codes.any (127 < ·) && decide (keyU v 0x0520 0 2 < 250), [0x0502, 0x0503, 0x0504, 0x0520], 0x0520, false⟩,
   ⟨decide (slotUsable v nom < shiftTicks v + 200), [0x0400, 0x0401, 0x0402, 0x0403, 0x0506, 0x0507], 0x0506, true⟩,
   ⟨decide (dead < blank + 80) || (keyU v 0x0515 0 1 == 1 && decide (dead < blank + 720)), [], 0x0402, true⟩,
   ⟨(List.range 96).any (fun g => groupUsed v g && feeders v g != 1), [0x0500, 0x0501], 0x0501, true⟩,
   ⟨pixelBad v, [0x0400, 0x0500, 0x0600, 0x0601], 0x0600, true⟩] ++
  ((List.range 16).map fun i => ⟨winBad v i, [], 0x0410 + i, false⟩) ++
  ((List.range 3).map fun c =>
    ⟨decide (127 < codes.getD c 0) && (tabGet none s.keys.staged (0x0502 + c)).isSome &&
      (List.range 12).any (fun n => keyU v 0x0501 n 1 % 4 == c && slotKind s n == 0 && decide ((loopSlot s n).over_.getD 300 < 250)), [], 0x0502 + c, false⟩)

/-- An external input that SENSOR_ENABLE disables is named (15 R571). -/
def inputOff (v : State) (n : Nat) : Bool := decide (n < 4) && !bit (keyU v 0x0E00 0 4) (24 + n)

/-- Ports of the bundle that port `p` belongs to by the configuration, as `bundlePorts`. -/
def bundleBad (v : State) (p : Nat) : Bool :=
  portMode v p == 3 && (bits (keyU v 0x0201 p 1) 5 2 == 3 ||
    (bundlePorts v (bundleFirst v p)).any fun q => portMode v q != 3 || bits (keyU v 0x0201 q 1) 5 2 != bits (keyU v 0x0201 p 1) 5 2)

/-- A SENDER's keys (05 R172; 06 R206, R224; 07 R277; 08 R281; 17 R620). -/
def senderRules (v : State) : List KeyRule :=
  let outs := (List.range 8).filter fun o => (outp v o).enable
  let grp := groupAll v
  let same := fun (a b : Output) => a.num == b.num && a.den == b.den && a.vb == b.vb && a.phase == b.phase && a.latency == b.latency
  let n10 := fun p => keyU v 0x0202 p 1 == 2
  [⟨(List.range 8).any fun p => (portMode v p == 2 && (returnOf v p == p || portMode v (returnOf v p) != 1)) || bundleBad v p,
      [], 0x0201, true⟩,
   ⟨outs.any (fun o => portMode v o != 1), [], 0x0201, true⟩,
   ⟨(List.range 2).any (fun q => ((List.range 4).map fun i => n10 (4 * q + i)).eraseDups.length != 1), [], 0x0202, true⟩,
   ⟨outs.any (fun o => !latencyOk (keyU v 0x0202 o 1) (outp v o)), [], 0x0202, true⟩,
   ⟨decide (v.sys.dramMib < keyU v 0x0704 0 4 + 256), [], 0x0704, true⟩,
   ⟨grp.any (fun o => !same (outp v o) (outp v (grp.headD 0))), [], 0x0911, true⟩,
   ⟨paired v && portMode v (keyU v 0x0F82 0 1) != 3, [], 0x0F82, true⟩,
   ⟨paired v && (List.range 8).any (fun p => bit (keyU v 0x0F83 0 1) p && portMode v p != 1), [], 0x0F83, true⟩]

/-- A BED's keys (11 R426; 10 R404). -/
def bedRules (v : State) : List KeyRule :=
  let on := fun n => bit (keyU v 0x0B10 n 1) 7
  [⟨(List.range 12).any (fun n => on n && keyU v 0x0B10 n 1 % 16 == 15 && peerLane v), [], 0x0B10, true⟩,
   ⟨(List.range 12).any (fun n => on n && decide (153600000 < keyU v 0x0B12 (4 * n) 4 * keyU v 0x0B11 (4 * n) 4)),
      [0x0B11, 0x0B12], 0x0B11, true⟩,
   ⟨decide (keyS v 0x0B32 0 2 < keyS v 0x0B31 0 2 + 16), [], 0x0B32, false⟩,
   ⟨(List.range 12).any (fun n => inputOff v (keyU v 0x0B30 n 1)), [0x0B30, 0x0E00], 0x0B30, false⟩]

/-- Relative ranges and source rules of a TILE (02 R86; 03 R131; 15 R571). -/
def tileRanges (v : State) : List KeyRule :=
  [⟨decide (keyU v 0x0408 0 4 < keyU v 0x0407 0 4), [], 0x0408, false⟩,
   ⟨decide (keyS v 0x0535 0 2 < keyS v 0x0534 0 2 + 16), [], 0x0535, false⟩,
   ⟨(List.range 3).any (fun c => inputOff v (keyU v 0x0533 c 1)), [0x0533, 0x0E00], 0x0533, false⟩,
   ⟨(List.range 4).any (fun n => bit (keyU v 0x0537 0 1) n && inputOff v n), [0x0537, 0x0E00], 0x0537, false⟩]

/-- Rules of every role: SEVERITY_MAP (14 R535) and the least number of sensors (15 R571). -/
def commonRules (v : State) : List KeyRule :=
  let sev := fun n => keyU v 0x0D00 n 1
  let en := keyU v 0x0E00 0 4
  [⟨(List.range 64).any (fun n => if severityFixed n then sev n != severityDefault n
      else if n < 46 then decide (2 < sev n) else sev n != 0), [], 0x0D00, false⟩,
   ⟨decide (bitCount 16 en < 8) || decide (bitCount 8 (en / 65536) < 4), [], 0x0E00, false⟩]

def keyRules (s v : State) : List KeyRule :=
  commonRules v ++ match s.sys.role with
    | .tile => tileRanges v ++ tileRules s v
    | .sender => senderRules v
    | .bed => bedRules v
    | .factory => []

/-- The staged values that lie outside their own range. -/
def rangeFaults (s : State) (ids : List Nat) : List Nat :=
  ids.filter fun id => match keyDef s.sys.role id with
    | some k => !rangeOk k (keyStaged s id) || !specialOk id (keyStaged s id)
    | none => false

/-- The key a failing rule is charged to: the lowest staged one of those it reads, else its own (DESIGN CHOICE, log 34). -/
def chargedTo (ids : List Nat) (r : KeyRule) : Nat := ((r.keys.filter ids.contains).head?).getD r.home

/-- The lowest key ID at fault in the configuration that would result. -/
def keyFault (s : State) (sealing : Bool) : Option Nat :=
  let ids := stagedIds s
  let bad := (keyRules s (resulting s)).filter fun r => (sealing || !r.sealOnly) && r.bad
  let l := rangeFaults s ids ++ bad.map (chargedTo ids)
  match l with
  | [] => none
  | a :: r => some (r.foldl min a)

/-! ### Applying a value (R518) -/

/-- The key's changes that other units follow at once: the carries (02 R70), device IDs (07 R256; 17 R621), lane 15 of a BED (01 R42), and the
pair that forms or ends (17 R619, R624). -/
def keyChanged (old : State) (id : Nat) (s : State) : State :=
  if keyEff old id = keyEff s id then s else
  match id with
  | 0x0200 => if s.sys.role = .sender then { s with sys.deviceId := keyU s 0x0200 0 1 * 2048 } else s
  | 0x0F80 =>
    let s1 := if s.sys.role = .bed then
        powerLane { idleLane s 15 with sys.deviceId := if paired s then 1 + keyU s 0x0F81 0 1 else 0 } 15
      else s
    let s2 := if paired s1 then pairStandbyTime s1 else pairActiveTime s1
    { s2 with
      pair.active := false, pair.enteredAt := s.time.loc, pair.beating := paired s1 && s.sys.st == .standby, pair.feed := [], pair.hand := none
      pair.heardAt := none, pair.activeAt := none, pair.hb := BeatPath.cold, pair.lk := BeatPath.cold, pair.synced := false }
  | 0x0F81 => if s.sys.role = .bed ∧ paired s then { s with sys.deviceId := 1 + keyU s 0x0F81 0 1 } else s
  | _ => if id = 0x0400 ∨ id = 0x0401 ∨ id = 0x0409 then { s with tl.carry := [] } else s

/-- A committed value takes effect as its class requires: at once in an open STANDBY and for "live" keys; "frame" and
"latch" keys wait for their instants, "arm" keys for BUILD_ARM (R83, R202, R314, R404). A sealed key changes only in an open
STANDBY (02 R86): elsewhere its staged value stays staged (DESIGN CHOICE, log 60). -/
def applyKey (id : Nat) (v : List Byte) (s : State) : State :=
  let role := s.sys.role
  let s1 := { s with keys.committed := keyPut role s.keys.committed id v, keys.staged := tabSet none s.keys.staged id none }
  let drop := fun (l : List PendKey) => l.filter fun p => slotId p.slot != id
  let cls := (keyDef role id).map KeyDef.cls
  let outs := (List.range 8).map fun o => id + 65536 * (o + 1)
  let now := keyChanged s id { s1 with
    keys.eff := (if cls = some .latch then id :: outs else [id]).foldl (fun t k => keyPut role t k v) s1.keys.eff
    keys.pendFrame := drop s1.keys.pendFrame, keys.pendLatch := drop s1.keys.pendLatch }
  if s.sys.st = .standby ∧ s.sys.sealed = false then now
  else match cls with
    | some .frame => { s1 with keys.pendFrame := s1.keys.pendFrame ++ [⟨id, v, s.time.loc⟩] }
    | some .latch => { s1 with keys.pendLatch := s1.keys.pendLatch ++ (id :: outs).map fun k => ⟨k, v, s.time.loc⟩ }
    | some .arm => s1
    | some .sealed => s
    | _ => now

/-- Every staged value is applied. -/
def applyStaged (s : State) : State :=
  (stagedIds s).foldl (fun t id => applyKey id (keyStaged s id) t) s

/-- CONFIG_GEN increases by 1 (R513). -/
def bumpGen (s : State) : State := { s with sys.configGen := (s.sys.configGen + 1) % 2 ^ 32 }

/-- The staged values are applied, and CONFIG_GEN rises when one was: a sealed key that has to stay staged applies nothing
(R518, log 60). -/
def commitStaged (s : State) : State :=
  let t := applyStaged s
  if (stagedIds t).length < (stagedIds s).length then bumpGen t else t

/-- CFG_COMMIT and its DISCARD form, by bit 0 (R518). -/
def cfgCommit : Body := fun c s =>
  if bit (pw c 0) 0 then ({ s with keys.staged := [] }, rOk)
  else if (stagedIds s).isEmpty then (s, rOk)
  else match keyFault s false with
    | some id => (s, rBad .badParam id)
    | none => (commitStaged s, rOk)

def bodyCfgCommit : Body := fun c s => cfgCommit c s
def bodyCfgCommitDiscard : Body := fun c s => cfgCommit c s
def opCfgCommit : OpSpec := opTSB 0x12 [] true (some 1)
def execCfgCommit (c : Cmd) (s : State) : Host.Outcome State Fault Refusal := live s (runCmd opCfgCommit noBuild bodyCfgCommit c)
def execCfgCommitDiscard (c : Cmd) (s : State) : Host.Outcome State Fault Refusal :=
  live s (runCmd opCfgCommit noBuild bodyCfgCommitDiscard c)

/-! ### DRIVE_SET and BRIGHTNESS_SET (R523; 03 R92, R113, R118) -/

/-- Commit the command's own keys with the values it carries; staged values of other keys take no part and stay. -/
def commitOwn (l : List (Nat × List Byte)) (s : State) : State × Reply :=
  let alone := { s with keys.staged := l.foldl (fun t p => tabSet none t p.1 (some p.2)) [] }
  match keyFault alone false with
  | some _ => (s, rBad .badParam 0)
  | none => (bumpGen (l.foldl (fun t p => applyKey p.1 p.2 t) s), rOk)

def bodyDriveSet : Body := fun c s => commitOwn ((List.range 3).map fun k => (0x0502 + k, leBytes 1 (bits (pw c 0) (8 * k) 8))) s
def opDriveSet : OpSpec := opT 0x44 stRdRnHoSa true (some 1)
def execDriveSet (c : Cmd) (s : State) : Host.Outcome State Fault Refusal := live s (runCmd opDriveSet noBuild bodyDriveSet c)

def bodyBrightnessSet : Body := fun c s => commitOwn [(0x0539, leBytes 2 (pw c 0 % 65536))] s
def opBrightnessSet : OpSpec := opT 0x45 stRdRnHoSa true (some 1)
def execBrightnessSet (c : Cmd) (s : State) : Host.Outcome State Fault Refusal := live s (runCmd opBrightnessSet noBuild bodyBrightnessSet c)

/-! ### SEAL_CONFIG (R519) -/

/-- A cascade port whose keys have changed since the last seal: its lane restarts when mode or rate have; a port in
cascade mode is enumerated with FULL = 1. -/
def portResealed (old : List Nat) (s : State) (p : Nat) : State :=
  let new := linkKeys s
  let at_ := fun (l : List Nat) (k : Nat) => l.getD k 0
  let link := at_ old (1 + p) != at_ new (1 + p) || at_ old (9 + p) != at_ new (9 + p)
  let s1 := if link then idleLane s (8 + p) else s
  if portMode s p = 1 then (if link || at_ old 0 != at_ new 0 then startEnum true none s1 p else s1)
  else powerLane s1 (8 + p)

/-- A source port whose mode has changed comes up anew (08 R301, R305). -/
def sourceResealed (s : State) (p : Nat) : State :=
  if (srcPort s p).mode = keyU s 0x0100 p 1 then s else sourceStart p (sourceMode s p)

/-- The links of a SENDER at SEAL_CONFIG: source ports, enumerations, then GEOMETRY to every enumerated TILE (07 R259). -/
def sealLinks (s : State) : State :=
  if s.sys.role ≠ .sender then s else
  let s1 := (List.range 4).foldl sourceResealed s
  let s2 := (List.range 8).foldl (portResealed s.link.sealKeys) s1
  (List.range 8).foldl (fun t n => if portMode t n = 1 then sendGeometries t n else t) { s2 with link.sealKeys := linkKeys s2 }

/-- The wall maps of all outputs against their canvases (05 R195). -/
def mapsOk (s : State) : Bool :=
  (List.range 8).all fun o => (outp s o).map.all fun p => mapRectOk (outp s o) p.2

/-- The first check of a seal that fails: keys, the map (no key: DETAIL 0, log 34), budgets. -/
def sealFault (s : State) : Option Reply :=
  match keyFault s true with
  | some id => some (rBad .badParam id)
  | none =>
    let v := resulting s
    if s.sys.role ≠ .sender then none
    else if mapsOk v = false then some (rBad .badParam 0)
    else (overBudget v (planNow v)).map fun b => rBad .overBudget b

def bodySealConfig : Body := fun _ s =>
  if s.sys.sealed then (s, rOk)
  else if s.sys.role = .sender ∧ s.sys.dramTrained = false then (s, rBad .busy 0)
  else match sealFault s with
    | some r => (s, r)
    | none =>
      let s1 := bumpGen (applyStaged s)
      let s2 := raise { s1 with sys.sealed := true } 0x0003 (args [(4, s1.sys.configGen)])
      (pairFlags (sealLinks s2), rOk)

def opSealConfig : OpSpec := opTSB 0x04 [.standby] true (some 0)
def execSealConfig (c : Cmd) (s : State) : Host.Outcome State Fault Refusal := live s (runCmd opSealConfig noBuild bodySealConfig c)

end Sys2Proof.Machine
end

