-- ==== Sys2Proof/Machine/InfoCmds.lean ====
section
/-! DEFINITION. GET_INFO, GET_STATE, GET_COUNTERS, EVENT_READ, LINK_STATUS, RESET_WARM and undefined opcodes
(13_mailbox R507, R510, R513–R515, R521; 00_scope R15). -/

namespace Sys2Proof.Machine

/-! ### GET_INFO, GET_STATE (R513, R514) -/

def bodyGetInfo : Body := fun _ s =>
  let h := runHdr s
  let slot := s.img.running.getD 0
  (s, rWords [w32 (regDevId s), w32 regDevStep, w32 (roleCode s.sys.role), w32 Config.uniqueId.toNat, w32 (Config.uniqueId.toNat / 2 ^ 32),
    w32 (h.major % 256 * 2 ^ 24 + h.minor % 256 * 65536 + h.patch % 65536), w32 h.build,
    w32 (flag s.sys.sealed 4 + flag (!s.nv.shutRec.isEmpty) 3 + flag s.img.fallback 2 + slot), w32 s.sys.configGen,
    w32 (if s.sys.role = .tile then 0 else s.sys.dramMib), w32 macBase, w32 (macBase / 2 ^ 32 % 65536)])

def opGetInfo : OpSpec := opTSB 0x01 [] false (some 0)
def execGetInfo (c : Cmd) (s : State) : Host.Outcome State Fault Refusal := live s (runCmd opGetInfo noBuild bodyGetInfo c)

/-- The state code of an axis; 5 while it is fenced (10 R398). -/
def axisCode (s : State) (a : Nat) : Nat := if fenced s 10 a then 5 else (axis s a).st

def bodyGetState : Body := fun _ s =>
  let bed := s.sys.role == .bed
  let w0 := flag s.sys.holdDark 10 + flag s.time.locked 9 + flag s.sys.emitEnB 8 + flag s.sys.emitEnA 7 + flag s.sys.sealed 6 +
    flag (degraded s) 5 + stateCode s.sys.st
  let heads := ((List.range 16).map fun h => headState s h * 4 ^ h).sum
  let axes := ((List.range 8).map fun a => axisCode s a * 8 ^ a).sum
  (s, rWords [w32 w0, w32 (if bed then s.bed.build.st else 0), w32 (if bed then s.bed.build.layerId else 0),
    w32 (if bed then heads else 0), w32 (if bed then axes else 0), w32 s.spill.fences.length])

def opGetState : OpSpec := opTSB 0x02 [] false (some 0)
def execGetState (c : Cmd) (s : State) : Host.Outcome State Fault Refusal := live s (runCmd opGetState noBuild bodyGetState c)

/-! ### GET_COUNTERS (R515) -/

/-- Instances of row `ix` of a group's table in a role: 0 where the role or the table has none (07 R279; 08 R316; 10 R406;
11 R441; 14 R566; 15 R598). -/
def ctrInstance (s : State) (group inst ix : Nat) : Bool :=
  let once := inst == 0
  let role := s.sys.role
  match group with
  | 0x00 => once && decide (ix < 10)
  | 0x01 => (decide (ix < 6) && unitExists role 1 inst) || (decide (6 ≤ ix ∧ ix < 9) && unitExists role 3 inst)
  | 0x02 => decide (ix < 9) && portExists s inst
  | 0x03 => (decide (ix < 5) && unitExists role 1 inst) || (decide (5 ≤ ix ∧ ix < 7) && unitExists role 3 inst) || (once && decide (7 ≤ ix ∧ ix < 9))
  | 0x04 => role == .tile && once && decide (ix < 7)
  | 0x05 => role == .tile && once && decide (ix < 8)
  | 0x06 => role == .tile && once && decide (ix < 5)
  | 0x07 => role == .sender && ((decide (ix < 5) && decide (inst < 8)) || (ix == 5 && decide (inst < 64)) || (ix == 6 && once))
  | 0x09 => role == .sender && decide (ix < 7) && decide (inst < 8)
  | 0x0A => role == .bed && ((decide (ix < 7) && decide (inst < 16)) || (ix == 7 && decide (inst < 8)) || (ix == 8 && decide (inst < 16)))
  | 0x0B => role == .bed && ((decide (ix < 8) && decide (inst < 16)) || (ix == 8 && decide (inst < 12)) || (ix == 9 && once))
  | 0x0C => decide (ix < 7) && slotExists s inst
  | 0x0D => (decide (ix < 2) && decide (inst < 46)) || (once && decide (2 ≤ ix ∧ ix < 10))
  | 0x0E => (ix == 2 && unitExists role 11 inst) || (once && decide (ix < 7))
  | 0x0F => (decide (inst < 4) && decide (ix < 5)) || (inst == 4 && decide (ix < 6) && (role == .sender || role == .bed))
  | 0x10 => once && decide (ix < 7)
  | _ => false

/-- The words of a counter: present counts are taken from the state (03 R133; 04 R165), CAM_BYTES takes two (11 R441). The
model drops no camera byte (log 31), so CAM_DROPPED reads what nothing counts. -/
def ctrWords (s : State) (group inst ix : Nat) : List Word :=
  match group, ix with
  | 0x05, 6 => [w32 (countHealth s 2)]
  | 0x05, 7 => [w32 (countHealth s 3)]
  | 0x06, 4 => [w32 (s.fret.limitRaised.filter fun p => p.2 == 1).length]
  | 0x0B, 6 => [w32 (counter s 0x0B inst 6), w32 (counter s 0x0B inst 7)]
  | 0x0B, 7 => [w32 (counter s 0x0B inst 10)]
  | _, _ => [w32 (counter s group inst ix)]

/-- Clear a counter; CAM_BYTES has two words. -/
def ctrClear (group inst : Nat) (s : State) (ix : Nat) : State :=
  let ks := match group, ix with
    | 0x0B, 6 => [6, 7]
    | 0x0B, 7 => [10]
    | _, _ => [ix]
  { s with ctr := ks.foldl (fun t k => tabErase t (ctrKey group inst k)) s.ctr }

def bodyGetCounters : Body := fun c s =>
  let w := pw c 0
  let g := bits w 24 8
  let n := bits w 16 8
  let l := (List.range (bits w 1 7)).map (bits w 8 8 + ·)
  if l.isEmpty ∨ 60 < l.length ∨ (l.all fun ix => ctrInstance s g n ix) = false then (s, rBad .badParam 0)
  else (if bit w 0 then l.foldl (ctrClear g n) s else s, rWords (w32 w :: l.flatMap (ctrWords s g n)))

def opGetCounters : OpSpec := opTSB 0x07 [] false (some 1)
def execGetCounters (c : Cmd) (s : State) : Host.Outcome State Fault Refusal := live s (runCmd opGetCounters noBuild bodyGetCounters c)

/-! ### EVENT_READ (R510) -/

/-- Whole events from the front whose records fit in `n`. -/
def takeWhole : Nat → List EvRec → List EvRec × List EvRec
  | n, r :: rest =>
    if r.length ≤ n then
      let p := takeWhole (n - r.length) rest
      (r :: p.1, p.2)
    else ([], r :: rest)
  | _, [] => ([], [])

def bodyEventRead : Body := fun c s =>
  let max_ := pw c 0 % 16
  if max_ = 0 then (s, rBad .badParam 0) else
  let p := if eqEnabled s then ([], s.evs.pull) else takeWhole max_ s.evs.pull
  let n := (p.1.map List.length).sum
  let s1 := { s with evs.pull := p.2, evs.pullDropped := 0 }
  (s1, rWords (w32 (n + pullCount s1 % 65536 * 256 + s.evs.pullDropped % 256 * 2 ^ 24) :: p.1.flatten.flatten))

def opEventRead : OpSpec := opTSB 0x08 [] false (some 1)
def execEventRead (c : Cmd) (s : State) : Host.Outcome State Fault Refusal := live s (runCmd opEventRead noBuild bodyEventRead c)

/-! ### LINK_STATUS (R521) -/

/-- A port's STATE from its lane's: lane states 3, 4 and 8 are aligning; a port whose lane is locked is locked with its
own lock (07 R233). -/
def linkState (s : State) (p : Nat) : Nat :=
  let l := portLane s p
  if fenced s 2 p ∨ fenced s 1 l then 5
  else if portLocked s p then 4
  else match (lane s l).st with
    | 0 => 0
    | 1 => 1
    | 2 => 2
    | _ => 3

def bodyLinkStatus : Body := fun c s =>
  let p := pw c 0 % 16
  if portExists s p = false ∨ (p = 15 ∧ peerLane s = false) then (s, rBad .badParam 0) else
  let w := wport s p
  let tile := s.sys.role == .tile
  let mode := if tile then 1 else if s.sys.role = .bed then 3 else portMode s p
  let d := delayOf s p
  let feeds := tile && feeding s p
  (s, rWords [w32 (pw c 0 % 16),
    w32 (linkState s p * 2 ^ 28 + w.rate % 4 * 2 ^ 26 + mode * 2 ^ 24 + flag feeds 23 + flag (tile && s.link.tile.activeUp == p) 22 +
      (if s.sys.role = .sender then tileCount s p % 256 else 0)),
    w32 (if d.known then uns 32 d.d else 0xFFFFFFFF),
    w32 (match w.lockedAt with
      | some t => min 0xFFFFFFFF ((s.time.loc - t) / secTicks)
      | none => 0)])

def opLinkStatus : OpSpec := opTSB 0x22 [] false (some 1)
def execLinkStatus (c : Cmd) (s : State) : Host.Outcome State Fault Refusal := live s (runCmd opLinkStatus noBuild bodyLinkStatus c)

/-! ### RESET_WARM (R507) -/

/-- The response leaves, and 1 ms later the warm reset comes. -/
def bodyResetWarm : Body := fun _ s => ({ s with sys.warmAt := some (s.time.loc + msTicks) }, rOk)
def opResetWarm : OpSpec := opTSB 0x06 [] true (some 0)
def execResetWarm (c : Cmd) (s : State) : Host.Outcome State Fault Refusal := live s (runCmd opResetWarm noBuild bodyResetWarm c)

/-! ### Undefined opcodes (00_scope R15) -/

/-- The opcodes of R512. -/
def opcodes : List Nat :=
  (List.range 9).map (1 + ·) ++ [0x10, 0x11, 0x12] ++ (List.range 5).map (0x20 + ·) ++ (List.range 9).map (0x30 + ·) ++
  (List.range 7).map (0x40 + ·) ++ (List.range 11).map (0x50 + ·) ++ (List.range 6).map (0x60 + ·) ++ (List.range 4).map (0x70 + ·) ++
  (List.range 7).map (0x80 + ·) ++ (List.range 4).map (0x90 + ·) ++ [0xA0, 0xA1] ++ (List.range 7).map (0xB0 + ·) ++ (List.range 4).map (0xC0 + ·)

/-- BAD_OPCODE comes after NOT_READY and before every other check (R498). -/
def undefinedOpcode (op : Nat) (c : Cmd) (s : State) : State :=
  if opcodes.contains (op % 256) then s
  else if s.sys.notReady then hwNotReady s c
  else answer s (op % 256) c (rBad .badOpcode 0) false

def execUndefinedOpcode (op : Nat) (c : Cmd) (s : State) : Host.Outcome State Fault Refusal := live s (undefinedOpcode op c)

end Sys2Proof.Machine
end

