-- ==== Sys2Proof/Machine/Ingest.lean ====
section
/-! DEFINITION. Stream bindings, stream rings and the ingest of ST 2110-20 packets (05_composition R167–R178). -/

namespace Sys2Proof.Machine

/-! ### STREAM_BIND (R169–R172) -/

/-- The binding of a payload (R169). -/
def bindOf (c : Cmd) : Binding :=
  { vid := bits (pw c 0) 16 12, port := bits (pw c 0) 6 2, dst := pw c 1, src := pw c 2, udp := pw c 3 % 65536
    width := pw c 4 % 65536, height := pw c 4 / 65536, rateNum := pw c 5, rateDen := pw c 6 % 65536
    pt := bits (pw c 7) 24 7, sampling := bits (pw c 7) 20 4, depth := bits (pw c 7) 16 4
    colorimetry := bits (pw c 7) 12 4, tcs := bits (pw c 7) 8 4, full := bits (pw c 7) 4 4, type := bits (pw c 7) 0 4 }

/-- The payload word of a binding's first field outside R167, R169 and R170. -/
def bindBad (b : Binding) : Option Nat :=
  if b.width = 0 ∨ 7680 < b.width ∨ b.height = 0 ∨ 4320 < b.height then some 4
  else if b.rateDen = 0 then some 6
  else if 1001 * b.rateNum < 24000 * b.rateDen ∨ 240 * b.rateDen < b.rateNum then some 5
  else if 1990656000 * b.rateDen < b.width * b.height * b.rateNum then some 4
  else if b.pt < 96 ∨ 2 < b.sampling ∨ ([8, 10, 12].contains b.depth) = false ∨ 2 < b.colorimetry ∨ 2 < b.tcs ∨
      1 < b.full ∨ 2 < b.type then some 7
  else if b.width % pgPixels b.sampling b.depth ≠ 0 then some 4
  else none

/-- Bytes of a stream's ring (R172). -/
def ringLen (b : Binding) : Nat := 3 * ringBuf b

/-- Bytes of the stream area that the DRAM gives. -/
def areaLen (s : State) : Nat := min (dramTop s) (keyU s 0x0704 0 4 * 2 ^ 20)

/-- The rings of bound streams: base and length. -/
def ringsOf (s : State) : List (Nat × Nat) :=
  s.send.streams.filterMap fun p => p.2.map fun x => (x.base, ringLen x.bind)

/-- Rings lie in the area from its top down: the highest place of `n` bytes that meets no ring. -/
def ringPlace (s : State) (n : Nat) : Option Nat :=
  let tops := dramTop s :: (ringsOf s).map Prod.fst
  let fits := fun (t : Nat) => decide (dramTop s - areaLen s + n ≤ t) &&
    (ringsOf s).all fun r => decide (r.1 + r.2 ≤ t - n ∨ t ≤ r.1)
  match tops.filter fits with
  | [] => none
  | t :: r => some (r.foldl max t - n)

/-- Pack the rings against the top of the area, each with its bytes. -/
def packRings (s : State) : State :=
  let byBase := ((s.send.streams.filterMap fun p => p.2.map fun x => (x.base, p.1)).foldl (fun t e => tabInsert e.1 e.2 t) ([] : Tab Nat)).reverse
  (byBase.foldl (fun (q : State × Nat) e =>
    match stream q.1 e.2 with
    | some x =>
      let n := ringLen x.bind
      let dst := q.2 - n
      (setStream (wrBytes q.1 dst (rdBytes q.1 x.base n)) e.2 (some { x with base := dst }), dst)
    | none => q) (s, dramTop s)).1

/-- A stream as it is bound: lost until it completes a buffer (R178); no timestamp has been seen. -/
def freshStream (b : Binding) (base now : Nat) : Stream :=
  { bind := b, base := base, filling := none, newest := none, frames := 0, newestTaken := false, order := [0, 1, 2], ts := 2 ^ 32
    dropTs := none, marker := false, markerAt := 0, fill := [], badPkt := false, badRun := 0, mismatch := false, seenWidth := 0
    seenLines := 0, lost := true, lastDone := now, lastTs := 0 }

/-- A membership report (kind 1) or leave report (kind 3) for a multicast group (R171). -/
def igmp (s : State) (kind : Nat) (b : Binding) : State :=
  if b.dst / 2 ^ 28 = 14 then emit s (.eth b.port kind b.dst b.src) else s

/-- The binding of a stream ends. -/
def unbindStream (s : State) (k : Nat) : State :=
  match stream s k with
  | some x => igmp (setStream s k none) 3 x.bind
  | none => s

/-- Bind a stream in a configuration that holds no ring for it. -/
def bindStream (s : State) (k : Nat) (b : Binding) : State :=
  let s1 := if (ringPlace s (ringLen b)).isSome then s else packRings s
  let base := (ringPlace s1 (ringLen b)).getD 0
  igmp (setStream s1 k (some (freshStream b base s.time.loc))) 1 b

/-- STREAM_BIND. -/
def bodyStreamBind : Body := fun c s =>
  let k := bits (pw c 0) 0 3
  let unbind := bit (pw c 0) 8
  let b := bindOf c
  match if unbind then none else bindBad b with
  | some i => (s, rBad .badParam i)
  | none =>
    if s.send.layers.any fun p => namesStream p.2.pend k || namesStream p.2.active k then (s, rBad .pinned k)
    else if unbind then (unbindStream s k, rOk)
    else
      let s1 := unbindStream s k
      let now := planNow s1
      match overBudget s { now with binds := b :: now.binds } with
      | some d => (s, rBad .overBudget d)
      | none =>
        if areaLen s < ((ringsOf s1).map Prod.snd).sum + ringLen b then (s, rBad .overBudget 5)
        else (bindStream s1 k b, rOk)

def opStreamBind : OpSpec := opS 0x38 stRdRnHo false (some 8)
def execStreamBind (c : Cmd) (s : State) : Host.Outcome State Fault Refusal := live s (runCmd opStreamBind noBuild bodyStreamBind c)

/-! ### Packets (R168, R173–R177) -/

/-- The stream that a packet matches by its addresses. Where two bindings fit, the lowest stream ID takes the packet, and its
payload type is tested against that binding alone (DESIGN CHOICE, log 59). -/
def matchStream (s : State) (port vid dst src udp : Nat) : Option Nat :=
  (List.range 8).find? fun k => match stream s k with
    | some x => x.bind.port == port && x.bind.vid == vid && x.bind.dst == dst && x.bind.udp == udp && (x.bind.src == 0 || x.bind.src == src)
    | none => false

/-- A ring buffer is HELD: an output frame still in progress took it (R173, R199). -/
def ringHeld (s : State) (k buf : Nat) : Bool :=
  s.send.outs.any fun p => p.2.prog.any fun f => f.streams.contains (k, buf)

/-- The IDLE buffer completed longest ago (R174). -/
def idleBuf (s : State) (k : Nat) (x : Stream) : Option Nat :=
  x.order.find? fun b => x.filling != some b && x.newest != some b && !ringHeld s k b

/-- Abandon the FILLING buffer (R174 step 1, R177). -/
def abandonFill (k : Nat) (s : State) : State :=
  match stream s k with
  | none => s
  | some x =>
    if x.filling.isNone then s else
    let run := if x.badPkt then x.badRun + 1 else 0
    let hit := decide (8 ≤ run) && !x.mismatch
    let s1 := bump (setStream s k (some { x with filling := none, badRun := run, mismatch := x.mismatch || hit })) 7 k 2
    if hit then raise s1 0x0703 (args [(4, k), (4, x.seenWidth), (4, x.seenLines)]) else s1

/-- The first packet of a new RTP timestamp (R174). A frame dropped whole is not abandoned, so the abandoned frames around
it are not consecutive (R177). -/
def newFrame (k ts : Nat) (s : State) : State :=
  let s1 := abandonFill k s
  match stream s1 k with
  | none => s1
  | some x =>
    let y := { x with ts := ts, dropTs := none, marker := false, fill := [], badPkt := false, seenWidth := 0, seenLines := 0 }
    match idleBuf s1 k x with
    | some b => setStream s1 k (some { y with filling := some b })
    | none => bump (setStream s1 k (some { y with filling := none, dropTs := some ts, badRun := 0 })) 7 k 3

/-- A sample row of a packet: its line, the pixel it starts at and its bytes. -/
abbrev SampleRow := Nat × Nat × List Byte

/-- Pixels of a sample row. -/
def rowPixels (b : Binding) (r : SampleRow) : Nat := r.2.2.length / pgBytes b.sampling b.depth * pgPixels b.sampling b.depth

/-- A sample row agrees with its binding (R177). -/
def rowOk (b : Binding) (r : SampleRow) : Bool :=
  decide (r.1 < b.height) && decide (r.2.1 % pgPixels b.sampling b.depth = 0) &&
    decide (r.2.2.length % pgBytes b.sampling b.depth = 0) && decide (r.2.1 + rowPixels b r ≤ b.width)

/-- Write a sample row into the FILLING buffer. -/
def putRow (k buf : Nat) (s : State) (r : SampleRow) : State :=
  match stream s k with
  | none => s
  | some x =>
    let pg := r.2.1 / pgPixels x.bind.sampling x.bind.depth
    let n := r.2.2.length / pgBytes x.bind.sampling x.bind.depth
    let old := tabGet 0 x.fill r.1
    let s1 := wrBytes s (x.base + buf * ringBuf x.bind + r.1 * streamPitch x.bind + pg * pgBytes x.bind.sampling x.bind.depth) r.2.2
    setStream s1 k (some { x with fill := tabSet 0 x.fill r.1 (Nat.lor old ((2 ^ n - 1) * 2 ^ pg)) })

/-- The rows of a packet, in the order of arrival. -/
def putRows (k : Nat) (rows : List SampleRow) (s : State) : State :=
  match stream s k with
  | none => s
  | some x =>
    match x.filling with
    | none => s
    | some buf => rows.foldl (putRow k buf) s

/-- Every line has been written in full. -/
def linesFull (x : Stream) : Bool :=
  (List.range x.bind.height).all fun j => tabGet 0 x.fill j == 2 ^ (x.bind.width / pgPixels x.bind.sampling x.bind.depth) - 1

/-- Record the frame as capture inputs: its marker's PORT time and CRC, and the region of pixels asked for
(R176; 14_spillway R553, R555). -/
def recordFrame (s : State) (k : Nat) (x : Stream) (buf : Nat) : State :=
  let at_ := x.base + buf * ringBuf x.bind
  let s1 := capRec s 0x04 k 0 (leBytes 4 0 ++ leBytes 4 k ++ leBytes 4 (crc32 (rdBytes s at_ (ringBuf x.bind))) ++ leBytes 8 x.markerAt)
  let g := fun i => s.cap.region.getD i 0
  if s.cap.pixels = false ∨ g 4 ≠ k then s1 else
  let px := pgPixels x.bind.sampling x.bind.depth
  let by_ := pgBytes x.bind.sampling x.bind.depth
  let first := g 0 / px
  let n := cdiv (g 0 + g 2) px - first
  capRec s1 0x05 k 0 ((List.range (g 3)).flatMap fun j => rdBytes s (at_ + (g 1 + j) * streamPitch x.bind + first * by_) (n * by_))

/-- A complete buffer becomes NEWEST (R175, R178). -/
def completeFrame (k : Nat) (s : State) : State :=
  match stream s k with
  | none => s
  | some x =>
    match x.filling with
    | none => s
    | some buf =>
      if x.marker = false ∨ linesFull x = false then s else
      let s1 := recordFrame s k x buf
      let dropped := x.newest.isSome && !x.newestTaken && s.send.layers.any fun p => namesStream p.2.active k
      let s2 := setStream s1 k (some { x with
        filling := none, newest := some buf, frames := x.frames + 1, newestTaken := false, order := x.order.erase buf ++ [buf]
        badRun := 0, mismatch := false, lost := false, lastDone := s.time.loc, lastTs := x.ts })
      let s3 := if dropped then bump s2 7 k 4 else s2
      if x.lost then raise s3 0x0701 (args [(4, k)]) else s3

/-- The data of a packet of the present frame (R177). A packet that disagrees with its binding is counted whatever has become
of its frame; one that agrees is written where the frame is being filled. -/
def packetData (k port : Nat) (marker : Bool) (rows : List SampleRow) (s : State) : State :=
  match stream s k with
  | none => s
  | some x =>
    let y := { x with
      seenWidth := (rows.map fun r => r.2.1 + rowPixels x.bind r).foldl max x.seenWidth
      seenLines := (rows.map fun r => r.1 + 1).foldl max x.seenLines }
    if 3 < rows.length ∨ (rows.all (rowOk x.bind)) = false then bump (setStream s k (some { y with badPkt := true })) 7 k 1
    else if x.filling.isNone then s
    else
      let at_ := uns 64 (fdiv (portAt (ptp s port) (loc256 s)) 256)
      let z := if marker then { y with marker := true, markerAt := at_ } else y
      completeFrame k (putRows k rows (setStream s k (some z)))

/-- STREAM_PACKET (R168, R174–R177). A packet that matches no stream counts under instance 0 of ESSENCE_DROPPED, which R204
gives no instance of its own (DESIGN CHOICE, log 59). -/
def streamPacket (port vid dst src udp pt ts : Nat) (marker : Bool) (rows : List SampleRow) (s : State) : State :=
  if portOn s port = false ∨ (srcPort s port).up = false ∨ 4 ≤ port then s else
  match matchStream s port vid dst src udp with
  | none => bump s 7 0 0
  | some k =>
    match stream s k with
    | none => s
    | some x =>
      if pt ≠ x.bind.pt then bump s 7 k 0 else
      packetData k port marker rows (if ts = x.ts then s else newFrame k ts s)

def execStreamPacket (port vid dst src udp pt ts : Nat) (marker : Bool) (rows : List (Nat × Nat × List Byte)) (s : State) :
    Host.Outcome State Fault Refusal :=
  live s (streamPacket port vid dst src udp pt ts marker rows)

/-- STREAM_TIMEOUT (R178). -/
def streamTimeout (k : Nat) (s : State) : State :=
  match stream s k with
  | none => s
  | some x =>
    if x.lost ∨ s.time.loc < x.lastDone + keyU s 0x0703 0 2 * msTicks then s
    else raise (setStream s k (some { x with lost := true })) 0x0702 (args [(4, k), (4, x.lastTs)])

def execStreamTimeout (k : Nat) (s : State) : Host.Outcome State Fault Refusal := live s (streamTimeout k)

end Sys2Proof.Machine
end

