-- ==== Sys2Proof/Machine/PairRole.lean ====
section
/-! DEFINITION. A unit of a pair becomes active or standby (17_redundancy R621–R623, R632–R639, R642, R644). -/

namespace Sys2Proof.Machine

/-- Milliseconds since the newest snapshot sent or held, saturating (R645, R647). With none the spec gives no age: free. -/
def snapAge (s : State) : Nat :=
  if s.pair.snapValid then min 0xFFFFFFFF ((s.time.loc - s.pair.snapAt) / msTicks) else Config.free s.sys.free 0x0F81 % 2 ^ 32

/-- The takeover notice on every paired port (R632). -/
def sendNotice (s : State) : State :=
  (List.range 8).foldl (fun t p =>
    if pairPort t p && portLocked t p then heartWith t p 48 false else t) s

/-- PAIR_CONTENT_MISMATCH: 0 still buffer, 1 jet list. -/
def contentMismatch (kind id : Nat) (s : State) : State := raise s 0x0F84 (args [(1, kind), (4, id)])

/-- A mirrored CRC, plus 1, that the unit's own content does not give. -/
def mismatched (want have_ : Nat) : Bool := want != 0 && want != have_ + 1

/-- Layers whose still buffer does not match are omitted, its event once per buffer (R633). -/
def checkStills (s : State) : State :=
  let bad := fun (d : List Nat) => dType d == 1 && mismatched (tabGet 0 s.pair.stillCrc (dSource d)) (stillCrc s (dSource d))
  let hit := s.send.layers.filterMap fun p => match nextDef p.2 with
    | some d => if bad d then some (p.1, dSource d) else none
    | none => none
  (hit.map Prod.snd).eraseDups.foldl (fun t id => contentMismatch 0 id t) { s with pair.omit_ := hit.map Prod.fst }

/-- A SENDER becomes active: it enumerates the paired ports, with FULL where the pair starts (R621; DEDUCED, log 33). -/
def senderActive (cause : Nat) (s : State) : State :=
  checkStills ((List.range 8).foldl (fun t p => if pairPort t p then startEnum (cause == 4) none t p else t) s)

/-- Set-points stay, the gate is closed, the head is UNREFERENCED: without the event of a stop. -/
def holdHead (s : State) (h : Nat) : State :=
  if headDefined s h = false then s else
  let s1 := cutGate (unreference s h) h
  setHead s1 h { bhead s1 h with frozen := true, referenced := false, move := none }

/-- The list's point and focus before jet `n`, from the park position: a timed stop moves no point (R637). -/
def pointBefore (s : State) (hd : BHead) (addr n : Nat) : Int × Int × Int :=
  (List.range n).foldl (fun p i =>
    let w := readJet s (addr + 32 * i)
    let e := jetEnd w p.1 p.2.1
    (e.1, e.2, jetZ w)) (hwS hd 4, hwS hd 5, hd.fz)

/-- A head's list from its resume jet on (R637). -/
def resumeList (s : State) (h : Nat) : State :=
  let b := blist s h
  let n := (tabGet (0, 0) s.pair.progress h).1
  let p := pointBefore s (bhead s h) b.addr n
  let s1 := setList s h { BList.cold with
    addr := b.addr, count := b.count, sum := b.sum, next := n, fetched := n, vx := p.1, vy := p.2.1
    px := p.1, py := p.2.1, pz := p.2.2, pj := true, stopped := true }
  fillQueue s1 h (min 2048 (b.count - n))

/-- The build layer of a new active unit: PAUSED, its heads at their resume jets, PROCESS time from the latest progress
record; ABORTED where a jet list does not match, with a cause that R405 does not list (R636, R637). -/
def takeBuild (s : State) : State :=
  if s.pair.buildSt < 2 ∨ 6 < s.pair.buildSt ∨ s.bed.build.st = 0 then
    { s with bed.build.st := if s.bed.build.st = 0 then 0 else s.pair.buildSt }
  else
    let hs := layerHeads s
    let s1 := { s with
      bed.build.st := 6, bed.build.begun := true, bed.build.missed := false, bed.build.startAt := none, bed.build.stopAt := buildNow s
      time.process := s.pair.progress.foldl (fun m p => max m p.2.2) 0, time.processRun := false }
    let s2 := hs.foldl resumeList s1
    match hs.find? fun h => mismatched (tabGet 0 s.pair.jetCrc h) (jetCrc s h) with
    | some h => nextFree (abortBuild (contentMismatch 1 h s2) (Config.free s.sys.free 0x0F84 % 2 ^ 32))
    | none => s2

/-- A BED becomes active: every head UNREFERENCED until it is referenced from its first frame, axes UNCERTAIN, the
build layer PAUSED (R636–R638). -/
def bedActive (s : State) : State :=
  let s1 := (List.range 16).foldl holdHead { s with pair.refHeads := (List.range 16).filter (headDefined s) }
  let s2 := (List.range 8).foldl (fun t a =>
    if axisMoves (axis t a) then stopAxis t a 0 else setAxis t a { axis t a with st := 0, homed := false }) s1
  takeBuild s2

/-- REDUNDANCY_SWITCH is recorded unless OP 0 commanded the change (R644). -/
def recordSwitch (cause : Nat) (s : State) : State := if cause = 2 then s else fire s 40 0 cause

/-- PAIR_ROLE_CHANGED with its counts (R647, R648). -/
def roleChanged (act cause : Nat) (s : State) : State :=
  let s1 := raise s 0x0F81 (args [(1, act), (1, cause), (4, snapAge s)])
  let s2 := if act = 1 ∧ (cause = 1 ∨ cause = 6) then bump s1 0x0F 4 0
    else if cause = 2 ∨ cause = 3 then bump s1 0x0F 4 1 else s1
  pairFlags (recordSwitch cause s2)

/-- The unit becomes active: causes 1 takeover, 2 hand-over, 3 automatic switch-back, 4 start-up, 6 forced. A takeover
feeds from latch points at least 200 µs later (R632, R633, R636). -/
def becomeActive (cause : Nat) (s : State) : State :=
  if paired s = false ∨ s.pair.active then s else
  let s1 := { s with
    pair.active := true, pair.changedAt := s.time.loc, pair.cause := cause, pair.peerFirst := s.pair.peerActive
    pair.heardStandby := false, pair.noticeEnd := s.time.loc + 100 * msTicks, pair.noticeAt := s.time.loc, pair.hand := none
    pair.acked := none, pair.feed := []
    pair.feedFrom := nowSys s + (if cause = 1 ∨ cause = 6 then 200 * usTicks else 0 : Nat) }
  let s2 := pairActiveTime (sendNotice s1)
  roleChanged 1 cause (match s.sys.role with
    | .sender => senderActive cause s2
    | .bed => bedActive s2
    | _ => s2)

/-- A BED becomes standby: heads held, gates closed, the layer of ARMING to PAUSED paused (R639, R642). -/
def bedStandby (s : State) : State :=
  let b := s.bed.build
  let s1 := cutAllGates ((List.range 16).foldl holdHead s)
  if b.st < 2 ∨ 6 < b.st then { s1 with pair.buildSt := b.st } else
  let s2 := { s1 with
    bed.build.st := 6, bed.build.armTag := 0, bed.build.startTag := 0, bed.build.pauseTag := 0, bed.build.startAt := none
    time.processRun := false, pair.buildSt := 6 }
  endBuildTag (endBuildTag (endBuildTag s2 b.armTag 0x53 0x20) b.startTag 0x54 0x20) b.pauseTag 0x55 0x20

/-- The feeds of a unit that becomes standby: at a hand-over or a yield the frame in progress is the last (R639, R642). -/
def lastFeeds (s : State) (cause : Nat) : Tab Nat :=
  if cause = 4 then [] else
  s.pair.feed.map fun p => (p.1, if p.2 = 1 ∧ (outp s p.1).inFrame = false then 0 else 2)

/-- The unit becomes standby: causes 2 hand-over, 3 automatic switch-back, 4 entry to STANDBY, 5 yield. -/
def becomeStandby (cause : Nat) (s : State) : State :=
  if s.pair.active = false then s else
  let tag := match s.pair.hand with
    | some (t, _, _) => t
    | none => 0
  let s1 := { s with
    pair.active := false, pair.changedAt := s.time.loc, pair.cause := cause, pair.hand := none, pair.synced := false, pair.peerFirst := false
    pair.rxSeq := none, pair.noticeEnd := 0, pair.omit_ := [], pair.refHeads := [], pair.feed := lastFeeds s cause }
  let s2 := pairStandbyTime s1
  let s3 := roleChanged 0 cause (if s.sys.role = .bed then bedStandby s2 else s2)
  if tag = 0 then s3 else cmdEnds s3 (tag - 1) 0x23 (if cause = 2 then 0 else 0x20)

end Sys2Proof.Machine
end

