-- ==== Sys2Proof/Machine/PairState.lean ====
section
/-! DEFINITION. The pair state as items, snapshots, mirror and progress records, and the saved-state copy
(17_redundancy R627–R631). The data of an item are the payload words of the command that defines it; empty where
nothing is defined (DEDUCED, log 33). -/

namespace Sys2Proof.Machine

/-! ### Items (R628) -/

/-- An item: its code and its data. -/
abbrev Item := Nat × List Byte

/-- An item as it stands in a snapshot or a copy. -/
def itemBytes (it : Item) : List Byte :=
  leBytes 2 it.1 ++ leBytes 2 it.2.length ++ it.2 ++ List.replicate (cdiv it.2.length 4 * 4 - it.2.length) 0

/-- The items of a body, to its end. -/
def itemsOf : Nat → List Byte → List Item
  | 0, _ => []
  | fuel + 1, l =>
    if l.length < 4 then [] else
    let n := leAt l 2 2
    (leAt l 0 2, (l.drop 4).take n) :: itemsOf fuel (l.drop (4 + cdiv n 4 * 4))

/-- Words of a list of numbers as bytes, and back. -/
def numBytes (l : List Nat) : List Byte := l.flatMap (leBytes 4)
def bytesWords (l : List Byte) : List Nat := (wordsOf l).map BitVec.toNat

/-- The keys of the pair state in the role. -/
def pairKeys (s : State) : List Nat :=
  keyIds.filter fun id => pairKey s.sys.role id && (match keyDef s.sys.role id with
    | some k => keyInRole k s.sys.role
    | none => false)

def keyItems (s : State) : List Item := (pairKeys s).map fun id => (id, keyCommitted s id)

/-- STREAM_BIND's payload of a bound stream (05 R169). -/
def bindWords (k : Nat) (b : Binding) : List Nat :=
  [k + b.port * 64 + b.vid * 65536, b.dst, b.src, b.udp, b.width + b.height * 65536, b.rateNum, b.rateDen,
   b.type + b.full * 16 + b.tcs * 256 + b.colorimetry * 4096 + b.depth * 65536 + b.sampling * 2 ^ 20 + b.pt * 2 ^ 24]

/-- OUTPUT_TIMING's payload of an output (06 R205). -/
def timingWords (o : Nat) (x : Output) : List Nat :=
  [o + (x.views - 1) % 4 * 65536 + flag x.enable 31, x.width + x.height * 65536, x.num, x.den, x.vb, x.phase, x.latency]

/-- Wall-map entries as position, X and Y, W and H. -/
def mapWords (x : Output) : List Nat :=
  x.map.flatMap fun p => [p.1, p.2.1 + p.2.2.1 * 65536, p.2.2.2.1 + p.2.2.2.2 * 65536]

/-- BUFFER_REGISTER's payloads. -/
def bufWords (s : State) : List Nat :=
  s.send.bufs.flatMap fun p => match p.2 with
    | some b => [p.1 + b.format * 65536, b.addr % 2 ^ 32, b.addr / 2 ^ 32, b.width + b.height * 65536, b.pitch]
    | none => []

/-- CRC_RECT_SET's payloads; a learned value stands in for the expected one. -/
def rectWordsOf (s : State) : List Nat :=
  (List.range 8).flatMap fun o => ((outp s o).pendRects.foldl (fun t p => tabSet CrcRect.cold t p.1 p.2) (outp s o).rects).flatMap fun p =>
    let r := p.2
    let learn := r.learn && r.expected.isNone
    [p.1 + o * 65536 + r.view * 2 ^ 20 + flag learn 30 + flag r.enable 31, r.x + r.y * 65536, r.w + r.h * 65536, r.expected.getD 0]

def senderItems (s : State) : List Item :=
  ((List.range 64).map fun k => (0xF100 + k, match (layer s k).active with
    | some d => numBytes d
    | none => [])) ++
  ((List.range 8).map fun k => (0xF200 + k, match stream s k with
    | some x => numBytes (bindWords k x.bind)
    | none => [])) ++
  ((List.range 8).map fun o => (0xF300 + o, numBytes (timingWords o (outp s o)))) ++
  ((List.range 8).map fun o => (0xF900 + o, numBytes (mapWords (outp s o)))) ++
  [(0xFA00, numBytes (bufWords s)), (0xFA01, numBytes (rectWordsOf s))]

/-- A head's grid: whether each of its nodes has been written, then their coordinates. -/
def gridBytes (x : BHead) : List Byte :=
  if x.written.isEmpty then [] else
  ((List.range 4225).map fun n => b8 (b2n (tabGet false x.written n))) ++
    (List.range 12675).flatMap fun i => leBytes 3 (uns 24 (tabGet 0 x.grid i))

def bedItems (s : State) : List Item :=
  let b := s.bed.build
  ((List.range 16).map fun h => (0xF400 + h, numBytes (bhead s h).defn)) ++
  ((List.range 32).map fun k => (0xF500 + k, numBytes ((loopSlot s k).defn.getD []))) ++
  [(0xF600, numBytes b.guard), (0xF700, numBytes [b.st, b.layerId, s.pair.desc % 2 ^ 32, s.pair.desc / 2 ^ 32])] ++
  ((List.range 16).map fun h =>
    let p := tabGet (0, 0) s.pair.progress h
    (0xF800 + h, numBytes [p.1, p.2 % 2 ^ 32, p.2 / 2 ^ 32])) ++
  ((List.range 16).map fun h => (0xFB00 + h, gridBytes (bhead s h))) ++
  ((List.range 32).map fun k => (0xFC00 + k, match (loopSlot s k).gain with
    | some l => numBytes (l.map (uns 32))
    | none => []))

/-- The pair state. -/
def pairItems (s : State) : List Item :=
  keyItems s ++ match s.sys.role with
    | .sender => senderItems s
    | .bed => bedItems s
    | _ => []

/-- A bulk item: a table, or a key of more than 256 bytes. -/
def bulkItem (it : Item) : Bool :=
  if it.1 < 0xF000 then decide (256 < it.2.length)
  else [0xF9, 0xFA, 0xFB, 0xFC].contains (it.1 / 256)

/-! ### The standby takes an item -/

/-- A command of the peer: it has no path and no tag here (cmdEnds). -/
def peerCmd (ws : List Word) : Cmd :=
  { path := 0, tag := 4096, notify := false, len := ws.length, self := true, bcast := false, target := 0, origin := 0, payload := ws }

/-- Groups of `n` words. -/
def groups (n : Nat) (l : List Nat) : List (List Nat) := (List.range (l.length / max 1 n)).map fun i => (l.drop (n * i)).take n

def takeRect (s : State) (w : List Nat) : State := (bodyCrcRectSet (peerCmd (w.map w32)) s).1

/-- A SENDER's item. -/
def takeSenderItem (s : State) (it : Item) : State :=
  let w := bytesWords it.2
  let i := it.1 % 256
  match it.1 / 256 with
  | 0xF1 => setLayer s i { layer s i with active := if w.isEmpty then none else some w }
  | 0xF2 =>
    let b := bindOf (peerCmd (w.map w32))
    if w.isEmpty then unbindStream s i
    else if ((stream s i).map Stream.bind) = some b then s else bindStream (unbindStream s i) i b
  | 0xF3 =>
    let w0 := w.getD 0 0
    setOutp s i { outp s i with
      enable := bit w0 31, views := bits w0 16 2 + 1, width := w.getD 1 0 % 65536, height := w.getD 1 0 / 65536
      num := w.getD 2 0, den := w.getD 3 0, vb := w.getD 4 0, phase := w.getD 5 0, latency := w.getD 6 0 }
  | 0xF9 => setOutp s i { outp s i with map := (groups 3 w).foldl (fun t g =>
      tabSet (0, 0, 0, 0) t (g.getD 0 0) (g.getD 1 0 % 65536, g.getD 1 0 / 65536, g.getD 2 0 % 65536, g.getD 2 0 / 65536)) [] }
  | 0xFA =>
    if i = 0 then { s with send.bufs := (groups 5 w).foldl (fun t g =>
      tabSet none t (g.getD 0 0 % 1024) (some
        { format := g.getD 0 0 / 65536, addr := g.getD 1 0 + g.getD 2 0 * 2 ^ 32, width := g.getD 3 0 % 65536
          height := g.getD 3 0 / 65536, pitch := g.getD 4 0 })) [] }
    else
      let s0 := (List.range 8).foldl (fun t o => setOutp t o { outp t o with rects := [], pendRects := [] }) s
      (groups 4 w).foldl takeRect s0
  | _ => s

/-- A BED's item. -/
def takeBedItem (s : State) (it : Item) : State :=
  let w := bytesWords it.2
  let i := it.1 % 256
  match it.1 / 256 with
  | 0xF4 => if (bhead s i).defn = w then s else
    let s1 := unreference s i
    setHead s1 i (if w.isEmpty then BHead.cold else { bhead s1 i with defn := w })
  | 0xF5 => setLoop s i { loopSlot s i with defn := if w.isEmpty then none else some w }
  | 0xF6 => { s with bed.build.guard := w }
  | 0xF7 =>
    let a := w.getD 2 0 + w.getD 3 0 * 2 ^ 32
    let same := s.pair.desc == a && s.bed.build.layerId == w.getD 1 0
    let b := if w.getD 0 0 = 0 then { s.bed.build with st := 0 } else if same && s.bed.build.st != 0 then s.bed.build else loadDesc s a
    { s with bed.build := b, pair.buildSt := w.getD 0 0, pair.desc := a }
  | 0xF8 => { s with pair.progress := tabSet (0, 0) s.pair.progress i (w.getD 0 0, w.getD 1 0 + w.getD 2 0 * 2 ^ 32) }
  | 0xFB =>
    let x := bhead s i
    if it.2.isEmpty then setHead s i { x with written := [], grid := [] } else
    let put := fun (t : Tab Int) (k : Nat) => tabSet 0 t k (sgn 24 (leAt it.2 (4225 + 3 * k) 3))
    setHead s i { x with
      written := (List.range 4225).foldl (fun t n => tabSet false t n (leAt it.2 n 1 == 1)) [], grid := (List.range 12675).foldl put [] }
  | 0xFC => setLoop s i { loopSlot s i with gain := if w.isEmpty then none else some (w.map (sgn 32)) }
  | _ => s

/-- An item of a snapshot: a key's value is committed, the rest replaces what the unit held. -/
def takeItem (s : State) (it : Item) : State :=
  if it.1 < 0xF000 then (if pairKey s.sys.role it.1 ∧ keyCommitted s it.1 ≠ it.2 then applyKey it.1 it.2 s else s)
  else match s.sys.role with
    | .sender => takeSenderItem s it
    | .bed => takeBedItem s it
    | _ => s

/-! ### Mirror records (R629) -/

/-- LAYER_COMMIT at the standby: pending up to the latch point of the frame named, which may have passed here already. -/
def mirrorCommit (s : State) (arg : Nat) (c : Cmd) : State :=
  let l := maskSlots c
  match l.filterMap fun k => (layer s k).staged with
  | [] => s
  | d :: _ =>
    let o := dOutput d
    let s1 := { s with send.layers := pendSlots s l }
    if counted s.sys.st && !((outp s o).latched && (outp s o).nextNo == arg) then s1
    else withRetire (latchCommits o) s1

/-- BUILD commands at the standby change the layer's state as mirrored; it runs nothing (R628, R636). -/
def mirrorBuild (s : State) (op : Nat) (c : Cmd) : State :=
  match op with
  | 0x52 =>
    let a := pw c 0 + pw c 1 * 2 ^ 32
    { s with bed.build := loadDesc s a, pair.buildSt := 1, pair.desc := a, pair.progress := [], pair.jetCrc := [] }
  | 0x53 => applyArmKeys { s with pair.buildSt := 2 }
  | 0x54 => { s with pair.buildSt := 4 }
  | 0x55 => if s.pair.buildSt = 4 then { s with pair.buildSt := 5 } else s
  | 0x56 => if s.pair.buildSt = 0 ∨ 7 ≤ s.pair.buildSt then s else { s with bed.build.st := 8, pair.buildSt := 8 }
  | _ => s

/-- CFG_WRITE and CFG_COMMIT of keys of the pair state. -/
def mirrorKey (s : State) (op : Nat) (c : Cmd) : State :=
  let mine := (stagedIds s).filter (pairKey s.sys.role)
  if op = 0x10 then
    let id := cfgKey c
    let v := putBytes (keyStaged s id) (cfgOffset c) ((bytesOf (c.payload.drop 2)).take (cfgBytes c))
    if pairKey s.sys.role id then { s with keys.staged := tabSet none s.keys.staged id (some (maskKey id v)) } else s
  else if bit (pw c 0) 0 then mine.foldl (fun t id => { t with keys.staged := tabSet none t.keys.staged id none }) s
  else mine.foldl (fun t id => applyKey id (keyStaged s id) t) s

/-- The CRCs that follow a command: their number, then pairs. -/
def mirrorCrcs (ws : List Nat) : List (Nat × Nat) :=
  (List.range (ws.headD 0)).map fun i => (ws.getD (1 + 2 * i) 0, ws.getD (2 + 2 * i) 0)

/-- A mirrored command with the same effect at the standby; a check that its own state would fail does not keep the
definition from being taken. -/
def mirrorApply (s0 : State) (arg : Nat) (body : List Byte) : State :=
  let ws := wordsOf body
  let w0 := (ws.headD 0).toNat
  let op := w0 / 2 ^ 24
  let n := w0 % 256
  let c := peerCmd ((ws.drop 2).take n)
  let crcs := mirrorCrcs ((ws.drop (2 + n)).map BitVec.toNat)
  let s := if op = 0x31 then { s0 with pair.stillCrc := crcs.foldl (fun t p => tabSet 0 t p.1 (p.2 + 1)) s0.pair.stillCrc }
    else if op = 0x53 then { s0 with pair.jetCrc := crcs.foldl (fun t p => tabSet 0 t p.1 (p.2 + 1)) [] }
    else s0
  if op = 0x10 ∨ op = 0x12 then mirrorKey s op c
  else if pairOpcode s.sys.role op = false then s
  else match op with
    | 0x30 => (bodyLayerDefine c s).1
    | 0x31 => mirrorCommit s arg c
    | 0x32 => (bodyBufferRegister c s).1
    | 0x33 => { s with send.bufs := tabSet none s.send.bufs (bits (pw c 0) 0 10) none }
    | 0x34 => (bodyMapDefine c s).1
    | 0x35 => (bodyOutputTiming c s).1
    | 0x36 => (bodyCrcRectSet c s).1
    | 0x38 => takeSenderItem s (0xF200 + pw c 0 % 8, if bit (pw c 0) 8 then [] else bytesOf c.payload)
    | 0x50 => (bodyHeadDefine c s).1
    | 0x51 => (bodyFieldCorrLoad c s).1
    | 0x59 => { s with bed.build.guard := (List.range 5).map (pw c) }
    | 0x60 => setLoop s (bits (pw c 0) 24 5) { loopSlot s (bits (pw c 0) 24 5) with defn := some ((List.range 8).map (pw c)) }
    | 0x61 => (bodyLoopLutLoad c s).1
    | _ => mirrorBuild s op c

/-! ### Records (R630, R631) -/

/-- The fields of a record whose CRC holds: TYPE, FLAGS, SEQ, ARG and the body. -/
def recordFields (r : List Byte) : Option (Nat × Nat × Nat × Nat × List Byte) :=
  let zeroed := r.take 28 ++ List.replicate 4 0 ++ r.drop 32
  if r.length < 32 ∨ r.length ≠ 32 * leAt r 2 2 ∨ leAt r 28 4 ≠ crc32 zeroed then none
  else some (leAt r 0 1, leAt r 1 1, leAt r 4 4, leAt r 8 4, (r.drop 12).take 16 ++ r.drop 32)

/-- The standby becomes, or is no longer, synced (R630): PAIR_SYNC, HELLO. -/
def setSynced (on : Bool) (s : State) : State :=
  if s.pair.synced = on then s
  else pairFlags (raise { s with pair.synced := on } 0x0F83 (args [(1, b2n on), (4, s.pair.snapSeq)]))

/-- A gap in the peer's sequence clears synced (R630, R648). -/
def noteSeq (seq : Nat) (s : State) : State :=
  let gap := match s.pair.rxSeq with
    | some q => seq != (q + 1) % 2 ^ 32
    | none => false
  let s1 := { s with pair.rxSeq := some seq }
  if gap && s1.pair.synced then setSynced false (bump s1 0x0F 4 4) else s1

/-- PAIR_STATE_AREA: its address and the bytes of each half (R627). -/
def areaAt (s : State) : Nat := keyU s 0x0F84 0 8
def halfLen (s : State) : Nat := keyU s 0x0F84 8 4 / 2

/-- A snapshot with its body: into the other half of the area, and into force; acknowledged. Without an area that holds
it none is held (DEDUCED, log 33). -/
def takeSnapshot (seq : Nat) (body : List Byte) (s : State) : State :=
  if halfLen s < body.length then s else
  let half := 1 - s.pair.snapHalf
  let s1 := wrBytes s (areaAt s + half * halfLen s) body
  let s2 := { (itemsOf 4096 body).foldl takeItem s1 with
    pair.snapHalf := half, pair.snapBody := body, pair.snapValid := true, pair.snapSeq := seq, pair.snapAt := s.time.loc
    pair.snapSys := s.time.sys }
  pairSend (setSynced true (bump s2 0x0F 4 2)) 5 0 seq []

/-- A snapshot's header alone: what the standby holds stands. -/
def takeHeader (seq : Nat) (s : State) : State :=
  if s.pair.synced = false then s else
  pairSend { s with pair.snapSeq := seq, pair.snapAt := s.time.loc, pair.snapSys := s.time.sys } 5 0 seq []

/-- PEER_RECORD: a record that has arrived whole over the peer link. -/
def peerRecord (r : List Byte) (s : State) : State :=
  if paired s = false ∨ pairLinkUp s = false then s else
  match recordFields r with
  | none => s
  | some (type, flags, seq, arg, body) =>
    let s1 := noteSeq seq s
    match type with
    | 1 => if s1.pair.active then s1 else if arg = 0 then takeHeader seq s1 else takeSnapshot seq (body.take arg) s1
    | 2 => if s1.pair.active then s1 else
      bump { mirrorApply s1 arg body with pair.mirrorSeq := seq } 0x0F 4 3
    | 3 => if s1.pair.active then s1 else
      bump { s1 with
        pair.mirrorSeq := seq, pair.progress := tabSet (0, 0) s1.pair.progress (leAt body 0 4) (leAt body 4 4, leAt body 8 8) } 0x0F 4 3
    | 4 => { s1 with pair.peerFlags := flags + 1, pair.backDone := s1.pair.backDone && bit flags 3 }
    | 5 => if arg = s1.pair.snapSeq ∧ s1.pair.active then { s1 with pair.acked := some s1.pair.snapBody } else s1
    | _ => s1

def execPeerRecord (r : List Byte) (s : State) : Host.Outcome State Fault Refusal := live s (peerRecord r)

/-- The peer, as its HELLO says, is synced. -/
def peerSynced (s : State) : Bool := s.pair.peerFlags != 0 && bit (s.pair.peerFlags - 1) 4

/-- SNAPSHOT_SEND (R627): each second, with the body unless the standby has acknowledged the same one. -/
def snapshotSend (s : State) : State :=
  if pairActive s = false ∨ pairLinkUp s = false ∨ (s.pair.snapValid ∧ s.time.loc < s.pair.snapAt + secTicks) then s else
  let body := (pairItems s).flatMap itemBytes
  let same := peerSynced s && s.pair.acked == some body
  let s1 := pairSend s 1 0 (if same then 0 else body.length) (if same then [] else body)
  bump { s1 with
    pair.snapSeq := s1.pair.seq, pair.snapAt := s.time.loc, pair.snapSys := s.time.sys, pair.snapBody := body, pair.snapValid := true } 0x0F 4 2

def execSnapshotSend (s : State) : Host.Outcome State Fault Refusal := live s snapshotSend

/-! ### The saved-state copy (R627, R628; 01 R33) -/

/-- The items of a copy: the compact part, and the CRC-32 of each bulk item. -/
def savedItems (s : State) : List Byte :=
  ((itemsOf 4096 s.pair.snapBody).map fun it => if bulkItem it then (it.1, leBytes 4 (crc32 it.2)) else it).flatMap itemBytes

/-- A copy of the snapshot held. -/
def savedBytes (s : State) : List Byte :=
  let items := savedItems s
  let b := leBytes 4 s.pair.snapSeq ++ leBytes 4 (roleCode s.sys.role + (0x18 + items.length) * 65536) ++
    bytesOf (timeRecord s.pair.snapSys) ++ items
  b ++ leBytes 4 (crc32 b)

/-- The newest valid copy; empty where there is none. -/
def savedCopy (s : State) : List Byte := if s.nv.savedLast = 0 then [] else tabGet [] s.nv.saved (s.nv.savedLast - 1)

/-- SAVED_STATE_COPY: the standby's copy, in rotation over 8 places, at most once per 60 s and only of a changed state. -/
def savedStateCopy (s : State) : State :=
  let old := savedCopy s
  let b := savedBytes s
  if pairStandby s = false ∨ s.pair.snapValid = false ∨ s.sys.st = .reset ∨ s.sys.st = .boot ∨
      (s.pair.savedAt ≠ 0 ∧ s.time.loc + 1 < s.pair.savedAt + 60 * secTicks) ∨ 16384 < b.length ∨
      (old.drop 0x14).take (old.length - 0x18) = savedItems s then s else
  let i := s.nv.savedLast % 8
  emit { s with nv.saved := tabSet [] s.nv.saved i b, nv.savedLast := i + 1, pair.savedAt := s.time.loc + 1 } (.record 3 i b)

def execSavedStateCopy (s : State) : Host.Outcome State Fault Refusal := live s savedStateCopy

end Sys2Proof.Machine
end

