-- ==== Sys2Proof/Machine/Pair.lean ====
section
/-! DEFINITION. Heartbeats, silence, yielding, start-up, hand-over and the commands of a pair
(17_redundancy R624–R626, R632, R639–R645). -/

namespace Sys2Proof.Machine

/-! ### Heartbeats (R624) -/

/-- HEARTBEAT_SEND: once per millisecond of LOCAL time a pulse on HB_OUT, 100 µs when active and 300 µs when standby, and a
HEART on the peer link; a HELLO follows the link's state. -/
def heartbeatSend (s : State) : State :=
  let ms := s.time.loc / msTicks
  if paired s = false ∨ s.pair.beating = false ∨ ms = s.pair.beatMs then s else
  let s1 := emit { s with pair.beatMs := ms } (.peer 0 (two32 (ms * msTicks) ++ [w32 ((if s.pair.active then 100 else 300) * usTicks)]))
  let p := linkPort s
  let s2 := if portLocked s1 p then sendHeart s1 p false else s1
  pairHello s2 (pairLinkUp s2)

def execHeartbeatSend (s : State) : Host.Outcome State Fault Refusal := live s heartbeatSend

/-- A heartbeat on a path: 0 HB_IN, 1 the peer link. -/
def hearBeat (path : Nat) (act : Bool) (s : State) : State :=
  let now : BeatPath := { last := some s.time.loc, silent := false }
  let was := if path = 0 then s.pair.hb else s.pair.lk
  let s1 := { s with
    pair.hb := if path = 0 then now else s.pair.hb, pair.lk := if path = 0 then s.pair.lk else now, pair.heardAt := some s.time.loc
    pair.activeAt := if act then some s.time.loc else s.pair.activeAt, pair.peerActive := act
    pair.heardStandby := s.pair.heardStandby || !act }
  if was.silent then raise s1 0x0F82 (args [(1, path), (1, 1)]) else s1

/-- HB_IN_EDGE: a pulse of `width` ticks that begins now; 500 µs after the last accepted edge, of a length that fits. -/
def hbInEdge (width : Nat) (s : State) : State :=
  let far := match s.pair.hb.last with
    | some t => decide (t + 500 * usTicks ≤ s.time.loc)
    | none => true
  let act := decide (50 * usTicks ≤ width) && decide (width ≤ 200 * usTicks)
  let stb := decide (250 * usTicks ≤ width) && decide (width ≤ 400 * usTicks)
  if paired s && far && (act || stb) then hearBeat 0 act s else s

def execHbInEdge (width : Nat) (s : State) : Host.Outcome State Fault Refusal := live s (hbInEdge width)

/-- A takeover notice at a TILE, on the port that is not its active upstream port: that one stops feeding until its next
FRAME_START (R632). -/
def notice (port : Nat) (s : State) : State :=
  let a := s.link.tile.activeUp
  if s.sys.role ≠ .tile ∨ 2 ≤ port ∨ portLocked s port = false ∨ port = a ∨ 2 ≤ a ∨ s.link.tile.suppressed.contains a then s
  else { s with link.tile.suppressed := s.link.tile.suppressed ++ [a] }

def execTakeoverNotice (port : Nat) (s : State) : Host.Outcome State Fault Refusal := live s (notice port)

/-- The peer's HEART: its device ID and state, since when it has been up (R643), and a heartbeat. -/
def peerHeart (src state : Nat) (s : State) : State :=
  let st := state % 16
  let up := decide (3 ≤ st) && decide (st ≤ 5)
  let s1 := { s with
    pair.peerDev := src % 0x4000 + 1, pair.peerState := st, pair.backDone := s.pair.backDone && st != 6
    pair.peerUpAt := if up then (if s.pair.peerUpAt = 0 then s.time.loc + 1 else s.pair.peerUpAt) else 0 }
  if bit state 4 != bit state 5 then hearBeat 1 (bit state 4) s1 else s1

/-- HEART_CELL (07 R250, R269; R624, R632). -/
def heartCellIn (port src state flags : Nat) (s : State) : State :=
  if portLocked s port = false then s else
  match s.sys.role with
  | .tile => if bit state 4 && bit state 5 then notice port s else s
  | .sender =>
    let s1 := learnPeer s port src
    if paired s ∧ portMode s port = 3 ∧ bundleFirst s port = linkPort s then peerHeart src state s1
    else if port < 8 ∧ returnPort s port ∧ bit flags 0 then ringTakeover port src s else s1
  | _ => if paired s ∧ port = 15 then peerHeart src state s else s

def execHeartCell (port src state flags : Nat) (s : State) : Host.Outcome State Fault Refusal :=
  live s (heartCellIn port src state flags)

/-- TAKEOVER_NOTICE_REPEAT (R632). -/
def noticeRepeat (s : State) : State :=
  if pairActive s = false ∨ s.sys.role ≠ .sender ∨ s.pair.noticeEnd < s.time.loc ∨ s.time.loc < s.pair.noticeAt + msTicks then s
  else sendNotice { s with pair.noticeAt := s.pair.noticeAt + msTicks }

def execTakeoverNoticeRepeat (s : State) : Host.Outcome State Fault Refusal := live s noticeRepeat

/-! ### Silence, yielding, start-up (R625, R639, R644) -/

/-- A path has heard nothing for 3 ms, counted from the first heartbeat sent where none has come (DEDUCED, log 33). -/
def quietPath (s : State) (p : BeatPath) : Bool :=
  decide (max (p.last.getD 0) s.pair.enteredAt + 3 * msTicks ≤ s.time.loc)

/-- A path becomes silent. -/
def goSilent (path : Nat) (s : State) : State :=
  let was := if path = 0 then s.pair.hb else s.pair.lk
  if was.silent ∨ quietPath s was = false then s else
  let now := { was with silent := true }
  let s1 := { s with pair.hb := if path = 0 then now else s.pair.hb, pair.lk := if path = 0 then s.pair.lk else now }
  raise (bump s1 0x0F 4 5) 0x0F82 (args [(1, path), (1, 0)])

/-- HEARTBEAT_SILENCE. A standby that has heard its peer takes over; one that has not waits as R644 says. -/
def heartbeatSilence (s : State) : State :=
  if paired s = false ∨ s.pair.beating = false then s else
  let s1 := goSilent 1 (goSilent 0 s)
  if s1.pair.hb.silent = s.pair.hb.silent ∧ s1.pair.lk.silent = s.pair.lk.silent then s
  else if s1.pair.hb.silent && s1.pair.lk.silent then
    let s2 := fire s1 41 2 2
    if s2.pair.active = false ∧ s2.pair.heardAt.isSome then becomeActive 1 s2 else s2
  else fire s1 41 (if s1.pair.hb.silent then 0 else 1) 1

def execHeartbeatSilence (s : State) : Host.Outcome State Fault Refusal := live s heartbeatSilence

/-- The unit yields: it was active first, or neither was and it is the preferred standby (R639; DEDUCED, log 33). -/
def yields (s : State) : Bool :=
  s.pair.heardStandby || (!s.pair.peerFirst && preferredStandby s)

/-- PAIR_YIELD: the peer has been heard active since this unit became active. -/
def pairYield (s : State) : State :=
  let heard := match s.pair.activeAt with
    | some t => decide (s.pair.changedAt ≤ t)
    | none => false
  if pairActive s && s.pair.peerActive && heard && yields s then becomeStandby 5 s else s

def execPairYield (s : State) : Host.Outcome State Fault Refusal := live s pairYield

/-- No heartbeat of a kind for `n` ms since the entry to STANDBY. -/
def unheard (s : State) (last : Option Nat) (n : Nat) : Bool :=
  decide (max (last.getD 0) s.pair.enteredAt + n * msTicks ≤ s.time.loc)

/-- PAIR_PRIMARY_START_EXPIRY, PAIR_START_WAIT_EXPIRY (R644). -/
def primaryStart (s : State) : State :=
  if pairStandby s && s.pair.beating && s.sys.st == .standby && !preferredStandby s && unheard s s.pair.activeAt 3 then becomeActive 4 s else s
def standbyStart (s : State) : State :=
  if pairStandby s && s.pair.beating && s.sys.st == .standby && preferredStandby s && s.pair.heardAt.isNone &&
      unheard s none (keyU s 0x0F87 0 2) then becomeActive 4 s else s

def execPairPrimaryStartExpiry (s : State) : Host.Outcome State Fault Refusal := live s primaryStart
def execPairStartWaitExpiry (s : State) : Host.Outcome State Fault Refusal := live s standbyStart

/-! ### Hand-over (R640–R643) -/

/-- The time from which a hand-over's latch points and frame instants count: 2 ms after acceptance. -/
def handTime (s : State) : Int := nowSys s + 2 * msTicks

/-- The peer is in READY, RUN or HOLD, as its HEART shows it. -/
def peerUp (s : State) : Bool := decide (3 ≤ s.pair.peerState) && decide (s.pair.peerState ≤ 5)

/-- The switch-back that is due: recovery after SAFE is made once. -/
def switchBack (s : State) : Option Bool :=
  let on := keyU s 0x0F85 0 1
  if (bit on 0 ∧ s.pair.ran = false) ∨ (bit on 1 ∧ keyU s 0x0F86 0 1 = 1) then some false
  else if bit on 2 ∧ s.pair.peerFlags ≠ 0 ∧ bit (s.pair.peerFlags - 1) 3 ∧ s.pair.backDone = false then some true
  else none

/-- AUTO_SWITCHBACK (R643). -/
def autoSwitchback (s : State) : State :=
  if pairActive s && preferredStandby s && peerSynced s && peerUp s && s.pair.hand.isNone && s.pair.peerUpAt != 0 &&
      decide (s.pair.peerUpAt - 1 + 10 * secTicks ≤ s.time.loc) then
    match switchBack s with
    | some safe => { s with pair.hand := some (0, 3, handTime s), pair.backDone := s.pair.backDone || safe }
    | none => s
  else s

def execAutoSwitchback (s : State) : Host.Outcome State Fault Refusal := live s autoSwitchback

/-- The outgoing unit's last frames have been latched: at a BED's frame instant, or when no running paired output is fed
beyond its frame in progress (R642). -/
def handDue (s : State) (t : Int) : Bool :=
  match s.sys.role with
  | .bed => decide (-(-t / 2048) * 2048 ≤ nowSys s)
  | _ => decide (t ≤ nowSys s) && (List.range 8).all fun o => !pairPort s o || !(outp s o).started || tabGet 0 s.pair.feed o != 1

/-- HANDOVER_INSTANT: the outgoing unit becomes standby; the incoming one, at its instant by the peer, active with cause 2
or 3. -/
def handoverInstant (cause : Nat) (s : State) : State :=
  match s.pair.hand with
  | some (_, c, t) => if s.pair.active && handDue s t then becomeStandby c s else s
  | none =>
    if pairStandby s && s.pair.beating && s.pair.synced && counted s.sys.st && (cause == 2 || cause == 3) then becomeActive cause s else s

def execHandoverInstant (cause : Nat) (s : State) : Host.Outcome State Fault Refusal := live s (handoverInstant cause)

/-- REDUNDANCY_SWITCH: OP 0 HANDOVER, OP 1 FORCE (R640). -/
def bodySwitch : Body := fun c s =>
  let op := pw c 0 % 4
  let b := s.bed.build.st
  if paired s = false ∨ 2 ≤ op ∨ (op == 0) != s.pair.active then (s, rBad .badParam 0)
  else if op = 0 then
    if s.pair.hand.isSome ∨ peerSynced s = false ∨ peerUp s = false ∨ (s.sys.role = .bed ∧ 2 ≤ b ∧ b ≤ 5) then (s, rBad .busy 0)
    else ({ s with pair.hand := some (c.tag + 1, 2, handTime s) }, rAccepted)
  else (cmdDone (becomeActive 6 s) c.tag 0x23 .ok, rAccepted)

def opSwitch : OpSpec := opSB 0x23 [.ready, .run, .hold, .safe] false (some 1)
def runSwitch (c : Cmd) (s : State) : State := runCmd opSwitch noBuild bodySwitch c s
def execRedundancySwitchHandover (c : Cmd) (s : State) : Host.Outcome State Fault Refusal := live s (runSwitch c)
def execRedundancySwitchForce (c : Cmd) (s : State) : Host.Outcome State Fault Refusal := live s (runSwitch c)

/-! ### REDUNDANCY_STATUS (R645) -/

/-- A path's heartbeat is not silent: one came in the last 3 ms. -/
def pathOk (s : State) (p : BeatPath) : Bool :=
  match p.last with
  | some t => decide (s.time.loc < t + 3 * msTicks)
  | none => false

/-- The five words. A unit that has not changed its activity counts the seconds from the entry to STANDBY, with cause 0. -/
def statusWords (s : State) : List Word :=
  let p := s.pair
  let w := p.peerState * 65536 + flag p.ran 6 + flag (!p.active && p.synced) 5 + flag (pathOk s p.lk) 4 + flag (pathOk s p.hb) 3 +
    flag p.peerActive 2 + flag p.active 1 + flag (paired s) 0
  let at_ := if p.cause = 0 then p.enteredAt else p.changedAt
  [w32 w, w32 p.snapSeq, w32 (snapAge s), w32 p.mirrorSeq, w32 (min 0xFFFFFF ((s.time.loc - at_) / secTicks) * 256 + p.cause)]

def bodyStatus : Body := fun c s =>
  if c.len = 0 then (s, rWords (statusWords s))
  else if c.len ≠ 1 then (s, rBad .badLength 0xFFFF)
  else
    let n := bits (pw c 0) 16 6
    let off := pw c 0 % 65536
    let copy := savedCopy s
    if copy = [] ∨ bit (pw c 0) 31 = false ∨ n = 0 ∨ 60 < n ∨ off % 4 ≠ 0 ∨ copy.length < off + 4 * n then (s, rBad .badParam 0)
    else (s, rWords (w32 (pw c 0 % 2 ^ 22 + 2 ^ 31) :: wordsOf ((copy.drop off).take (4 * n))))

def opStatus : OpSpec := opSB 0x24 [] false none
def runStatus (c : Cmd) (s : State) : State := runCmd opStatus noBuild bodyStatus c s
def execRedundancyStatus (c : Cmd) (s : State) : Host.Outcome State Fault Refusal := live s (runStatus c)
def execRedundancyStatusSaved (c : Cmd) (s : State) : Host.Outcome State Fault Refusal := live s (runStatus c)

end Sys2Proof.Machine
end

