-- ==== Sys2Proof/Machine/Release.lean ====
section
/-! DEFINITION. FENCE_RELEASE: a unit returns to service at the instant its chapter gives (14_spillway R542). -/

namespace Sys2Proof.Machine

/-- A unit's kind and instance exist (R540): a record fence is named by a source index. -/
def fenceExists (role : Role) (kind inst : Nat) : Bool :=
  if kind = 0 then decide (inst < 46) else decide (kind < 12) && unitExists role kind inst

/-- A line of source `src` with INSTANCE `i` names the unit (R536, R537, R711). -/
def namesUnit (s : State) (src i kind inst : Nat) : Bool :=
  if kind = 0 then true
  else if src = 19 then kind == 8 && keyU s 0x0500 inst 1 % 4 == i
  else if src = 20 ∧ kind = 6 then stringOn s i && stringHead s i == inst
  else fenceUnit src i == some (kind, inst)

/-- The line of the causing source is asserted for the unit. A failed sensor returns by R570, not by its line
(DEDUCED, log 36). -/
def causeAsserted (s : State) (f : Fence) : Bool :=
  f.kind != 11 && ((s.spill.lines.any fun l => l.1 == f.source && namesUnit s f.source l.2 f.kind f.inst) ||
    match s.spill.injection with
    | some j => j.source == f.source && namesUnit s f.source j.inst f.kind f.inst
    | none => false)

/-- The fence is lifted now: FENCE_RELEASED. -/
def liftNow (s : State) (kind inst : Nat) : State :=
  raise (liftFences s fun f => f.kind == kind && f.inst == inst) 0x0D02 (args [(1, kind), (2, inst)])

/-- The port's PTP servo starts afresh (09_time R337). -/
def restartPtp (s : State) (p : Nat) : State :=
  { s with time.ports := tabUpd PtpPort.cold s.time.ports p fun x => { x with locked := false, goodRun := 0, badRun := 0, freq := 0 } }

/-- What a released unit does (03 R96, R115; 05 R201; 07 R275; 08 R304, R306; 09 R337; 10 R403; 11 R420, R434;
12 R452; 14 R541; 15 R570). A layer, and a cascade port whose output runs, wait for the output's latch point; a sink
group for the next flip time; a sensor for 16 good conversions. A head stays UNREFERENCED, an axis UNCERTAIN, a BED's
stage off until ARMING, and a loop slot goes on at its next update. -/
def releaseUnit (s : State) (f : Fence) : State :=
  let i := f.inst
  let wait := { s with send.unfence := if s.send.unfence.contains (f.kind, i) then s.send.unfence else s.send.unfence ++ [(f.kind, i)] }
  match f.kind with
  | 1 => unfenceLane (liftNow s 1 i) i
  | 2 => if s.sys.role = .sender ∧ (outp s i).started then wait else liftNow s 2 i
  | 3 =>
    let s1 := unfenceSource (liftNow s 3 i) i
    if f.source = 11 then restartPtp s1 i else s1
  | 4 => wait
  | 5 =>
    let s1 := liftNow s 5 i
    if outputsRun s1 then startOutput (nowSys s1) s1 i else s1
  | 8 => setGroup s i { group s i with returning := true }
  | 9 =>
    let s1 := liftNow s 9 i
    if s.sys.role = .tile ∧ counted s.sys.st then startStage s1 i else s1
  | 11 =>
    let s1 := setSensor s i { sensor s i with releasing := true }
    if 16 ≤ (sensor s i).passRun then recoverSensor s1 i else s1
  | k => liftNow s k i

/-- FENCE_RELEASE (R542). -/
def bodyFenceRelease : Body := fun c s =>
  let kind := pw c 0 / 2 ^ 28
  let inst := pw c 0 % 65536
  if fenceExists s.sys.role kind inst = false then (s, rBad .badParam 0)
  else match s.spill.fences.find? fun f => f.kind == kind && f.inst == inst with
    | none => (s, rOk)
    | some f => if causeAsserted s f then (s, rBad .faultActive f.source) else (releaseUnit s f, rOk)

def opFenceRelease : OpSpec := opTSB 0x86 [] false (some 1)
def execFenceRelease (c : Cmd) (s : State) : Host.Outcome State Fault Refusal :=
  live s (runCmd opFenceRelease noBuild bodyFenceRelease c)

end Sys2Proof.Machine
end

