-- ==== Sys2Proof/Machine/States.lean ====
section
/-! DEFINITION. Device states: SET_STATE, RESUME, the READY conditions, and what each entry does
(13_mailbox R502–R506; 02 R78, R79; 03 R114; 06 R216; 10 R387; 11 R433; 17 R644). -/

namespace Sys2Proof.Machine

/-! ### READY conditions (R503) -/

/-- An upstream port of a TILE is locked. -/
def upstreamLocked (s : State) : Bool := portLocked s 0 || (s.link.tile.activeUp == 1 && portLocked s 1)

/-- Enumeration has ended on every port in cascade mode; a standby's paired ports count as met (17 R622). -/
def enumerated (s : State) : Bool :=
  (List.range 8).all fun p => portMode s p != 1 || (pairStandby s && pairPort s p) || (casc s p).ended

/-- Every peer link or bundle is up. -/
def peersUp (s : State) : Bool := (List.range 8).all fun p => portMode s p != 3 || bundleFirst s p != p || bundleOk s p

/-- The READY conditions of the role. -/
def readyMet (s : State) : Bool :=
  match s.sys.role with
  | .tile => upstreamLocked s && s.time.locked && s.link.tile.geomOk
  | .sender => s.time.locked && s.sys.dramTrained && enumerated s && peersUp s
  | .bed => s.time.locked && s.sys.dramTrained
  | .factory => false

/-! ### Entries -/

/-- A paired unit at its entry to STANDBY is standby and sends heartbeats; what it heard before does not count (17 R624,
R644). -/
def pairEntry (s : State) : State :=
  if paired s = false then s else
  let s1 := if s.pair.active then becomeStandby 4 s else pairStandbyTime s
  { s1 with
    pair.beating := true, pair.enteredAt := s.time.loc, pair.heardAt := none, pair.activeAt := none, pair.peerActive := false
    pair.hb := BeatPath.cold, pair.lk := BeatPath.cold }

/-- What the boot before left to report: IMAGE_FALLBACK and FW_IMAGE (18 R677), SHUTDOWN_RECORD_FOUND (15 R584). -/
def bootReport (s : State) : State :=
  let s1 := if s.img.report = 0 then s else
    let r := s.img.record.getD { slot := 0, cause := s.img.report, build := 0, at_ := 0 }
    fire (raise { s with img.report := 0 } 0x1005 (args [(1, s.img.report), (1, r.slot), (4, r.build)])) 39 0 s.img.report
  if s1.sys.shutReport = false then s1 else
  raise { s1 with sys.shutReport := false } 0x0E05
    (args [(1, leAt s1.nv.shutRec 1 1), (2, leAt s1.nv.shutRec 4 2), (2, leAt s1.nv.shutRec 2 2)])

/-- STANDBY. -/
def standbyEntry (s : State) : State :=
  bootReport <| pairEntry (match s.sys.role with
    | .tile => fretEntry (tileStop s)
    | .sender => bootEnum (outputsStop s)
    | .bed => cutAllGates (stopStages s)
    | .factory => s)

/-- READY; a TILE soft-starts its rails (03 R114); the control die enables emission again where the link is framed (log 3). -/
def readyEntry (old : DevState) (s : State) : State :=
  let s1 := { s with sys.emitEnabled := s.sys.dieFramed }
  match s.sys.role with
  | .tile => startStages (if old = .standby then s1 else darkenSlot s1)
  | .sender => outputsStart s1
  | _ => s1

/-- RUN: carries 0, emission from the next accepted flip on, rails regulate; the guards' breaks count anew; a capture
that waits for RUN begins (02 R70, R79; 06 R223; 14 R553; 17 R631). -/
def runEntry (s : State) : State :=
  let s1 := match s.sys.role with
    | .tile => setStageModes (timelineRun (darkenSlot s)) 3
    | .sender => (List.range 8).foldl (fun t o => setOutp t o { outp t o with guardBroken := false, groupBroken := false }) s
    | _ => s
  pairFlags (capOriginAt { s1 with pair.ran := true, pair.leftSafe := false } 1)

/-- A TILE in HOLD with its hold mode: dark, or the display bank repeated (02 R78; 03 R114). -/
def holdMode (dark : Bool) (s : State) : State :=
  if dark then setStageModes (darkenSlot { s with sys.holdDark := true }) 2
  else setStageModes { s with sys.holdDark := false } 3

/-- HOLD. -/
def holdEntry (dark : Bool) (s : State) : State :=
  match s.sys.role with
  | .tile => holdMode dark s
  | .bed => holdBuild s
  | _ => s

/-- The device state changes with a cause: 0 command, 1 READY conditions, 3 firmware up. Leaving SERVICE ends a replay
(14 R563). -/
def enterState (new : DevState) (cause : Nat) (dark : Bool) (s : State) : State :=
  let old := s.sys.st
  let s0 := if old = .service then replayStop s 1 else s
  let s1 := setState s0 new cause
  match new with
  | .standby => standbyEntry s1
  | .ready => readyEntry old s1
  | .run => runEntry s1
  | .hold => holdEntry dark s1
  | .service => calService s1
  | _ => s1

/-! ### SET_STATE (R504, R505) -/

/-- TARGET. -/
def targetState (n : Nat) : Option DevState :=
  match n with
  | 2 => some .standby
  | 3 => some .ready
  | 4 => some .run
  | 5 => some .hold
  | 7 => some .service
  | _ => none

/-- The changes by SET_STATE that R504 lists. -/
def mayChange (s : State) (new : DevState) : Bool :=
  match s.sys.st, new with
  | .ready, .standby => true
  | .hold, .standby => true
  | .service, .standby => true
  | .ready, .run => true
  | .hold, .run => true
  | .run, .hold => true
  | .run, .ready => !(s.sys.role == .bed && (s.bed.build.st == 4 || s.bed.build.st == 5))
  | .hold, .ready => !(s.sys.role == .bed && (s.bed.build.st == 4 || s.bed.build.st == 5))
  | .standby, .service => true
  | _, _ => false

/-- SET_STATE to the present state: the hold mode in HOLD; SEALED is cleared in STANDBY (R502, R504). -/
def sameState (dark : Bool) (s : State) : State :=
  match s.sys.st with
  | .standby => pairFlags { s with sys.sealed := false }
  | .hold => if s.sys.role = .tile ∧ s.sys.holdDark ≠ dark then { holdMode dark s with loops.epoch := s.loops.epoch + 1 } else s
  | _ => s

def bodySetState : Body := fun c s =>
  let dark := bit (pw c 0) 8
  match targetState (pw c 0 % 16) with
  | none => (s, rBad .badParam 0)
  | some new =>
    if s.sys.st = new then (sameState dark s, rOk)
    else if mayChange s new = false then (s, rBad .stateReject 0)
    else if new = .run ∧ s.sys.role = .sender ∧ (List.range 8).any (fun o => !guardsHold s o) then (s, rBad .badParam 0)
    else
      let s1 := if new = .standby then { s with sys.sealed := false } else s
      (pairFlags (enterState new 0 dark s1), rOk)

def opSetState : OpSpec := opTSB 0x03 [] true (some 1)
def execSetState (c : Cmd) (s : State) : Host.Outcome State Fault Refusal := live s (runCmd opSetState noBuild bodySetState c)

/-! ### RESUME (R506) -/

/-- The lowest FATAL source that is latched. -/
def fatalLatched (s : State) : Option Nat := (List.range 64).find? fun i => bit s.spill.status i && severity s i 0 == 3

/-- RESUME: halts of heads are forgotten (11 R421); LEFT_SAFE is set. -/
def bodyResume : Body := fun _ s =>
  match fatalLatched s with
  | some i => (s, rBad .faultActive i)
  | none =>
    if s.sys.role = .bed ∧ (s.sys.emitEnA && s.sys.emitEnB) = false then (s, rBad .faultActive 21) else
    let s1 := { s with bed.heads := s.bed.heads.map fun p => (p.1, { p.2 with haltSeen := false }), pair.leftSafe := true }
    (pairFlags (enterState .standby 0 false s1), rOk)

def opResume : OpSpec := opTSB 0x05 [.safe] true (some 0)
def execResume (c : Cmd) (s : State) : Host.Outcome State Fault Refusal := live s (runCmd opResume noBuild bodyResume c)

/-! ### READY by itself (R503) -/

/-- READY_AUTOMATIC: a sealed device enters READY, or falls back with SEALED kept; a live restart keeps the state. -/
def readyAutomatic (s : State) : State :=
  if pausing s then s
  else if s.sys.st = .standby ∧ s.sys.sealed ∧ readyMet s then enterState .ready 1 false s
  else if s.sys.st = .ready ∧ readyMet s = false then enterState .standby 1 false s
  else s

def execReadyAutomatic (s : State) : Host.Outcome State Fault Refusal := live s readyAutomatic

end Sys2Proof.Machine
end

