-- ==== Sys2Proof/Machine/Startup.lean ====
section
/-! DEFINITION. Reset pins, the boot ROM's choice of an image, coming up, activation and fallback
(18_startup_update R650–R665, R673–R678; 13_mailbox R507; 15 R584). -/

namespace Sys2Proof.Machine

/-! ### The boot ROM's choice (R658, R659, R677, R678) -/

/-- The verification of a slot's image at boot. A delivered image, whose bytes the spec does not give, passes the checks
of its header's fixed fields (log 19). -/
def bootVerify (o : BootObs) (s : State) (k : Nat) : Nat :=
  let x := imgSlot s k
  let sigOk := if k = 0 then o.sigA else o.sigB
  let hashOk := if k = 0 then o.hashA else o.hashB
  if x.data.isEmpty then (if sigOk = false then 3 else if x.hdr.secVer < s.img.floor then 5 else if hashOk = false then 6 else 0)
  else verifyCode s x.data x.hdr sigOk hashOk

/-- A copy of the boot control record that passes its CRC. -/
def goodCopy (o : BootObs) (s : State) (k : Nat) : Option BootRec := if (if k = 0 then o.copy0 else o.copy1) then tabGet none s.img.copies k else none

/-- Step 1 of R659: the good copy with the higher SEQ; with none, ACTIVE = A, both slots VALID and the rest 0. -/
def bootRead (o : BootObs) (s : State) : State :=
  let r := match goodCopy o s 0, goodCopy o s 1 with
    | some x, some y => if x.seq < y.seq then y else x
    | some x, none => x
    | none, some y => y
    | none, none => ⟨0, 0, 0, 2, 2, 0⟩
  { s with
    img.seq := r.seq, img.active := r.active, img.trialBoots := r.trialBoots, img.floor := r.floor
    img.a := { s.img.a with st := r.stA }, img.b := { s.img.b with st := r.stB } }

/-- The boot ROM can start a slot: its state allows it and its image verifies. -/
def startable (o : BootObs) (s : State) (k : Nat) : Bool :=
  let st := (imgSlot s k).st
  st != 0 && st != 1 && st != 5 && bootVerify o s k == 0

/-- The fallback record's 20 bytes (R678). -/
def fallbackBytes (r : FbRecord) : List Byte :=
  let front := [b8 1, b8 r.cause, b8 r.slot, b8 0] ++ leBytes 4 r.build ++ leBytes 8 r.at_
  front ++ leBytes 4 (crc32 front)

/-- The active slot is REJECTED and the other becomes active, with a cause; the fallback record is written (R677). -/
def fallBack (cause : Nat) (s : State) : State :=
  let k := s.img.active
  let r : FbRecord := { slot := k, cause := cause, build := (imgSlot s k).hdr.build, at_ := s.time.loc }
  let s1 := bump (setSlotSt s k 5) 0x10 0 6
  emit (writeBoot { s1 with img.active := 1 - k, img.trialBoots := 0, img.fallback := true, img.report := cause
                            img.record := some r }) (.record 2 1 (fallbackBytes r))

/-- The active slot's firmware starts; a TRIAL image starts the trial watchdog and runs its self-tests. -/
def startImage (s : State) : State :=
  let trial := (imgSlot s s.img.active).st == 3
  { s with img.running := some s.img.active, img.trialAt := if trial then some s.time.loc else none
           img.selftest := if trial then 0 else 3 }

/-- The boot ROM's choice (R659); no slot runs where none can be started. A slot whose state forbids it fails as one that
does not verify. -/
def bootSelect (o : BootObs) (s0 : State) : State :=
  let s := bootRead o s0
  let s1 :=
    if (imgSlot s s.img.active).st ≠ 3 then s
    else if 1 ≤ s.img.trialBoots then fallBack 2 s
    else writeBoot { s with img.trialBoots := 1 }
  if startable o s1 s1.img.active then startImage s1
  else
    let s2 := fallBack 3 s1
    if startable o s2 s2.img.active then startImage s2 else { fallBack 3 s2 with img.running := none, img.trialAt := none }

/-! ### Reset (R650–R653, R663–R665) -/

/-- RESET: emission outputs off, heartbeats stop, NOT_READY; the present operating hour is set aside. -/
def enterReset (s : State) : State :=
  if s.sys.st = .reset then s else
  let s1 := pairQuiet s
  let s2 := match s.sys.role with
    | .tile => darkenSlot s1
    | .bed => cutAllGates s1
    | _ => s1
  { s2 with
    sys.st := .reset, sys.notReady := true, sys.pcieUp := false
    th.age.hourPart := if s.sys.notReady then s.th.age.hourPart else s.time.loc - s.th.age.hourAt }

/-- PORST_N falls (R650). -/
def porstLow (s : State) : State := { held s (enterReset s) with sys.porstLow := true }

def execPorstNAssert (s : State) : Host.Outcome State Fault Refusal := .next (porstLow s)

/-- WRST_N falls; it has no effect while PORST_N is low (R663). -/
def wrstLow (s : State) : State :=
  if s.sys.porstLow ∨ s.sys.wrstLow then { s with sys.wrstLow := true } else { enterReset s with sys.wrstLow := true, sys.wrstAt := s.time.loc }

def execWrstNAssert (s : State) : Host.Outcome State Fault Refusal := liveAny s wrstLow

/-- The role a strap value selects (R7). -/
def strapRole (n : Nat) : Role :=
  match n % 4 with
  | 0 => .tile
  | 1 => .sender
  | 2 => .bed
  | _ => .factory

/-- The ageing histories as the area written last holds them (15 R590). -/
def savedAgeing (s : State) : Ageing :=
  if s.nv.ageLast = 0 then Ageing.cold else { tabGet Ageing.cold s.nv.age (s.nv.ageLast - 1) with hourAt := 0, hourPart := 0 }

/-- The images after a reset: the flash and the fallback record stay; sessions, forwards and activations are lost. -/
def imageKept (m : Image) : Image :=
  { Image.cold with
    a := m.a, b := m.b, copies := m.copies, active := m.active, trialBoots := m.trialBoots, floor := m.floor, seq := m.seq
    fallback := m.fallback, report := m.report, record := m.record, running := none }

/-- Everything at the release of PORST_N but the flash, the record store and the pins (R652). -/
def coldState (role tileId : Nat) (emitA emitB : Bool) (s : State) : State :=
  let r := strapRole role
  { State.reset with
    sys := { Sys.cold r (tileId % 65536) with
      emitEnA := emitA, emitEnB := emitB, emitDiffer := if emitA = emitB then none else some 0, dieFramed := s.sys.dieFramed
      emitEnabled := s.sys.dieFramed, tapInstr := s.sys.tapInstr, free := s.sys.free, wrstLow := s.sys.wrstLow
      st := if s.sys.wrstLow then .reset else .boot, pwrOffReq := s.sys.pwrOffReq }
    time := Time.cold r, th := { Thermal.cold with age := savedAgeing s }, img := imageKept s.img, nv := s.nv, out := s.out
    pending := s.pending }

/-- A held shutdown record and a die still hot keep the device in BOOT (15 R584). -/
def holdsBoot (o : BootObs) (s : State) : Bool := shutHeld s && decide (sgn 16 (leAt s.nv.shutRec 0x1C 2) - 160 ≤ o.hot)

/-- PWR_OFF_REQ takes a level. -/
def drivePwrOff (b : Bool) (s : State) : State :=
  if s.sys.pwrOffReq = b then s else emit { s with sys.pwrOffReq := b } (.pin 0 (b2n b))

/-- PORST_N rises (R652, R659; 15 R584). -/
def porstHigh (role tileId : Nat) (emitA emitB : Bool) (o : BootObs) (s : State) : State :=
  if s.sys.porstLow = false then s else
  let s1 := coldState role tileId emitA emitB s
  let hold := holdsBoot o s1
  let s2 := drivePwrOff hold { s1 with sys.bootHold := hold, sys.shutReport := shutHeld s1 && !hold }
  if hold ∨ s2.sys.role = .factory ∨ s2.sys.wrstLow then s2 else bootSelect o s2

def execPorstNRelease (role tileId : Nat) (emitA emitB : Bool) (o : BootObs) (s : State) : Host.Outcome State Fault Refusal :=
  .next { porstHigh role tileId emitA emitB o s with pending := s.pending }

/-- The time unit after a warm reset: LOCAL, SYSTEM and PROCESS time go on, unlocked (R664; 09 R318). -/
def warmTime (role : Role) (t : Time) : Time :=
  { Time.cold role with
    loc := t.loc, sys := t.sys, stepSum := t.stepSum, process := t.process, resetAt := t.loc, portTick := t.loc
    lastSample := t.loc, lastCount := t.loc }

/-- The temperature monitor goes on; AVS starts anew (R664). -/
def warmThermal (t : Thermal) : Thermal :=
  { t with
    avsMv := 800, avsOld := 800, avsAt := none, slackRun := 0, lowRun := 0, busFails := 0, busStopped := false, retryAt := 0, fixedDone := false
    pendReplan := none }

/-- A TILE keeps its place as its device ID names it (07 R256) and the mode its lane last locked in (08 R282). -/
def warmLink (s : State) : Link :=
  if s.sys.role ≠ .tile then Link.cold else
  { Link.cold with tile := { TileLink.cold with
      position := s.link.tile.position, senderIx := s.link.tile.senderIx, cascade := s.link.tile.cascade } }
def warmLanes (s : State) : Lanes :=
  if s.sys.role ≠ .tile then Lanes.cold else
  { Lanes.cold with lane := tabSet Lane.cold [] 0 { Lane.cold with mode := (lane s 0).lockMode, lockMode := (lane s 0).lockMode } }

/-- The state after WRST_N (R664). -/
def warmState (s : State) : State :=
  { State.reset with
    sys := { Sys.cold s.sys.role s.sys.tileId with
      emitEnA := s.sys.emitEnA, emitEnB := s.sys.emitEnB
      emitDiffer := if s.sys.emitEnA = s.sys.emitEnB then none else some s.time.loc
      dieFramed := s.sys.dieFramed, emitEnabled := s.sys.dieFramed, unassigned := s.sys.unassigned, deviceId := s.sys.deviceId
      pwrOffReq := s.sys.pwrOffReq, bootHold := s.sys.bootHold, shutReport := s.sys.shutReport, tapInstr := s.sys.tapInstr
      debugToken := s.sys.debugToken, stat6Until := s.sys.stat6Until, configGen := s.sys.configGen, free := s.sys.free
      wrstAt := s.sys.wrstAt }
    log := s.log, ctr := s.ctr, cap := s.cap, time := warmTime s.sys.role s.time, link := warmLink s, lanes := warmLanes s
    lamps := { Lamps.cold with lamp := s.lamps.lamp, group := tabMap Group.cold (fun g => { Group.cold with subst := g.subst }) s.lamps.group }
    fret := { Fret.cold with lastSave := s.time.loc }
    th := warmThermal s.th
    img := { imageKept s.img with act := none }
    cal := { Cal.cold with doms := tabMap CalDom.cold (fun d => { CalDom.cold with count := d.count, lastLocal := d.lastLocal, lastSys := d.lastSys }) s.cal.doms }
    bed := { Bed.cold with build := { Build.cold with st := if s.sys.role = .bed ∧ s.bed.build.st ≠ 0 then 8 else 0 } }
    pair := { Pair.cold with ran := s.pair.ran, savedAt := s.pair.savedAt }
    nv := s.nv, dram := s.dram, out := s.out, pending := s.pending }

/-- A line that is still asserted fires again in BOOT (R664). The detail of a failed sensor is its failed check; others
have the detail their condition gives then, which is free. -/
def refire (s : State) (l : Nat × Nat) : State :=
  let d := if l.1 = 32 then failCheck l.2 (sensor s l.2) else (Config.free s.sys.free (0x700 + l.1)) % 2 ^ 32
  nextFree (assertLine s l.1 l.2 d)

/-- The device boots warm: WARM_RESETS, the WARM_RESET entry, the lines, the boot ROM (R664, R659; 14 R549). -/
def warmBoot (o : BootObs) (s : State) : State :=
  let s1 := logAdd (bump (warmState s) 0x10 0 0) 0x0D04 (leBytes 8 s.sys.wrstAt)
  let s2 := s.spill.lines.foldl refire s1
  if s2.sys.bootHold then s2 else bootSelect o s2

/-- WRST_N rises. -/
def wrstHigh (o : BootObs) (s : State) : State :=
  if s.sys.wrstLow = false then s
  else if s.sys.porstLow then { s with sys.wrstLow := false }
  else warmBoot o { s with sys.wrstLow := false }

def execWrstNRelease (o : BootObs) (s : State) : Host.Outcome State Fault Refusal := liveAny s (wrstHigh o)

/-- A warm reset by command, with the effects of WRST_N (R507, R663). -/
def warmReset (o : BootObs) (s : State) : State := warmBoot o { enterReset s with sys.wrstAt := s.time.loc }

/-- WARM_RESET_DELAY_EXPIRY (R507): 1 ms after RESET_WARM. -/
def warmResetDue (o : BootObs) (s : State) : State :=
  match s.sys.warmAt with
  | some t => if s.time.loc < t then s else warmReset o s
  | none => s

def execWarmResetDelayExpiry (o : BootObs) (s : State) : Host.Outcome State Fault Refusal := live s (warmResetDue o)

/-! ### Coming up (R660–R662) -/

/-- Links at the end of BOOT: a TILE's port A, a BED's lanes, a SENDER's ports (R662; 07 R257); its enumerations begin at the
entry to STANDBY. -/
def linksUp (s : State) : State :=
  match s.sys.role with
  | .tile => powerLane s 0
  | .sender => (List.range 8).foldl (fun t p => powerLane t (8 + p)) s
  | .bed => (List.range 16).foldl powerLane s
  | .factory => s

/-- IMAGE_ACTIVATED after an activation in warm mode (R674). -/
def activatedWarm (s : State) : State :=
  match s.img.act with
  | some _ => raise { s with img.act := none } 0x1002 (args [(1, runSlot s), (1, 1), (2, min 0xFFFF ((s.time.loc - s.sys.wrstAt) / msTicks))])
  | none => s

/-- FIRMWARE_UP (R660): the boot calibration run and the restores, whose measurements are the operands; then STANDBY, or
SAFE when a FATAL line was latched. -/
def firmwareUp (bad : List (Nat × Bool)) (lines : List (Nat × List Nat × List Nat)) (ests : List (Nat × Int)) (s : State) : State :=
  if s.sys.st ≠ .boot ∨ s.img.running = none ∨ s.sys.bootHold then s else
  let s1 := bootCal bad lines ests s
  let s2 := if s.sys.role = .tile then wearRestore (fretRestore s1) else s1
  let s3 := irq { s2 with sys.notReady := false, th.age.hourAt := s.time.loc - s.th.age.hourPart } irqFwReady
  let s4 := match fatalLatched s3 with
    | some _ => setState s3 .safe 2
    | none => enterState .standby 3 false s3
  activatedWarm (linksUp s4)

def execFirmwareUp (bad : List (Nat × Bool)) (lines : List (Nat × List Nat × List Nat)) (ests : List (Nat × Int)) (s : State) :
    Host.Outcome State Fault Refusal := live s (firmwareUp bad lines ests)

/-! ### Activation (R673, R674) -/

/-- Another command is accepted and not yet done, or relayed. -/
def othersInFlight (s : State) (tag : Nat) : Bool :=
  !s.link.relays.isEmpty || s.link.bcast.isSome ||
    s.cmds.inFlight.any fun f => f.tag != tag && !(s.cmds.responses.any fun r => r.tag == f.tag && r.ends)

/-- IMAGE_ACTIVATE (R673). A BED takes it in STANDBY and HOLD only (13 R512). -/
def bodyImageActivate : Body := fun c s =>
  let mode := pw c 0 % 4
  let timed := bit (pw c 0) 2
  let t := unshort (sysTicks s) (pw c 2 % 65536 * 2 ^ 32 + pw c 1)
  let now : Int := nowSys s
  if s.sys.role = .bed ∧ s.sys.st ≠ .standby ∧ s.sys.st ≠ .hold then (s, rBad .stateReject 0)
  else if c.len ≠ 3 then (s, rBad .badLength 3)
  else if (imgSlot s (idleSlot s)).st ≠ 2 then (s, rBad .badParam 0)
  else if 1 < mode ∨ (mode = 0 ∧ (imgSlot s (idleSlot s)).hdr.abi ≠ (runHdr s).abi) then (s, rBad .badParam 0)
  else if timed ∧ (t < now + msTicks ∨ now + 60 * secTicks < t) then (s, rBad .badParam 1)
  else if runningTrial s ∨ imgBusy s ∨ s.img.act.isSome ∨ othersInFlight s c.tag then (s, rBad .busy 0)
  else if pairActive s then (s, rBad .busy 0)
  else ({ s with img.act := some { tag := c.tag, mode := mode, at_ := if timed then some t else none } }, rAccepted)

def opImageActivate : OpSpec := opTSB 0xB3 stRdRnHo true none
def execImageActivate (c : Cmd) (s : State) : Host.Outcome State Fault Refusal := live s (runCmd opImageActivate noBuild bodyImageActivate c)

/-- What stops with the supervisor (R674): a SENDER's outputs, which keep their definitions, and a PORT source, which
runs in holdover. -/
def livePause (s : State) : State :=
  if s.sys.role ≠ .sender then s else
  let s1 := withRetire (fun t => { (List.range 8).foldl stopOutput t with send.group := ⟨[], [], []⟩ }) s
  if s.time.source = 1 then enterHoldover s1 else s1

/-- The activation instant: the boot control record, then the restart (R673). -/
def activate (o : BootObs) (a : Activation) (s : State) : State :=
  let k := idleSlot s
  let s1 := writeBoot { setSlotSt s k 3 with img.active := k, img.trialBoots := 0 }
  if a.mode = 1 then { warmReset o s1 with img.act := some a }
  else bootSelect o (livePause { s1 with img.pauseAt := some s.time.loc, sys.notReady := true })

/-- The activation instant has come. -/
def activationCome (s : State) (a : Activation) : Bool :=
  match a.at_ with
  | some t => decide (t ≤ nowSys s)
  | none => true

/-- ACTIVATION_INSTANT: acceptance, or the first instant at or after the given time (R673). -/
def activationDue (o : BootObs) (s : State) : State :=
  match s.img.act with
  | some a =>
    if s.img.pauseAt.isSome ∨ s.sys.st = .boot ∨ activationCome s a = false then s else activate o a s
  | none => s

def execActivationInstant (o : BootObs) (s : State) : Host.Outcome State Fault Refusal := live s (activationDue o)

/-- LIVE_RESTART_END (R674): the new firmware is up. A SENDER's outputs start at the first latch point at least 1 ms later. -/
def liveRestartEnd (s : State) : State :=
  match s.img.pauseAt, s.img.act with
  | some t, some a =>
    if s.img.running = none then s else
    let ms := min 0xFFFF ((s.time.loc - t) / msTicks)
    let s1 := irq { s with img.pauseAt := none, img.act := none, sys.notReady := false } irqFwReady
    let s2 := bootReport (raise s1 0x1002 (args [(1, runSlot s1), (1, 0), (2, ms)]))
    let s3 := cmdEnds s2 a.tag 0xB3 0
    let s4 := if s3.sys.role = .sender ∧ counted s3.sys.st then
      (List.range 8).foldl (fun u p => startOutput (nowSys u + msTicks) u p) s3 else s3
    drainUp 64 s4
  | _, _ => s

def execLiveRestartEnd (s : State) : Host.Outcome State Fault Refusal := live s liveRestartEnd

/-! ### Self-tests and the trial watchdog (R676, R677) -/

/-- SELFTEST_DONE: 0, or the number of the first test that failed, whose fallback the firmware requests at once. -/
def selftestDone (n : Nat) (o : BootObs) (s : State) : State :=
  if runningTrial s = false ∨ s.img.selftest ≠ 0 ∨ s.sys.notReady then s else
  let s1 := raise s 0x1003 (args [(1, n)])
  if n = 0 then
    let s2 := { s1 with img.selftest := 1 }
    if keyU s2 0x1000 0 1 = 1 then confirmImage s2 else s2
  else warmReset o (fallBack 4 { s1 with img.selftest := 2 })

def execSelftestDone (n : Nat) (o : BootObs) (s : State) : Host.Outcome State Fault Refusal := live s (selftestDone n o)

/-- TRIAL_WATCHDOG_EXPIRY: 30 to 36 s after the start of a TRIAL image. -/
def trialExpiry (o : BootObs) (s : State) : State :=
  match s.img.trialAt with
  | some t => if runningTrial s = false ∨ s.time.loc < t + 30 * secTicks then s else warmReset o (fallBack 1 s)
  | none => s

def execTrialWatchdogExpiry (o : BootObs) (s : State) : Host.Outcome State Fault Refusal := live s (trialExpiry o)

end Sys2Proof.Machine
end

