-- ==== Sys2Proof/Machine/Dispatch.lean ====
section
/-! DEFINITION. One arm per constructor of Instr: each a direct call of that command's meaning. -/

namespace Sys2Proof.Machine

def exec (i : Instr) (s : State) : Host.Outcome State Fault Refusal :=
  match i with
  | .getInfo c => Sys2Proof.Machine.execGetInfo c s
  | .getState c => Sys2Proof.Machine.execGetState c s
  | .setState c => Sys2Proof.Machine.execSetState c s
  | .sealConfig c => Sys2Proof.Machine.execSealConfig c s
  | .resume c => Sys2Proof.Machine.execResume c s
  | .resetWarm c => Sys2Proof.Machine.execResetWarm c s
  | .warmResetDelayExpiry o => Sys2Proof.Machine.execWarmResetDelayExpiry o s
  | .getCounters c => Sys2Proof.Machine.execGetCounters c s
  | .eventRead c => Sys2Proof.Machine.execEventRead c s
  | .capoSet c => Sys2Proof.Machine.execCapoSet c s
  | .cfgWrite c => Sys2Proof.Machine.execCfgWrite c s
  | .cfgRead c => Sys2Proof.Machine.execCfgRead c s
  | .cfgCommit c => Sys2Proof.Machine.execCfgCommit c s
  | .cfgCommitDiscard c => Sys2Proof.Machine.execCfgCommitDiscard c s
  | .enumerate c => Sys2Proof.Machine.execEnumerate c s
  | .topoRead c => Sys2Proof.Machine.execTopoRead c s
  | .linkStatus c => Sys2Proof.Machine.execLinkStatus c s
  | .redundancySwitchHandover c => Sys2Proof.Machine.execRedundancySwitchHandover c s
  | .redundancySwitchForce c => Sys2Proof.Machine.execRedundancySwitchForce c s
  | .redundancyStatus c => Sys2Proof.Machine.execRedundancyStatus c s
  | .redundancyStatusSaved c => Sys2Proof.Machine.execRedundancyStatusSaved c s
  | .layerDefine c => Sys2Proof.Machine.execLayerDefine c s
  | .layerCommit c => Sys2Proof.Machine.execLayerCommit c s
  | .bufferRegister c => Sys2Proof.Machine.execBufferRegister c s
  | .bufferRelease c => Sys2Proof.Machine.execBufferRelease c s
  | .mapDefine c => Sys2Proof.Machine.execMapDefine c s
  | .outputTiming c => Sys2Proof.Machine.execOutputTiming c s
  | .crcRectSet c => Sys2Proof.Machine.execCrcRectSet c s
  | .crcResultRead c => Sys2Proof.Machine.execCrcResultRead c s
  | .streamBind c => Sys2Proof.Machine.execStreamBind c s
  | .fretboardLoad c => Sys2Proof.Machine.execFretboardLoad c s
  | .fretboardRead c => Sys2Proof.Machine.execFretboardRead c s
  | .fretboardCommit c => Sys2Proof.Machine.execFretboardCommit c s
  | .fretboardCommitDiscard c => Sys2Proof.Machine.execFretboardCommitDiscard c s
  | .lampHealthRead c => Sys2Proof.Machine.execLampHealthRead c s
  | .driveSet c => Sys2Proof.Machine.execDriveSet c s
  | .brightnessSet c => Sys2Proof.Machine.execBrightnessSet c s
  | .wearRead c => Sys2Proof.Machine.execWearRead c s
  | .headDefine c => Sys2Proof.Machine.execHeadDefine c s
  | .fieldCorrLoad c => Sys2Proof.Machine.execFieldCorrLoad c s
  | .buildLoad c => Sys2Proof.Machine.execBuildLoad c s
  | .buildArm c => Sys2Proof.Machine.execBuildArm c s
  | .buildStart c => Sys2Proof.Machine.execBuildStart c s
  | .buildPause c => Sys2Proof.Machine.execBuildPause c s
  | .buildAbort c => Sys2Proof.Machine.execBuildAbort c s
  | .axisMoveAbsolute c => Sys2Proof.Machine.execAxisMoveAbsolute c s
  | .axisMoveRelative c => Sys2Proof.Machine.execAxisMoveRelative c s
  | .axisDecelerate c => Sys2Proof.Machine.execAxisDecelerate c s
  | .axisFollow c => Sys2Proof.Machine.execAxisFollow c s
  | .axisEndFollowing c => Sys2Proof.Machine.execAxisEndFollowing c s
  | .axisQuickStop c => Sys2Proof.Machine.execAxisQuickStop c s
  | .axisHomeSet c => Sys2Proof.Machine.execAxisHomeSet c s
  | .axisHomeSearch c => Sys2Proof.Machine.execAxisHomeSearch c s
  | .plumeGuardSet c => Sys2Proof.Machine.execPlumeGuardSet c s
  | .headReference c => Sys2Proof.Machine.execHeadReference c s
  | .loopDefine c => Sys2Proof.Machine.execLoopDefine c s
  | .loopLutLoad c => Sys2Proof.Machine.execLoopLutLoad c s
  | .loopEnable c => Sys2Proof.Machine.execLoopEnable c s
  | .setpointSet c => Sys2Proof.Machine.execSetpointSet c s
  | .traceArmArm c => Sys2Proof.Machine.execTraceArmArm c s
  | .traceArmTrigger c => Sys2Proof.Machine.execTraceArmTrigger c s
  | .traceArmDisarm c => Sys2Proof.Machine.execTraceArmDisarm c s
  | .traceRead c => Sys2Proof.Machine.execTraceRead c s
  | .timeGet c => Sys2Proof.Machine.execTimeGet c s
  | .timeSourceSet c => Sys2Proof.Machine.execTimeSourceSet c s
  | .timeSourceUpdatePath c => Sys2Proof.Machine.execTimeSourceUpdatePath c s
  | .tsQueueRead c => Sys2Proof.Machine.execTsQueueRead c s
  | .windowSet c => Sys2Proof.Machine.execWindowSet c s
  | .faultRead c => Sys2Proof.Machine.execFaultRead c s
  | .faultClear c => Sys2Proof.Machine.execFaultClear c s
  | .faultInject c => Sys2Proof.Machine.execFaultInject c s
  | .logRead c => Sys2Proof.Machine.execLogRead c s
  | .captureStart c => Sys2Proof.Machine.execCaptureStart c s
  | .captureStop c => Sys2Proof.Machine.execCaptureStop c s
  | .captureStatus c => Sys2Proof.Machine.execCaptureStatus c s
  | .captureRead c => Sys2Proof.Machine.execCaptureRead c s
  | .replayLoad c => Sys2Proof.Machine.execReplayLoad c s
  | .replayRun c => Sys2Proof.Machine.execReplayRun c s
  | .replayFeed c => Sys2Proof.Machine.execReplayFeed c s
  | .replayAbort c => Sys2Proof.Machine.execReplayAbort c s
  | .fenceRelease c => Sys2Proof.Machine.execFenceRelease c s
  | .thermalRead c => Sys2Proof.Machine.execThermalRead c s
  | .thermalLimitsSet c => Sys2Proof.Machine.execThermalLimitsSet c s
  | .ageingReport c => Sys2Proof.Machine.execAgeingReport c s
  | .marginReplan c => Sys2Proof.Machine.execMarginReplan c s
  | .calRun c => Sys2Proof.Machine.execCalRun c s
  | .calStatus c => Sys2Proof.Machine.execCalStatus c s
  | .imageBegin c => Sys2Proof.Machine.execImageBegin c s
  | .imageChunk c => Sys2Proof.Machine.execImageChunk c s
  | .imageEnd c => Sys2Proof.Machine.execImageEnd c s
  | .imageActivate c => Sys2Proof.Machine.execImageActivate c s
  | .imageConfirm c => Sys2Proof.Machine.execImageConfirm c s
  | .imageForward c => Sys2Proof.Machine.execImageForward c s
  | .imageStatus c => Sys2Proof.Machine.execImageStatus c s
  | .laneStatus c => Sys2Proof.Machine.execLaneStatus c s
  | .laneLoopback c => Sys2Proof.Machine.execLaneLoopback c s
  | .laneBitslipTest c => Sys2Proof.Machine.execLaneBitslipTest c s
  | .laneBitslipSlip c => Sys2Proof.Machine.execLaneBitslipSlip c s
  | .laneBitslipAuto c => Sys2Proof.Machine.execLaneBitslipAuto c s
  | .laneEyeScanStart c => Sys2Proof.Machine.execLaneEyeScanStart c s
  | .laneEyeScanRead c => Sys2Proof.Machine.execLaneEyeScanRead c s
  | .undefinedOpcode op c => Sys2Proof.Machine.execUndefinedOpcode op c s
  | .mbxDoorbell n => Sys2Proof.Machine.execMbxDoorbell n s
  | .commandResponse => Sys2Proof.Machine.execCommandResponse s
  | .crTailWrite v => Sys2Proof.Machine.execCrTailWrite v s
  | .ringEntryFetch entry => Sys2Proof.Machine.execRingEntryFetch entry s
  | .ringResponseWrite => Sys2Proof.Machine.execRingResponseWrite s
  | .crCtrlWrite v => Sys2Proof.Machine.execCrCtrlWrite v s
  | .eqCtrlWrite v => Sys2Proof.Machine.execEqCtrlWrite v s
  | .eqHeadWrite v => Sys2Proof.Machine.execEqHeadWrite v s
  | .eventRecordWrite => Sys2Proof.Machine.execEventRecordWrite s
  | .eventCoalesceExpiry => Sys2Proof.Machine.execEventCoalesceExpiry s
  | .ringDmaError queue => Sys2Proof.Machine.execRingDmaError queue s
  | .eqStatusRead => Sys2Proof.Machine.execEqStatusRead s
  | .irqStatusWrite v => Sys2Proof.Machine.execIrqStatusWrite v s
  | .mbxStatusWrite n v => Sys2Proof.Machine.execMbxStatusWrite n v s
  | .timeLatch => Sys2Proof.Machine.execTimeLatch s
  | .registerWrite off width v => Sys2Proof.Machine.execRegisterWrite off width v s
  | .bar2Write off data => Sys2Proof.Machine.execBar2Write off data s
  | .bar2Read off n => Sys2Proof.Machine.execBar2Read off n s
  | .spiTransaction bytes => Sys2Proof.Machine.execSpiTransaction bytes s
  | .serviceDatagram origin version kind seq words => Sys2Proof.Machine.execServiceDatagram origin version kind seq words s
  | .serviceArp ip asker => Sys2Proof.Machine.execServiceArp ip asker s
  | .serviceEventDatagram => Sys2Proof.Machine.execServiceEventDatagram s
  | .pcieLinkLoss => Sys2Proof.Machine.execPcieLinkLoss s
  | .pcieHotReset => Sys2Proof.Machine.execPcieHotReset s
  | .porstNAssert => Sys2Proof.Machine.execPorstNAssert s
  | .porstNRelease role tileId emitA emitB o => Sys2Proof.Machine.execPorstNRelease role tileId emitA emitB o s
  | .wrstNAssert => Sys2Proof.Machine.execWrstNAssert s
  | .wrstNRelease o => Sys2Proof.Machine.execWrstNRelease o s
  | .firmwareUp bad lines ests => Sys2Proof.Machine.execFirmwareUp bad lines ests s
  | .dramTrainingDone ok7500 ok6400 => Sys2Proof.Machine.execDramTrainingDone ok7500 ok6400 s
  | .readyAutomatic => Sys2Proof.Machine.execReadyAutomatic s
  | .emitEnFall a b => Sys2Proof.Machine.execEmitEnFall a b s
  | .emitEnRise a b => Sys2Proof.Machine.execEmitEnRise a b s
  | .emitEnDiscrepancy => Sys2Proof.Machine.execEmitEnDiscrepancy s
  | .dieLinkFramingLoss => Sys2Proof.Machine.execDieLinkFramingLoss s
  | .clockRootLoss refclk => Sys2Proof.Machine.execClockRootLoss refclk s
  | .clockDerivedFail clock => Sys2Proof.Machine.execClockDerivedFail clock s
  | .supplyOutOfWindow supply => Sys2Proof.Machine.execSupplyOutOfWindow supply s
  | .supervisorFault watchdog => Sys2Proof.Machine.execSupervisorFault watchdog s
  | .sramEccError uncorr table entry kind inst word => Sys2Proof.Machine.execSramEccError uncorr table entry kind inst word s
  | .dramEccUncorr kind inst addr => Sys2Proof.Machine.execDramEccUncorr kind inst addr s
  | .spillwayFiring src inst detail line => Sys2Proof.Machine.execSpillwayFiring src inst detail line s
  | .injectionWindowClose => Sys2Proof.Machine.execInjectionWindowClose s
  | .laneLossOfSignal l => Sys2Proof.Machine.execLaneLossOfSignal l s
  | .laneSignalReturn l => Sys2Proof.Machine.execLaneSignalReturn l s
  | .linkTrainingDone l eye ctle vga dfe txffe snr tap1Over preAsked markAsked => Sys2Proof.Machine.execLinkTrainingDone l eye ctle vga dfe txffe snr tap1Over preAsked markAsked s
  | .trainingTimeout l cause => Sys2Proof.Machine.execTrainingTimeout l cause s
  | .rateSearchDwellExpiry => Sys2Proof.Machine.execRateSearchDwellExpiry s
  | .alignmentAttempt l at_ results => Sys2Proof.Machine.execAlignmentAttempt l at_ results s
  | .markerHit l hit => Sys2Proof.Machine.execMarkerHit l hit s
  | .markerHuntTimeout l => Sys2Proof.Machine.execMarkerHuntTimeout l s
  | .laneLock l => Sys2Proof.Machine.execLaneLock l s
  | .laneLockLoss l => Sys2Proof.Machine.execLaneLockLoss l s
  | .densityWindowEnd l window => Sys2Proof.Machine.execDensityWindowEnd l window s
  | .adaptationStep l dCtle dVga dDfe snr => Sys2Proof.Machine.execAdaptationStep l dCtle dVga dDfe snr s
  | .snapshotPeriodExpiry l => Sys2Proof.Machine.execSnapshotPeriodExpiry l s
  | .driftCheck l => Sys2Proof.Machine.execDriftCheck l s
  | .laneFault l cause => Sys2Proof.Machine.execLaneFault l cause s
  | .eyeScanDone l codes => Sys2Proof.Machine.execEyeScanDone l codes s
  | .hourlyEyeScan l eye => Sys2Proof.Machine.execHourlyEyeScan l eye s
  | .sourcePortStart p => Sys2Proof.Machine.execSourcePortStart p s
  | .sourcePortChange p lock corrected uncorr => Sys2Proof.Machine.execSourcePortChange p lock corrected uncorr s
  | .ethernetFrame p len fcs dst arpFor asker => Sys2Proof.Machine.execEthernetFrame p len fcs dst arpFor asker s
  | .streamPacket port vid dst src udp pt ts marker rows => Sys2Proof.Machine.execStreamPacket port vid dst src udp pt ts marker rows s
  | .streamTimeout k => Sys2Proof.Machine.execStreamTimeout k s
  | .ptpMessage port kind credit twoStep domain clock rank seq stamp time corr => Sys2Proof.Machine.execPtpMessage port kind credit twoStep domain clock rank seq stamp time corr s
  | .ptpAnnounceTimeout port => Sys2Proof.Machine.execPtpAnnounceTimeout port s
  | .ptpDelayReqSend port stamp => Sys2Proof.Machine.execPtpDelayReqSend port stamp s
  | .wotorCodeword port fec cells => Sys2Proof.Machine.execWotorCodeword port fec cells s
  | .dataCell port payload => Sys2Proof.Machine.execDataCell port payload s
  | .syncTimeCell port at_ root flags stamp => Sys2Proof.Machine.execSyncTimeCell port at_ root flags stamp s
  | .flipCell port frame at_ => Sys2Proof.Machine.execFlipCell port frame at_ s
  | .frameStartCell port num w h vm1 => Sys2Proof.Machine.execFrameStartCell port num w h vm1 s
  | .tileCrcCell port num crcs => Sys2Proof.Machine.execTileCrcCell port num crcs s
  | .decisionCell port num rep => Sys2Proof.Machine.execDecisionCell port num rep s
  | .replyCell port frame dev flags lates => Sys2Proof.Machine.execReplyCell port frame dev flags lates s
  | .mgmtCell port kind frag last bc dest src tag data => Sys2Proof.Machine.execMgmtCell port kind frag last bc dest src tag data s
  | .mgmtMessage => Sys2Proof.Machine.execMgmtMessage s
  | .enumToken port pos sender cascade full epoch => Sys2Proof.Machine.execEnumToken port pos sender cascade full epoch s
  | .enumReport port pos dev uid major minor flags straps epoch => Sys2Proof.Machine.execEnumReport port pos dev uid major minor flags straps epoch s
  | .enumGeometry port dest x y rw rh wc hc vm1 epoch => Sys2Proof.Machine.execEnumGeometry port dest x y rw rh wc hc vm1 epoch s
  | .enumHopTimeout signal => Sys2Proof.Machine.execEnumHopTimeout signal s
  | .enumEndTimeout n => Sys2Proof.Machine.execEnumEndTimeout n s
  | .portBLocked => Sys2Proof.Machine.execPortBLocked s
  | .heartCell port src state flags => Sys2Proof.Machine.execHeartCell port src state flags s
  | .takeoverNotice port => Sys2Proof.Machine.execTakeoverNotice port s
  | .delayRequestCell port probe t1 src bitB arrival departure => Sys2Proof.Machine.execDelayRequestCell port probe t1 src bitB arrival departure s
  | .delayResponseCell port probe t1 t2 t3 arrival => Sys2Proof.Machine.execDelayResponseCell port probe t1 t2 t3 arrival s
  | .delayPeriodExpiry port stamp => Sys2Proof.Machine.execDelayPeriodExpiry port stamp s
  | .delayAnswerTimeout port => Sys2Proof.Machine.execDelayAnswerTimeout port s
  | .hopDelay => Sys2Proof.Machine.execHopDelay s
  | .pathTableUpdate => Sys2Proof.Machine.execPathTableUpdate s
  | .markCell port seq width => Sys2Proof.Machine.execMarkCell port seq width s
  | .bundleChange first => Sys2Proof.Machine.execBundleChange first s
  | .syncTimeSend port stamp => Sys2Proof.Machine.execSyncTimeSend port stamp s
  | .timeSamplePort => Sys2Proof.Machine.execTimeSamplePort s
  | .holdoverEntry => Sys2Proof.Machine.execHoldoverEntry s
  | .holdoverLimitExpiry => Sys2Proof.Machine.execHoldoverLimitExpiry s
  | .windowOpen => Sys2Proof.Machine.execWindowOpen s
  | .windowClose => Sys2Proof.Machine.execWindowClose s
  | .fsyncInEdge => Sys2Proof.Machine.execFsyncInEdge s
  | .processTimeLimit => Sys2Proof.Machine.execProcessTimeLimit s
  | .tileStepApply => Sys2Proof.Machine.execTileStepApply s
  | .decisionInstant => Sys2Proof.Machine.execDecisionInstant s
  | .readinessCheck => Sys2Proof.Machine.execReadinessCheck s
  | .flipTime => Sys2Proof.Machine.execFlipTime s
  | .nominalFrameEnd => Sys2Proof.Machine.execNominalFrameEnd s
  | .slotBoundary obs => Sys2Proof.Machine.execSlotBoundary obs s
  | .slotCompute inTime => Sys2Proof.Machine.execSlotCompute inTime s
  | .switchStageFault stage cause => Sys2Proof.Machine.execSwitchStageFault stage cause s
  | .railLimit stage => Sys2Proof.Machine.execRailLimit stage s
  | .wearTransfer => Sys2Proof.Machine.execWearTransfer s
  | .wearStep => Sys2Proof.Machine.execWearStep s
  | .wearSave => Sys2Proof.Machine.execWearSave s
  | .fretboardExchange => Sys2Proof.Machine.execFretboardExchange s
  | .fretboardCopyDone => Sys2Proof.Machine.execFretboardCopyDone s
  | .fretboardPersistDone => Sys2Proof.Machine.execFretboardPersistDone s
  | .upstreamLost => Sys2Proof.Machine.execUpstreamLost s
  | .upstreamSwitched port => Sys2Proof.Machine.execUpstreamSwitched port s
  | .holdLimitExpiry => Sys2Proof.Machine.execHoldLimitExpiry s
  | .upstreamLostHeartRepeat => Sys2Proof.Machine.execUpstreamLostHeartRepeat s
  | .ringOpen port => Sys2Proof.Machine.execRingOpen port s
  | .ringRestored port => Sys2Proof.Machine.execRingRestored port s
  | .mgmtTimeout => Sys2Proof.Machine.execMgmtTimeout s
  | .latchPoint o => Sys2Proof.Machine.execLatchPoint o s
  | .outputLine o under => Sys2Proof.Machine.execOutputLine o under s
  | .lineMatch o => Sys2Proof.Machine.execLineMatch o s
  | .frameStartSend o => Sys2Proof.Machine.execFrameStartSend o s
  | .flipCellSend o => Sys2Proof.Machine.execFlipCellSend o s
  | .frameDone o => Sys2Proof.Machine.execFrameDone o s
  | .groupDecision => Sys2Proof.Machine.execGroupDecision s
  | .flipGuardCheck => Sys2Proof.Machine.execFlipGuardCheck s
  | .frameResync o => Sys2Proof.Machine.execFrameResync o s
  | .headFrameInstant enc => Sys2Proof.Machine.execHeadFrameInstant enc s
  | .headUpstreamFrame h crcOk seq laser fault ex ey ez mon mp cam stamp => Sys2Proof.Machine.execHeadUpstreamFrame h crcOk seq laser fault ex ey ez mon mp cam stamp s
  | .headFrameMissing h => Sys2Proof.Machine.execHeadFrameMissing h s
  | .headLinkChange h => Sys2Proof.Machine.execHeadLinkChange h s
  | .headLinkFault h => Sys2Proof.Machine.execHeadLinkFault h s
  | .haltBlock h header block => Sys2Proof.Machine.execHaltBlock h header block s
  | .haltReleased h => Sys2Proof.Machine.execHaltReleased h s
  | .headReferenceDone h => Sys2Proof.Machine.execHeadReferenceDone h s
  | .buildArmDone => Sys2Proof.Machine.execBuildArmDone s
  | .startTick => Sys2Proof.Machine.execStartTick s
  | .jetBoundary h => Sys2Proof.Machine.execJetBoundary h s
  | .runDecision => Sys2Proof.Machine.execRunDecision s
  | .gateEdge h => Sys2Proof.Machine.execGateEdge h s
  | .jetQueueRefill h => Sys2Proof.Machine.execJetQueueRefill h s
  | .anchorWaitEnd h => Sys2Proof.Machine.execAnchorWaitEnd h s
  | .buildPaused => Sys2Proof.Machine.execBuildPaused s
  | .buildDone => Sys2Proof.Machine.execBuildDone s
  | .summaryWrite h => Sys2Proof.Machine.execSummaryWrite h s
  | .setpointSignature h => Sys2Proof.Machine.execSetpointSignature h s
  | .axisStep a => Sys2Proof.Machine.execAxisStep a s
  | .axisDone a => Sys2Proof.Machine.execAxisDone a s
  | .stepInEdge input fwd => Sys2Proof.Machine.execStepInEdge input fwd s
  | .encoderZEdge a => Sys2Proof.Machine.execEncoderZEdge a s
  | .homingDone a => Sys2Proof.Machine.execHomingDone a s
  | .homingTimeout a => Sys2Proof.Machine.execHomingTimeout a s
  | .stringFactorLatch => Sys2Proof.Machine.execStringFactorLatch s
  | .stageSoftstartDone stage ok => Sys2Proof.Machine.execStageSoftstartDone stage ok s
  | .headLoopUpdate h => Sys2Proof.Machine.execHeadLoopUpdate h s
  | .stringLoopUpdate n sample => Sys2Proof.Machine.execStringLoopUpdate n sample s
  | .headroomLoopUpdate n => Sys2Proof.Machine.execHeadroomLoopUpdate n s
  | .loopDelaySet h => Sys2Proof.Machine.execLoopDelaySet h s
  | .traceTrigger src arg => Sys2Proof.Machine.execTraceTrigger src arg s
  | .traceDone => Sys2Proof.Machine.execTraceDone s
  | .tempConversion v => Sys2Proof.Machine.execTempConversion v s
  | .throttleStep => Sys2Proof.Machine.execThrottleStep s
  | .thermalStop => Sys2Proof.Machine.execThermalStop s
  | .avsTick slack mv ma10 ok => Sys2Proof.Machine.execAvsTick slack mv ma10 ok s
  | .avsbusRetry ok => Sys2Proof.Machine.execAvsbusRetry ok s
  | .ageingSample ratio sLo sHi vLo vHi => Sys2Proof.Machine.execAgeingSample ratio sLo sHi vLo vHi s
  | .ageingSave => Sys2Proof.Machine.execAgeingSave s
  | .replanDue => Sys2Proof.Machine.execReplanDue s
  | .calStepDue d => Sys2Proof.Machine.execCalStepDue d s
  | .calStepDone d inst o => Sys2Proof.Machine.execCalStepDone d inst o s
  | .quietInstant inst hits => Sys2Proof.Machine.execQuietInstant inst hits s
  | .quietInstantTimeout inst hits => Sys2Proof.Machine.execQuietInstantTimeout inst hits s
  | .slicerFirstStep l => Sys2Proof.Machine.execSlicerFirstStep l s
  | .heartbeatSend => Sys2Proof.Machine.execHeartbeatSend s
  | .hbInEdge width => Sys2Proof.Machine.execHbInEdge width s
  | .heartbeatSilence => Sys2Proof.Machine.execHeartbeatSilence s
  | .pairYield => Sys2Proof.Machine.execPairYield s
  | .pairStartWaitExpiry => Sys2Proof.Machine.execPairStartWaitExpiry s
  | .autoSwitchback => Sys2Proof.Machine.execAutoSwitchback s
  | .handoverInstant cause => Sys2Proof.Machine.execHandoverInstant cause s
  | .snapshotSend => Sys2Proof.Machine.execSnapshotSend s
  | .peerRecord bytes => Sys2Proof.Machine.execPeerRecord bytes s
  | .savedStateCopy => Sys2Proof.Machine.execSavedStateCopy s
  | .captureOrigin => Sys2Proof.Machine.execCaptureOrigin s
  | .captureCheckpoint => Sys2Proof.Machine.execCaptureCheckpoint s
  | .captureEnd lost => Sys2Proof.Machine.execCaptureEnd lost s
  | .replayDone => Sys2Proof.Machine.execReplayDone s
  | .imageVerified sigOk hashOk => Sys2Proof.Machine.execImageVerified sigOk hashOk s
  | .activationInstant o => Sys2Proof.Machine.execActivationInstant o s
  | .liveRestartEnd => Sys2Proof.Machine.execLiveRestartEnd s
  | .selftestDone n o => Sys2Proof.Machine.execSelftestDone n o s
  | .trialWatchdogExpiry o => Sys2Proof.Machine.execTrialWatchdogExpiry o s
  | .forwardChunkResponse tag status => Sys2Proof.Machine.execForwardChunkResponse tag status s
  | .forwardDone status => Sys2Proof.Machine.execForwardDone status s
  | .pcieLinkUp => Sys2Proof.Machine.execPcieLinkUp s
  | .pairPrimaryStartExpiry => Sys2Proof.Machine.execPairPrimaryStartExpiry s
  | .takeoverNoticeRepeat => Sys2Proof.Machine.execTakeoverNoticeRepeat s
  | .dieLinkFramed => Sys2Proof.Machine.execDieLinkFramed s
  | .freeSourceLockDelay => Sys2Proof.Machine.execFreeSourceLockDelay s
  | .flashEraseDone n => Sys2Proof.Machine.execFlashEraseDone n s
  | .tapInstruction ir valid => Sys2Proof.Machine.execTapInstruction ir valid s
  | .slackBelowOneTap => Sys2Proof.Machine.execSlackBelowOneTap s

end Sys2Proof.Machine
end

