-- ==== Sys2Proof/Machine/Idle.lean ====
section
/-! DEFINITION. One EMIT_CLK cycle with no command: the time counters move, and codewords that are due leave (DESIGN CHOICE,
logs 6 and 65). -/

namespace Sys2Proof.Machine

/-- Ticks of one EMIT_CLK cycle (01_architecture, the clocks: 312.5 MHz, 3.2 ns). -/
def cycleTicks : Nat := 32

/-- SYSTEM time advances by `n` ticks at 1 + f + s (09_time R325), in 2⁻³² tick. -/
def sysAdvance (t : Time) (n : Nat) : Nat :=
  uns 128 ((t.sys : Int) + fdiv ((n : Int) * 2 ^ 32 * (1000000000000 + t.f + t.s)) 1000000000000)

/-- LOCAL, SYSTEM and PROCESS time after `n` ticks (09_time R318, R325, R343). -/
def timeAdvance (t : Time) (n : Nat) : Time :=
  { t with
    loc := (t.loc + n) % 2 ^ 64
    sys := sysAdvance t n
    process := if t.processRun then min (2 ^ 48 - 1) (t.process + (sysAdvance t n / 2 ^ 32 - t.sys / 2 ^ 32)) else t.process }

/-- The time counters after one cycle. -/
def cycleTime (s : State) : State := { s with time := timeAdvance s.time cycleTicks }

/-- The step on an empty queue. No time is kept while PORST_N is low; it goes on through a warm reset (R318), in which no
port sends. -/
def idleCycle (s : State) : State :=
  if s.sys.porstLow then s
  else if s.sys.st = .reset then cycleTime s
  else transmit (cycleTime s)

end Sys2Proof.Machine
end

