-- ==== Sys2Proof/Machine/Pins.lean ====
section
/-! DEFINITION. The package and its pins: ball and FLEX assignment, status outputs, pin states outside operation, line
levels (19_pins_electrical R684–R689; 18_startup_update R653; 01_architecture R19–R21). -/

namespace Sys2Proof.Machine

/-! ### Balls (R684, R685) -/

/-- What a ball of the sink field carries. -/
inductive FieldBall where
  | sink (n : Nat) | ground
deriving DecidableEq, Repr

/-- The ball of a row and column of the sink field: rows 23–54, columns 1–54. -/
def fieldBall (row col : Nat) : FieldBall :=
  let k := (row - 23) * 54 + (col - 1)
  if k % 18 ≤ 15 then .sink (16 * (k / 18) + k % 18) else .ground

/-- Row and column of a sink's ball. -/
def sinkBall (n : Nat) : Nat × Nat :=
  let k := n / 16 * 18 + n % 16
  (23 + k / 54, k % 54 + 1)

/-- A signal or supply of the package blocks A to D. -/
inductive Ball where
  | sig (name : String) (n : Nat)
  | supply (name : String)
deriving DecidableEq, Repr

/-- `k` balls of a supply. -/
def supplyBalls (name : String) (k : Nat) : List Ball := List.replicate k (.supply name)

/-- The balls of a block in row-major order. -/
def ballsA : List Ball :=
  (List.range 16).flatMap (fun n => [.sig "LN_TXP" n, .sig "LN_TXN" n, .sig "LN_RXP" n, .sig "LN_RXN" n]) ++
    supplyBalls "VDDA_LN" 24 ++ supplyBalls "VDDH_LN" 16 ++ supplyBalls "VSS" 112

/-- The 37 signals of an LPDDR5X channel; `n` is channel × 64 + the signal's index of its name. -/
def ddrBalls (c : Nat) : List Ball :=
  (List.range 16).map (fun i => Ball.sig "DDR_DQ" (c * 64 + i)) ++ (List.range 2).map (fun i => Ball.sig "DDR_DMI" (c * 64 + i)) ++
    ["DDR_RDQS0_T", "DDR_RDQS0_C", "DDR_RDQS1_T", "DDR_RDQS1_C", "DDR_WCK0_T", "DDR_WCK0_C", "DDR_WCK1_T", "DDR_WCK1_C"].map
      (fun x => Ball.sig x (c * 64)) ++
    (List.range 7).map (fun i => Ball.sig "DDR_CA" (c * 64 + i)) ++ (List.range 2).map (fun i => Ball.sig "DDR_CS" (c * 64 + i)) ++
    [.sig "DDR_CK_T" (c * 64), .sig "DDR_CK_C" (c * 64)]
def ballsB : List Ball :=
  (List.range 8).flatMap ddrBalls ++ [.sig "DDR_RESET_N" 0, .sig "DDR_ZQ" 0] ++ supplyBalls "VDDQ" 24 ++ supplyBalls "VDD2H" 16 ++
    supplyBalls "VDD2L" 16 ++ supplyBalls "VSS" 24

/-- The dedicated signals in the order of R686. -/
def dedicated : List String :=
  ["REFCLK_P", "REFCLK_N", "PORST_N", "WRST_N", "ROLE0", "ROLE1", "EMIT_EN_A", "EMIT_EN_B", "HB_IN_P", "HB_IN_N", "HB_OUT_P",
   "HB_OUT_N", "PWR_OFF_REQ", "ALERT_N", "AVS_CLK", "AVS_MDATA", "AVS_SDATA", "TCK", "TMS", "TDI", "TDO", "TRST_N"]
def ballsC : List Ball :=
  (List.range 4).flatMap (fun n => [Ball.sig "PCIE_TXP" n, .sig "PCIE_TXN" n, .sig "PCIE_RXP" n, .sig "PCIE_RXN" n]) ++
    [.sig "XSPI_SCK" 0, .sig "XSPI_CS_N" 0, .sig "XSPI_DQS" 0] ++ (List.range 8).map (fun i => Ball.sig "XSPI_IO" i) ++
    [.sig "XSPI_RESET_N" 0, .sig "SVC_TXP" 0, .sig "SVC_TXN" 0, .sig "SVC_RXP" 0, .sig "SVC_RXN" 0] ++
    dedicated.map (fun x => Ball.sig x 0) ++ (List.range 84).map (fun i => Ball.sig "FLEX" (12 + i)) ++
    supplyBalls "VDD_CORE" 96 ++ supplyBalls "VDD_SRAM" 24 ++ supplyBalls "VIO18" 16 ++ supplyBalls "VIO33" 8 ++ supplyBalls "VSS" 150
def ballsD : List Ball :=
  (List.range 12).map (fun i => Ball.sig "FLEX" i) ++
    (List.range 12).flatMap (fun n => [.sig "STG_GH" n, .sig "STG_GL" n, .sig "STG_SW" n, .sig "STG_CS_P" n, .sig "STG_CS_N" n,
      .sig "STG_FB" n]) ++
    (List.range 12).map (fun i => Ball.sig "SHG" i) ++ (List.range 4).map (fun i => Ball.sig "NTC" i) ++ supplyBalls "VEMIT" 16 ++
    supplyBalls "VSS" 46

/-! ### FLEX pins (R687, R689; 01 R19, R20) -/

/-- What a FLEX pin does in a role. -/
inductive FlexPin where
  | scClk (c : Nat) | scData (c : Nat) | scLatch (c : Nat) | scOe (c : Nat)
  | low | unused
  | tileIdStrap (n : Nat) | spiSck | spiMosi | spiMiso | spiCsN | stat (n : Nat)
  | fsyncInP | fsyncInN | fsyncOutP | fsyncOutN
  | lgateP (h : Nat) | lgateN (h : Nat) | step (a : Nat) | dir (a : Nat)
  | encA (a : Nat) | encB (a : Nat) | encZ (a : Nat) | stepIn (n : Nat) | dirIn (n : Nat)
deriving DecidableEq, Repr

/-- The scan pins of a TILE. -/
def scanPin (n : Nat) : FlexPin :=
  match n % 4 with
  | 0 => .scClk (n / 4)
  | 1 => .scData (n / 4)
  | 2 => .scLatch (n / 4)
  | _ => .scOe (n / 4)

/-- The pin's function (R687). -/
def flexPin (r : Role) (n : Nat) : FlexPin :=
  match r with
  | .tile =>
    if n < 12 then scanPin n
    else if n < 28 then .tileIdStrap (n - 12)
    else if n < 32 then ([FlexPin.spiSck, .spiMosi, .spiMiso, .spiCsN].getD (n - 28) .unused)
    else if n < 40 then .stat (n - 32) else .unused
  | .sender =>
    if n < 12 then .low
    else if n < 16 then ([FlexPin.fsyncInP, .fsyncInN, .fsyncOutP, .fsyncOutN].getD (n - 12) .unused) else .unused
  | .bed =>
    if n < 12 then .low
    else if n < 44 then (if n % 2 = 0 then .lgateP ((n - 12) / 2) else .lgateN ((n - 12) / 2))
    else if n < 60 then (if n % 2 = 0 then .step ((n - 44) / 2) else .dir ((n - 44) / 2))
    else if n < 84 then
      (match n % 3 with
        | 0 => .encA ((n - 60) / 3)
        | 1 => .encB ((n - 60) / 3)
        | _ => .encZ ((n - 60) / 3))
    else if n < 92 then (if n % 2 = 0 then .stepIn ((n - 84) / 2) else .dirIn ((n - 84) / 2)) else .unused
  | .factory => .unused

/-! ### Status outputs (R688) -/

/-- STAT `n` of a TILE; every one is low in RESET and BOOT. -/
def statPin (s : State) (n : Nat) : Bool :=
  s.sys.role == .tile && s.sys.st != .reset && s.sys.st != .boot &&
  (match n with
    | 0 => s.sys.st == .run
    | 1 => degraded s
    | 2 => s.sys.st == .safe
    | 3 => s.link.tile.activeUp == 0 && s.link.tile.fed
    | 4 => s.link.tile.activeUp == 1 && s.link.tile.fed
    | 5 => s.time.locked
    | 6 => decide (s.time.loc < s.sys.stat6Until)
    | 7 => decide (0 < countHealth s 2 + countHealth s 3)
    | _ => false)

/-! ### Pin states (18 R653; 11 R424, R427; 01 R19–R21) -/

/-- A level of a pin. -/
inductive PinLevel where
  | highZ | driven (b : Bool) | idle | released | training | function
deriving DecidableEq, Repr

/-- The groups of pins of R653. -/
inductive PinGroup where
  | sinks | scanControl | stageGates | shunts | lgate | flex | lanes | pcie | hbOut | pwrOffReq | alert | flashCs
deriving DecidableEq, Repr

/-- What the pins show in RESET and BOOT, and `function` where their own rules drive them. The sinks and gates are held
too while EXTEST or CLAMP is loaded (19 R708), in SAFE and while the dies are not framed (01 R23). -/
def pinLevel (s : State) (g : PinGroup) : PinLevel :=
  let held := s.sys.st == .reset || s.sys.st == .boot
  let tap := s.sys.tapInstr == 3 || s.sys.tapInstr == 4
  let die := held || tap || !s.sys.dieFramed || !s.sys.emitEnabled
  match g with
  | .sinks => if die || s.sys.role != .tile || !emissionOn s then .highZ else .function
  | .scanControl => if die || s.sys.role != .tile then .driven false else .function
  | .stageGates => if die || s.sys.role == .sender || !(s.sys.emitEnA && s.sys.emitEnB) then .driven false else .function
  | .shunts => if die || s.sys.role != .bed || !(s.sys.emitEnA && s.sys.emitEnB) then .driven false else .function
  | .lgate => if s.sys.role != .bed || held then .highZ else if tap then .highZ else .function
  | .flex => if s.sys.st == .reset then .highZ else .function
  | .lanes => if held then .idle else .function
  | .pcie => if s.sys.st == .reset || s.sys.role == .tile then .idle else if s.sys.pcieUp then .function else .training
  | .hbOut => if s.pair.beating then .function else .driven false
  | .pwrOffReq => .driven s.sys.pwrOffReq
  | .alert => if held then .released else if alertLow s then .driven false else .released
  | .flashCs => if s.sys.st == .reset then .driven true else .function

end Sys2Proof.Machine
end

