-- ==== Sys2Proof/WellFormed.lean ====
section
/-! DEFINITION. Which commands are well-formed: operands within the fields and numberings of the spec. A meaning is
total: an operand outside its range is met by the range check of its own rule. -/

namespace Sys2Proof

/-- A host command as a path can deliver it (13_mailbox R494): 12 paths, a 12-bit tag, an 8-bit LEN, at most 62 payload
words as LEN names them, a 14-bit TARGET. -/
def Cmd.wf (c : Cmd) : Bool :=
  decide (c.path < 12) && decide (c.tag < 4096) && decide (c.len < 256) && decide (c.target < 0x4000) &&
    decide (c.payload.length = min 62 c.len)

/-- A command whose operands lie within their ranges. -/
def Instr.wf : Instr → Bool
  | .getInfo c => c.wf
  | .getState c => c.wf
  | .setState c => c.wf
  | .sealConfig c => c.wf
  | .resume c => c.wf
  | .resetWarm c => c.wf
  | .warmResetDelayExpiry _ => true
  | .getCounters c => c.wf
  | .eventRead c => c.wf
  | .capoSet c => c.wf
  | .cfgWrite c => c.wf
  | .cfgRead c => c.wf
  | .cfgCommit c => c.wf
  | .cfgCommitDiscard c => c.wf
  | .enumerate c => c.wf
  | .topoRead c => c.wf
  | .linkStatus c => c.wf
  | .redundancySwitchHandover c => c.wf
  | .redundancySwitchForce c => c.wf
  | .redundancyStatus c => c.wf
  | .redundancyStatusSaved c => c.wf
  | .layerDefine c => c.wf
  | .layerCommit c => c.wf
  | .bufferRegister c => c.wf
  | .bufferRelease c => c.wf
  | .mapDefine c => c.wf
  | .outputTiming c => c.wf
  | .crcRectSet c => c.wf
  | .crcResultRead c => c.wf
  | .streamBind c => c.wf
  | .fretboardLoad c => c.wf
  | .fretboardRead c => c.wf
  | .fretboardCommit c => c.wf
  | .fretboardCommitDiscard c => c.wf
  | .lampHealthRead c => c.wf
  | .driveSet c => c.wf
  | .brightnessSet c => c.wf
  | .wearRead c => c.wf
  | .headDefine c => c.wf
  | .fieldCorrLoad c => c.wf
  | .buildLoad c => c.wf
  | .buildArm c => c.wf
  | .buildStart c => c.wf
  | .buildPause c => c.wf
  | .buildAbort c => c.wf
  | .axisMoveAbsolute c => c.wf
  | .axisMoveRelative c => c.wf
  | .axisDecelerate c => c.wf
  | .axisFollow c => c.wf
  | .axisEndFollowing c => c.wf
  | .axisQuickStop c => c.wf
  | .axisHomeSet c => c.wf
  | .axisHomeSearch c => c.wf
  | .plumeGuardSet c => c.wf
  | .headReference c => c.wf
  | .loopDefine c => c.wf
  | .loopLutLoad c => c.wf
  | .loopEnable c => c.wf
  | .setpointSet c => c.wf
  | .traceArmArm c => c.wf
  | .traceArmTrigger c => c.wf
  | .traceArmDisarm c => c.wf
  | .traceRead c => c.wf
  | .timeGet c => c.wf
  | .timeSourceSet c => c.wf
  | .timeSourceUpdatePath c => c.wf
  | .tsQueueRead c => c.wf
  | .windowSet c => c.wf
  | .faultRead c => c.wf
  | .faultClear c => c.wf
  | .faultInject c => c.wf
  | .logRead c => c.wf
  | .captureStart c => c.wf
  | .captureStop c => c.wf
  | .captureStatus c => c.wf
  | .captureRead c => c.wf
  | .replayLoad c => c.wf
  | .replayRun c => c.wf
  | .replayFeed c => c.wf
  | .replayAbort c => c.wf
  | .fenceRelease c => c.wf
  | .thermalRead c => c.wf
  | .thermalLimitsSet c => c.wf
  | .ageingReport c => c.wf
  | .marginReplan c => c.wf
  | .calRun c => c.wf
  | .calStatus c => c.wf
  | .imageBegin c => c.wf
  | .imageChunk c => c.wf
  | .imageEnd c => c.wf
  | .imageActivate c => c.wf
  | .imageConfirm c => c.wf
  | .imageForward c => c.wf
  | .imageStatus c => c.wf
  | .laneStatus c => c.wf
  | .laneLoopback c => c.wf
  | .laneBitslipTest c => c.wf
  | .laneBitslipSlip c => c.wf
  | .laneBitslipAuto c => c.wf
  | .laneEyeScanStart c => c.wf
  | .laneEyeScanRead c => c.wf
  | .undefinedOpcode op c => decide (op < 256) && c.wf
  | .mbxDoorbell n => decide (n < 8)
  | .commandResponse => true
  | .crTailWrite v => decide (v < 2 ^ 32)
  | .ringEntryFetch _ => true
  | .ringResponseWrite => true
  | .crCtrlWrite v => decide (v < 2 ^ 32)
  | .eqCtrlWrite v => decide (v < 2 ^ 32)
  | .eqHeadWrite v => decide (v < 2 ^ 32)
  | .eventRecordWrite => true
  | .eventCoalesceExpiry => true
  | .ringDmaError _ => true
  | .eqStatusRead => true
  | .irqStatusWrite v => decide (v < 2 ^ 32)
  | .mbxStatusWrite n v => decide (n < 8) && decide (v < 2 ^ 32)
  | .timeLatch => true
  | .registerWrite off _ v => decide (off < 2 ^ 32) && decide (v < 2 ^ 32)
  | .bar2Write off _ => decide (off < 2 ^ 32)
  | .bar2Read off _ => decide (off < 2 ^ 32)
  | .spiTransaction _ => true
  | .serviceDatagram origin version kind seq _ => decide (origin < 2 ^ 48) && decide (version < 256) && decide (kind < 256) && decide (seq < 2 ^ 32)
  | .serviceArp ip asker => decide (ip < 2 ^ 32) && decide (asker < 2 ^ 48)
  | .serviceEventDatagram => true
  | .pcieLinkLoss => true
  | .pcieHotReset => true
  | .porstNAssert => true
  | .porstNRelease role tileId _ _ _ => decide (role < 4) && decide (tileId < 65536)
  | .wrstNAssert => true
  | .wrstNRelease _ => true
  | .firmwareUp _ _ _ => true
  | .dramTrainingDone _ _ => true
  | .readyAutomatic => true
  | .emitEnFall _ _ => true
  | .emitEnRise _ _ => true
  | .emitEnDiscrepancy => true
  | .dieLinkFramingLoss => true
  | .clockRootLoss _ => true
  | .clockDerivedFail clock => decide (clock < 4)
  | .supplyOutOfWindow o => decide (o.supply < 10)
  | .supervisorFault _ => true
  | .sramEccError _ table entry kind inst word => decide (table < 16) && decide (entry < 131072) && decide (kind < 256) && decide (inst < 65536) && decide (word < 2 ^ 32)
  | .dramEccUncorr kind inst addr => decide (kind < 256) && decide (inst < 65536) && decide (addr < 2 ^ 35)
  | .spillwayFiring src inst detail line => decide (src < 64) && decide (inst < 65536) && decide (detail < 2 ^ 32) && decide (line < 4)
  | .injectionWindowClose => true
  | .laneLossOfSignal l => decide (l < 16)
  | .laneSignalReturn l => decide (l < 16)
  | .linkTrainingDone l _ _ _ _ _ _ _ _ _ => decide (l < 16)
  | .trainingTimeout l cause => decide (l < 16) && decide (cause < 16)
  | .rateSearchDwellExpiry => true
  | .alignmentAttempt l at_ _ => decide (l < 16) && decide (at_ < 5440)
  | .markerHit l o => decide (l < 16) && decide (o.pos < 2 ^ 32) && decide (o.line.length = 315)
  | .markerHuntTimeout l => decide (l < 16)
  | .laneLock l => decide (l < 16)
  | .laneLockLoss l => decide (l < 16)
  | .densityWindowEnd l o => decide (l < 16) && decide (o.count < 2 ^ 32) && decide (o.errors < 2 ^ 32)
  | .adaptationStep l _ _ _ _ => decide (l < 16)
  | .snapshotPeriodExpiry l => decide (l < 16)
  | .driftCheck l => decide (l < 16)
  | .laneFault l cause => decide (l < 16) && decide (cause < 16)
  | .eyeScanDone l _ => decide (l < 16)
  | .hourlyEyeScan l _ => decide (l < 16)
  | .sourcePortStart p => decide (p < 4)
  | .sourcePortChange p _ corrected uncorr => decide (p < 4) && decide (corrected < 2 ^ 32) && decide (uncorr < 2 ^ 32)
  | .ethernetFrame p len _ dst arpFor asker => decide (p < 4) && decide (len < 65536) && decide (dst < 2 ^ 48) && decide (arpFor < 2 ^ 32) && decide (asker < 2 ^ 48)
  | .streamPacket port vid dst src udp pt ts _ _ => decide (port < 16) && decide (vid < 4096) && decide (dst < 2 ^ 48) && decide (src < 2 ^ 32) && decide (udp < 65536) && decide (pt < 128) && decide (ts < 2 ^ 32)
  | .streamTimeout k => decide (k < 64)
  | .ptpMessage port kind _ _ domain _ _ seq _ _ _ => decide (port < 16) && decide (kind < 256) && decide (domain < 256) && decide (seq < 2 ^ 32)
  | .ptpAnnounceTimeout port => decide (port < 16)
  | .ptpDelayReqSend port _ => decide (port < 16)
  | .wotorCodeword port fec _ => decide (port < 16) && decide (fec < 3)
  | .dataCell port payload => decide (port < 16) && decide (payload < 2 ^ 256)
  | .syncTimeCell port at_ _ flags _ => decide (port < 16) && decide (at_ < 2 ^ 64) && decide (flags < 2 ^ 32)
  | .flipCell port frame at_ => decide (port < 16) && decide (frame < 65536) && decide (at_ < 2 ^ 64)
  | .frameStartCell port num w h vm1 => decide (port < 16) && decide (num < 65536) && decide (w < 65536) && decide (h < 65536) && decide (vm1 < 4)
  | .tileCrcCell port num _ => decide (port < 16) && decide (num < 65536)
  | .decisionCell port num _ => decide (port < 16) && decide (num < 65536)
  | .replyCell port frame dev flags lates => decide (port < 16) && decide (frame < 65536) && decide (dev < 16384) && decide (flags < 2 ^ 32) && decide (lates < 2 ^ 32)
  | .mgmtCell port kind frag _ _ dest src tag _ => decide (port < 16) && decide (kind < 256) && decide (frag < 256) && decide (dest < 16384) && decide (src < 16384) && decide (tag < 4096)
  | .mgmtMessage => true
  | .enumToken port pos sender cascade _ epoch => decide (port < 16) && decide (pos < 256) && decide (sender < 8) && decide (cascade < 8) && decide (epoch < 65536)
  | .enumReport port pos dev uid major minor flags straps epoch => decide (port < 16) && decide (pos < 256) && decide (dev < 16384) && decide (uid < 2 ^ 64) && decide (major < 256) && decide (minor < 256) && decide (flags < 2 ^ 32) && decide (straps < 65536) && decide (epoch < 65536)
  | .enumGeometry port dest x y rw rh wc hc vm1 epoch => decide (port < 16) && decide (dest < 16384) && decide (x < 65536) && decide (y < 65536) && decide (rw < 65536) && decide (rh < 65536) && decide (wc < 65536) && decide (hc < 65536) && decide (vm1 < 4) && decide (epoch < 65536)
  | .enumHopTimeout _ => true
  | .enumEndTimeout n => decide (n < 8)
  | .portBLocked => true
  | .heartCell port src state flags => decide (port < 16) && decide (src < 16384) && decide (state < 8) && decide (flags < 2 ^ 32)
  | .takeoverNotice port => decide (port < 16)
  | .delayRequestCell port probe _ src _ _ _ => decide (port < 16) && decide (probe < 256) && decide (src < 16384)
  | .delayResponseCell port probe _ _ _ _ => decide (port < 16) && decide (probe < 256)
  | .delayPeriodExpiry port _ => decide (port < 16)
  | .delayAnswerTimeout port => decide (port < 16)
  | .hopDelay => true
  | .pathTableUpdate => true
  | .markCell port seq _ => decide (port < 16) && decide (seq < 2 ^ 32)
  | .bundleChange first => decide (first < 8)
  | .syncTimeSend port _ => decide (port < 16)
  | .timeSamplePort => true
  | .holdoverEntry => true
  | .holdoverLimitExpiry => true
  | .windowOpen => true
  | .windowClose => true
  | .fsyncInEdge => true
  | .processTimeLimit => true
  | .tileStepApply => true
  | .decisionInstant => true
  | .readinessCheck => true
  | .flipTime => true
  | .nominalFrameEnd => true
  | .slotBoundary _ => true
  | .slotCompute _ => true
  | .switchStageFault stage cause => decide (stage < 12) && decide (cause < 4)
  | .railLimit stage => decide (stage < 12)
  | .wearTransfer => true
  | .wearStep => true
  | .wearSave => true
  | .fretboardExchange => true
  | .fretboardCopyDone => true
  | .fretboardPersistDone => true
  | .upstreamLost => true
  | .upstreamSwitched port => decide (port < 16)
  | .holdLimitExpiry => true
  | .upstreamLostHeartRepeat => true
  | .ringOpen port => decide (port < 16)
  | .ringRestored port => decide (port < 16)
  | .mgmtTimeout => true
  | .latchPoint o => decide (o < 8)
  | .outputLine o _ => decide (o < 8)
  | .lineMatch o => decide (o < 8)
  | .frameStartSend o => decide (o < 8)
  | .flipCellSend o => decide (o < 8)
  | .frameDone o => decide (o < 8)
  | .groupDecision => true
  | .flipGuardCheck => true
  | .frameResync o => decide (o < 8)
  | .headFrameInstant _ => true
  | .headUpstreamFrame h _ seq _ _ _ _ _ _ _ _ _ => decide (h < 16) && decide (seq < 2 ^ 32)
  | .headFrameMissing h => decide (h < 16)
  | .headLinkChange h => decide (h < 16)
  | .headLinkFault h => decide (h < 16)
  | .haltBlock h _ _ => decide (h < 16)
  | .haltReleased h => decide (h < 16)
  | .headReferenceDone h => decide (h < 16)
  | .buildArmDone => true
  | .startTick => true
  | .jetBoundary h => decide (h < 16)
  | .runDecision => true
  | .gateEdge h => decide (h < 16)
  | .jetQueueRefill h => decide (h < 16)
  | .anchorWaitEnd h => decide (h < 16)
  | .buildPaused => true
  | .buildDone => true
  | .summaryWrite h => decide (h < 16)
  | .setpointSignature h => decide (h < 16)
  | .axisStep a => decide (a < 8)
  | .axisDone a => decide (a < 8)
  | .stepInEdge input _ => decide (input < 4)
  | .encoderZEdge a => decide (a < 8)
  | .homingDone a => decide (a < 8)
  | .homingTimeout a => decide (a < 8)
  | .stringFactorLatch => true
  | .stageSoftstartDone stage _ => decide (stage < 12)
  | .headLoopUpdate h => decide (h < 16)
  | .stringLoopUpdate n _ => decide (n < 12)
  | .headroomLoopUpdate n => decide (n < 12)
  | .loopDelaySet h => decide (h < 16)
  | .traceTrigger src arg => decide (src < 64) && decide (arg < 2 ^ 32)
  | .traceDone => true
  | .tempConversion _ => true
  | .throttleStep => true
  | .thermalStop => true
  | .avsTick _ _ _ _ => true
  | .avsbusRetry _ => true
  | .ageingSample _ _ _ _ _ => true
  | .ageingSave => true
  | .replanDue => true
  | .calStepDue d => decide (d < 4)
  | .calStepDone d inst _ => decide (d < 4) && decide (inst < 65536)
  | .quietInstant inst _ => decide (inst < 65536)
  | .quietInstantTimeout inst _ => decide (inst < 65536)
  | .slicerFirstStep l => decide (l < 16)
  | .heartbeatSend => true
  | .hbInEdge _ => true
  | .heartbeatSilence => true
  | .pairYield => true
  | .pairStartWaitExpiry => true
  | .autoSwitchback => true
  | .handoverInstant cause => decide (cause < 16)
  | .snapshotSend => true
  | .peerRecord _ => true
  | .savedStateCopy => true
  | .captureOrigin => true
  | .captureCheckpoint => true
  | .captureEnd _ => true
  | .replayDone => true
  | .imageVerified _ _ => true
  | .activationInstant _ => true
  | .liveRestartEnd => true
  | .selftestDone n _ => decide (n < 7)
  | .trialWatchdogExpiry _ => true
  | .forwardChunkResponse tag status => decide (tag < 4096) && decide (status < 256)
  | .forwardDone status => decide (status < 256)
  | .pcieLinkUp => true
  | .pairPrimaryStartExpiry => true
  | .takeoverNoticeRepeat => true
  | .dieLinkFramed => true
  | .freeSourceLockDelay => true
  | .flashEraseDone _ => true
  | .tapInstruction ir _ => decide (ir < 7)
  | .slackBelowOneTap => true

end Sys2Proof
end

