-- ==== Sys2Proof/Safety.lean ====
section
/-! DEFINITION. What counts as a safe run, and the words the claims are stated in: what a step answers, what it may
report, when a host command is accepted and how it is answered. -/

namespace Sys2Proof.Machine

/-- DRAM in canonical form: addresses strictly rising, no byte listed that an unlisted address reads as. -/
abbrev Memory.wf (m : List Host.Cell) : Prop := tabWf (0 : Byte) m = true

/-- DRAM, the counters and the configuration values are in canonical form: equal contents are equal data. -/
def State.tablesWf (s : State) : Prop :=
  Memory.wf s.dram ∧ tabWf 0 s.ctr = true ∧ tabWf none s.keys.committed = true ∧ tabWf none s.keys.staged = true

/-- While PORST_N is low the device is in RESET, where emission is off (18_startup_update R653). -/
def State.resetHeld (s : State) : Prop := s.sys.porstLow = true → s.sys.st = .reset ∧ emissionOn s = false

/-- SAFE, RESET and BOOT keep emission off (01_architecture R38; 18_startup_update R653). -/
def State.darkWhenStopped (s : State) : Prop :=
  (s.sys.st = .safe ∨ s.sys.st = .reset ∨ s.sys.st = .boot) → emissionOn s = false

/-! ### What a step answers -/

/-- The outcome is a next state that has the property. -/
def goes (o : Host.Outcome State Fault Refusal) (P : State → Prop) : Prop := ∃ t, o = .next t ∧ P t

/-- The device acts: its role has a meaning and it is not in RESET. -/
abbrev State.acts (s : State) : Prop := s.sys.role ≠ .factory ∧ s.sys.st ≠ .reset

/-- The state `a` but for what reporting touches, which is as in `t`: the log, waiting events, EQ_DROPPED and IRQ_STATUS,
the counters, what has been sent and the cells that wait for a port's codewords. -/
def reports (a t : State) : State :=
  { a with
    log := t.log, evs := t.evs, ctr := t.ctr, out := t.out, wire := t.wire
    regs := { a.regs with eqDropped := t.regs.eqDropped, irqStatus := t.regs.irqStatus } }

/-- An event of the environment or of time completes: in every state that acts and has `pre`, the step answers the state
that `eff` gives; the role, the tile ID, PORST_N and the queue are held. -/
def steps (i : Instr) (pre : State → Prop) (eff : State → State) : Prop :=
  ∀ s : State, s.acts → pre s → exec i s = .next (held s (eff s))

/-- A step that changes nothing but what reporting touches. -/
def onlyReports (i : Instr) (pre : State → Prop) : Prop :=
  ∀ s : State, s.acts → pre s → goes (exec i s) fun t => t = reports s t

/-! ### Host commands (13_mailbox R494–R500) -/

/-- The checks 1 to 5 of R498 pass and the command is for this device: firmware is up, LEN is at most 62, its tag is free, it
is addressed to this device and a TILE has a command buffer free for MGMT. -/
abbrev arrives (o : OpSpec) (c : Cmd) (s : State) : Prop :=
  s.acts ∧ s.sys.notReady = false ∧ c.len ≤ 62 ∧ tagInFlight s c.tag = false ∧ (c.self && c.bcast) = false ∧
    route s c = .here ∧ (c.bcast = true → o.bcast = true) ∧ ¬(c.path = 11 ∧ s.sys.role = .tile ∧ 4 ≤ mgmtBuffers s)

/-- A command that passes every check of R498 on the device that executes it: firmware is up, its LEN, tag and
addressing are right, its opcode belongs to the role and is allowed in the state and, on the standby of a pair, changes no
pair state; a TILE has a command buffer free for MGMT. -/
abbrev Accepted (o : OpSpec) (c : Cmd) (s : State) : Prop :=
  arrives o c s ∧ opInRole o s.sys.role = true ∧ opInState o s.sys.st = true ∧ (pairStandby s && pairOpcode s.sys.role o.op) = false ∧
    (o.len = none ∨ o.len = some c.len)

/-- The host command that a row is, with its row of the opcode table; none for an event and for an opcode that the table
does not define. -/
def hostCommand : Instr → Option (OpSpec × Cmd)
  | .getInfo c => some (opGetInfo, c)
  | .getState c => some (opGetState, c)
  | .setState c => some (opSetState, c)
  | .sealConfig c => some (opSealConfig, c)
  | .resume c => some (opResume, c)
  | .resetWarm c => some (opResetWarm, c)
  | .getCounters c => some (opGetCounters, c)
  | .eventRead c => some (opEventRead, c)
  | .capoSet c => some (opCapoSet, c)
  | .cfgWrite c => some (opCfgWrite, c)
  | .cfgRead c => some (opCfgRead, c)
  | .cfgCommit c => some (opCfgCommit, c)
  | .cfgCommitDiscard c => some (opCfgCommit, c)
  | .enumerate c => some (opEnumerate, c)
  | .topoRead c => some (opTopoRead, c)
  | .linkStatus c => some (opLinkStatus, c)
  | .redundancySwitchHandover c => some (opSwitch, c)
  | .redundancySwitchForce c => some (opSwitch, c)
  | .redundancyStatus c => some (opStatus, c)
  | .redundancyStatusSaved c => some (opStatus, c)
  | .layerDefine c => some (opLayerDefine, c)
  | .layerCommit c => some (opLayerCommit, c)
  | .bufferRegister c => some (opBufferRegister, c)
  | .bufferRelease c => some (opBufferRelease, c)
  | .mapDefine c => some (opMapDefine, c)
  | .outputTiming c => some (opOutputTiming, c)
  | .crcRectSet c => some (opCrcRectSet, c)
  | .crcResultRead c => some (opCrcResultRead, c)
  | .streamBind c => some (opStreamBind, c)
  | .fretboardLoad c => some (opFretboardLoad, c)
  | .fretboardRead c => some (opFretboardRead, c)
  | .fretboardCommit c => some (opFretboardCommit, c)
  | .fretboardCommitDiscard c => some (opFretboardCommit, c)
  | .lampHealthRead c => some (opLampHealthRead, c)
  | .driveSet c => some (opDriveSet, c)
  | .brightnessSet c => some (opBrightnessSet, c)
  | .wearRead c => some (opWearRead, c)
  | .headDefine c => some (opHeadDefine, c)
  | .fieldCorrLoad c => some (opFieldCorrLoad, c)
  | .buildLoad c => some (opBuildLoad, c)
  | .buildArm c => some (opBuildArm, c)
  | .buildStart c => some (opBuildStart, c)
  | .buildPause c => some (opBuildPause, c)
  | .buildAbort c => some (opBuildAbort, c)
  | .axisMoveAbsolute c => some (opAxisMove, c)
  | .axisMoveRelative c => some (opAxisMove, c)
  | .axisDecelerate c => some (opAxisMove, c)
  | .axisFollow c => some (opAxisMove, c)
  | .axisEndFollowing c => some (opAxisMove, c)
  | .axisQuickStop c => some (opAxisMove, c)
  | .axisHomeSet c => some (opAxisHome, c)
  | .axisHomeSearch c => some (opAxisHome, c)
  | .plumeGuardSet c => some (opPlumeGuardSet, c)
  | .headReference c => some (opHeadReference, c)
  | .loopDefine c => some (opLoopDefine, c)
  | .loopLutLoad c => some (opLoopLutLoad, c)
  | .loopEnable c => some (opLoopEnable, c)
  | .setpointSet c => some (opSetpointSet, c)
  | .traceArmArm c => some (opTraceArm, c)
  | .traceArmTrigger c => some (opTraceArm, c)
  | .traceArmDisarm c => some (opTraceArm, c)
  | .traceRead c => some (opTraceRead, c)
  | .timeGet c => some (opTimeGet, c)
  | .timeSourceSet c => some (opTimeSourceSet, c)
  | .timeSourceUpdatePath c => some (opTimeSourceSet, c)
  | .tsQueueRead c => some (opTsQueueRead, c)
  | .windowSet c => some (opWindowSet, c)
  | .faultRead c => some (opFaultRead, c)
  | .faultClear c => some (opFaultClear, c)
  | .faultInject c => some (opFaultInject, c)
  | .logRead c => some (opLogRead, c)
  | .captureStart c => some (opCapture, c)
  | .captureStop c => some (opCapture, c)
  | .captureStatus c => some (opCapture, c)
  | .captureRead c => some (opCapture, c)
  | .replayLoad c => some (opReplay, c)
  | .replayRun c => some (opReplay, c)
  | .replayFeed c => some (opReplay, c)
  | .replayAbort c => some (opReplay, c)
  | .fenceRelease c => some (opFenceRelease, c)
  | .thermalRead c => some (opThermalRead, c)
  | .thermalLimitsSet c => some (opThermalLimitsSet, c)
  | .ageingReport c => some (opAgeingReport, c)
  | .marginReplan c => some (opMarginReplan, c)
  | .calRun c => some (opCalRun, c)
  | .calStatus c => some (opCalStatus, c)
  | .imageBegin c => some (opImageBegin, c)
  | .imageChunk c => some (opImageChunk, c)
  | .imageEnd c => some (opImageEnd, c)
  | .imageActivate c => some (opImageActivate, c)
  | .imageConfirm c => some (opImageConfirm, c)
  | .imageForward c => some (opImageForward, c)
  | .imageStatus c => some (opImageStatus, c)
  | .laneStatus c => some (opLaneStatus, c)
  | .laneLoopback c => some (opLaneLoopback, c)
  | .laneBitslipTest c => some (opLaneBitslip, c)
  | .laneBitslipSlip c => some (opLaneBitslip, c)
  | .laneBitslipAuto c => some (opLaneBitslip, c)
  | .laneEyeScanStart c => some (opLaneEyeScan, c)
  | .laneEyeScanRead c => some (opLaneEyeScan, c)
  | _ => none

/-- The state the own part of a command that is not refused sees: its tag is in flight (R495), and a running capture holds its COMMAND record
(14_spillway R555). -/
def taken (o : OpSpec) (c : Cmd) (s : State) : State :=
  capRec (takeTag s o.op c) 0x02 0 0 (leBytes 4 c.path ++ bytesOf (cmdWords o.op c))

/-- The state after the answer: the mirror record of a pair's active unit, the count, the log entry of a refusal, and the
response behind the others. -/
def finish (o : OpSpec) (c : Cmd) (p : State × Reply) : State :=
  answer (mirrorCmd p.1 o.op c p.2) o.op c p.2 (p.2.status != .accepted)

/-- A host command completes: accepted, and with its own conditions `pre` met in the state it sees, it makes `eff` and
answers `r`. -/
def runs (o : OpSpec) (i : Cmd → Instr) (pre : Cmd → State → Prop) (eff : Cmd → State → State) (r : Cmd → State → Reply) :
    Prop :=
  ∀ (c : Cmd) (s : State), Accepted o c s → pre c (taken o c s) →
    exec (i c) s = .next (held s (finish o c (eff c (taken o c s), r c (taken o c s))))

/-- The state `a` but for what reports, the command's tag and response, the ring of a capture that ran in `s` and the
mirror record of a pair's active unit touch, which is as in `t`. -/
def hostly (s a t : State) : State :=
  { reports a t with
    cmds := t.cmds, cap := if capRuns s then t.cap else a.cap, dram := if capRuns s then t.dram else a.dram
    pair := if pairActive a then t.pair else a.pair }

/-- The answer to a command: its tag is in flight and its response waits for its path, behind the others; only ACCEPTED
keeps the tag in flight beyond the response (R495). -/
def answered (s : State) (o : OpSpec) (c : Cmd) (r : Reply) (t : State) : Prop :=
  t.cmds = { s.cmds with
    inFlight := s.cmds.inFlight ++ [{ tag := c.tag, op := o.op, path := c.path }]
    responses := s.cmds.responses ++
      [{ path := c.path, origin := c.origin, notify := c.notify, tag := c.tag, ends := r.status != .accepted, hw := false
         words := respWords t c.tag r false }] }

/-- A host command: accepted, and with its own conditions `pre` met, it answers `r` and makes `eff`, and changes nothing
else but what `hostly` names. -/
def serves (o : OpSpec) (i : Cmd → Instr) (pre : Cmd → State → Prop) (r : Cmd → State → Reply) (eff : Cmd → State → State) :
    Prop :=
  ∀ (c : Cmd) (s : State), Accepted o c s → pre c s →
    goes (exec (i c) s) fun t => answered s o c (r c s) t ∧ t = hostly s (eff c s) t

end Sys2Proof.Machine
end

