-- ==== Sys2Proof/Certificates/Slice0/Obligations.lean ====
section
/-! DEFINITION. The statements for the provers. -/

open Sys2Proof Sys2Proof.Machine

/-- Accepted, each of these commands completes with OK. GET_INFO answers the 12 words of R513 and GET_STATE the 6 words of
R514, and neither changes anything. GET_COUNTERS, with 1 to 60 counters named that all exist, answers its request word and
the counters, and clears them when CLEAR is set. EVENT_READ with MAX not 0 takes the whole events from the front of the pull
store that fit, none while the event queue is enabled, and answers their number, the number left, the number dropped, which
it clears, and the records. LINK_STATUS of a port that exists answers the port, its STATE, RATE, MODE, feeding flags and TILE
count, the measured hop delay, and the seconds since its lock. RESET_WARM schedules the warm reset 1 ms later. An opcode the
table does not define answers BAD_OPCODE. -/
def Obligations.InformationCommandsComplete : Prop :=
    runs opGetInfo .getInfo (fun c s => True)
      (fun c s => s)
      (fun c s => rWords [w32 (regDevId s), w32 regDevStep, w32 (roleCode s.sys.role), w32 Config.uniqueId.toNat, w32 (Config.uniqueId.toNat / 2 ^ 32), w32 ((runHdr s).major % 256 * 2 ^ 24 + (runHdr s).minor % 256 * 65536 + (runHdr s).patch % 65536), w32 (runHdr s).build, w32 (flag s.sys.sealed 4 + flag (!s.nv.shutRec.isEmpty) 3 + flag s.img.fallback 2 + s.img.running.getD 0), w32 s.sys.configGen, w32 (if s.sys.role = .tile then 0 else s.sys.dramMib), w32 macBase, w32 (macBase / 2 ^ 32 % 65536)]) ∧
    runs opGetState .getState (fun c s => True)
      (fun c s => s)
      (fun c s => rWords [w32 (flag s.sys.holdDark 10 + flag s.time.locked 9 + flag s.sys.emitEnB 8 + flag s.sys.emitEnA 7 + flag s.sys.sealed 6 + flag (degraded s) 5 + stateCode s.sys.st), w32 (if s.sys.role == .bed then s.bed.build.st else 0), w32 (if s.sys.role == .bed then s.bed.build.layerId else 0), w32 (if s.sys.role == .bed then ((List.range 16).map fun h => headState s h * 4 ^ h).sum else 0), w32 (if s.sys.role == .bed then ((List.range 8).map fun a => axisCode s a * 8 ^ a).sum else 0), w32 s.spill.fences.length]) ∧
    runs opGetCounters .getCounters (fun c s => 1 ≤ bits (pw c 0) 1 7 ∧ bits (pw c 0) 1 7 ≤ 60 ∧ ∀ i < bits (pw c 0) 1 7, ctrInstance s (bits (pw c 0) 24 8) (bits (pw c 0) 16 8) (bits (pw c 0) 8 8 + i) = true)
      (fun c s => if bit (pw c 0) 0 then ((List.range (bits (pw c 0) 1 7)).map (bits (pw c 0) 8 8 + ·)).foldl (ctrClear (bits (pw c 0) 24 8) (bits (pw c 0) 16 8)) s else s)
      (fun c s => rWords (w32 (pw c 0) :: ((List.range (bits (pw c 0) 1 7)).map (bits (pw c 0) 8 8 + ·)).flatMap (ctrWords s (bits (pw c 0) 24 8) (bits (pw c 0) 16 8)))) ∧
    runs opEventRead .eventRead (fun c s => pw c 0 % 16 ≠ 0 ∧ eqEnabled s = false)
      (fun c s => { s with evs := { s.evs with pull := (takeWhole (pw c 0 % 16) s.evs.pull).2, pullDropped := 0 } })
      (fun c s => rWords (w32 ((((takeWhole (pw c 0 % 16) s.evs.pull).1.map List.length).sum) + ((takeWhole (pw c 0 % 16) s.evs.pull).2.map List.length).sum % 65536 * 256 + s.evs.pullDropped % 256 * 2 ^ 24) :: (takeWhole (pw c 0 % 16) s.evs.pull).1.flatten.flatten)) ∧
    runs opEventRead .eventRead (fun c s => pw c 0 % 16 ≠ 0 ∧ eqEnabled s = true)
      (fun c s => { s with evs := { s.evs with pullDropped := 0 } })
      (fun c s => rWords [w32 ((s.evs.pull.map List.length).sum % 65536 * 256 + s.evs.pullDropped % 256 * 2 ^ 24)]) ∧
    runs opLinkStatus .linkStatus (fun c s => portExists s (pw c 0 % 16) = true ∧ ¬(pw c 0 % 16 = 15 ∧ peerLane s = false))
      (fun c s => s)
      (fun c s =>
        let p := pw c 0 % 16
        let mode := if s.sys.role = .tile then 1 else if s.sys.role = .bed then 3 else portMode s p
        let feeds := flag (s.sys.role == .tile && feeding s p) 23 + flag (s.sys.role == .tile && s.link.tile.activeUp == p) 22
        let tiles := if s.sys.role = .sender then tileCount s p % 256 else 0
        rWords [w32 p, w32 (linkState s p * 2 ^ 28 + (wport s p).rate % 4 * 2 ^ 26 + mode * 2 ^ 24 + feeds + tiles),
          w32 (if (delayOf s p).known then uns 32 (delayOf s p).d else 0xFFFFFFFF),
          w32 ((wport s p).lockedAt.elim 0 fun t => min 0xFFFFFFFF ((s.time.loc - t) / secTicks))]) ∧
    runs opResetWarm .resetWarm (fun c s => True)
      (fun c s => { s with sys := { s.sys with warmAt := some (s.time.loc + 10000000) } })
      (fun c s => rOk) ∧
    (∀ (op : Nat) (c : Cmd) (s : State), s.acts → s.sys.notReady = false → opcodes.contains (op % 256) = false →
      exec (.undefinedOpcode op c) s = .next (held s (answer s (op % 256) c (rBad .badOpcode 0) false)))

/-- Accepted and in range, CFG_WRITE copies its bytes into the staged value, CFG_READ returns bytes of the committed or
staged value, CFG_COMMIT applies the staged values and raises CONFIG_GEN by 1 where one was applied (a sealed key outside an
open STANDBY stays staged: the model's choice, log 60) and changes nothing where none is staged, DISCARD drops every staged
value, SEAL_CONFIG applies them, sets SEALED and raises CONFIG_SEALED, and changes nothing where SEALED is set, and DRIVE_SET
and BRIGHTNESS_SET commit the values they carry. -/
def Obligations.ConfigurationCommandsComplete : Prop :=
    runs opCfgWrite .cfgWrite (fun c s => cfgFault true c s = none)
      (fun c s => { s with keys := { s.keys with staged := tabSet none s.keys.staged (cfgKey c) (some (maskKey (cfgKey c) (putBytes (keyStaged s (cfgKey c)) (cfgOffset c) ((bytesOf (c.payload.drop 2)).take (cfgBytes c))))) } })
      (fun c s => rOk) ∧
    runs opCfgRead .cfgRead (fun c s => cfgFault false c s = none)
      (fun c s => s)
      (fun c s => rWords ([w32 (pw c 0 / 65536 * 65536 + pw c 0 % 2), w32 (pw c 1)] ++ wordsOf (((if bit (pw c 0) 0 then keyStaged s (cfgKey c) else keyCommitted s (cfgKey c)).drop (cfgOffset c)).take (cfgBytes c)))) ∧
    runs opCfgCommit .cfgCommit (fun c s => bit (pw c 0) 0 = false ∧ (stagedIds s).isEmpty = false ∧ keyFault s false = none)
      (fun c s => if (stagedIds (applyStaged s)).length < (stagedIds s).length then bumpGen (applyStaged s) else applyStaged s)
      (fun c s => rOk) ∧
    runs opCfgCommit .cfgCommit (fun c s => bit (pw c 0) 0 = false ∧ (stagedIds s).isEmpty = true)
      (fun c s => s)
      (fun c s => rOk) ∧
    runs opCfgCommit .cfgCommitDiscard (fun c s => bit (pw c 0) 0 = true)
      (fun c s => { s with keys := { s.keys with staged := [] } })
      (fun c s => rOk) ∧
    runs opSealConfig .sealConfig (fun c s => s.sys.sealed = false ∧ (s.sys.role = .sender → s.sys.dramTrained = true) ∧ sealFault s = none)
      (fun c s => pairFlags (sealLinks (raise { bumpGen (applyStaged s) with sys := { (bumpGen (applyStaged s)).sys with sealed := true } } 0x0003 (args [(4, (bumpGen (applyStaged s)).sys.configGen)]))))
      (fun c s => rOk) ∧
    runs opSealConfig .sealConfig (fun c s => s.sys.sealed = true)
      (fun c s => s)
      (fun c s => rOk) ∧
    runs opDriveSet .driveSet (fun c s => keyFault { s with keys := { s.keys with staged := ((List.range 3).map fun k => (0x0502 + k, leBytes 1 (bits (pw c 0) (8 * k) 8))).foldl (fun t p => tabSet none t p.1 (some p.2)) [] } } false = none)
      (fun c s => bumpGen (((List.range 3).map fun k => (0x0502 + k, leBytes 1 (bits (pw c 0) (8 * k) 8))).foldl (fun t p => applyKey p.1 p.2 t) s))
      (fun c s => rOk) ∧
    runs opBrightnessSet .brightnessSet (fun c s => keyFault { s with keys := { s.keys with staged := tabSet none [] 0x0539 (some (leBytes 2 (pw c 0 % 65536))) } } false = none)
      (fun c s => bumpGen (applyKey 0x0539 (leBytes 2 (pw c 0 % 65536)) s))
      (fun c s => rOk)

/-- Accepted, SET_STATE to another state that R504 allows enters it, with SEALED cleared on the way to STANDBY; RESUME leaves
SAFE for STANDBY when no FATAL source is latched and, in BED role, both EMIT_EN are high; CAPO_SET holds or releases the
instances it names and answers how many of the policy are held. -/
def Obligations.StateCommandsComplete : Prop :=
    (∀ (n : DevState), runs opSetState .setState (fun c s => targetState (pw c 0 % 16) = some n ∧ s.sys.st ≠ n ∧ mayChange s n = true ∧ (n = .run → s.sys.role = .sender → ∀ o < 8, guardsHold s o = true))
      (fun c s => pairFlags (enterState n 0 (bit (pw c 0) 8) (if n = .standby then { s with sys := { s.sys with sealed := false } } else s)))
      (fun c s => rOk)) ∧
    runs opResume .resume (fun c s => fatalLatched s = none ∧ (s.sys.role = .bed → s.sys.emitEnA = true ∧ s.sys.emitEnB = true))
      (fun c s => pairFlags (enterState .standby 0 false { s with bed := { s.bed with heads := (s.bed.heads.map fun p => (p.1, { p.2 with haltSeen := false })) }, pair := { s.pair with leftSafe := true } }))
      (fun c s => rOk) ∧
    runs opCapoSet .capoSet (fun c s => bits (pw c 0) 8 4 ≤ 5 ∧ bits (pw c 0) 8 4 ≠ 4 ∧ pw c 0 % 256 ≠ 255 ∧ ∃ l, capoInstances s (bits (pw c 0) 8 4) = some l ∧ l.contains (pw c 0 % 256) = true)
      (fun c s => capoOne (bit (pw c 0) 31) (bits (pw c 0) 8 4) s (pw c 0 % 256))
      (fun c s => rWords [w32 ((capoOne (bit (pw c 0) 31) (bits (pw c 0) 8 4) s (pw c 0 % 256)).capo.filter fun p => p.1 == bits (pw c 0) 8 4).length])

/-- Accepted, ENUMERATE of idle cascade ports starts their enumerations under its tag; TOPO_READ answers four words for each
entry; REDUNDANCY_SWITCH schedules a hand-over on the active unit of a pair, and makes its standby active at once with FORCE;
REDUNDANCY_STATUS answers five words, or words of the newest saved copy. -/
def Obligations.CascadeAndPairCommandsComplete : Prop :=
    runs opEnumerate .enumerate (fun c s => (bit (pw c 0) 8 = true → s.sys.st = .standby) ∧ ((List.range 8).filter fun n => bit (pw c 0) n && portMode s n == 1 && !(pairPort s n && !s.pair.active)) ≠ [] ∧ (∀ n ∈ (List.range 8).filter fun n => bit (pw c 0) n && portMode s n == 1 && !(pairPort s n && !s.pair.active), (casc s n).running = false))
      (fun c s => ((List.range 8).filter fun n => bit (pw c 0) n && portMode s n == 1 && !(pairPort s n && !s.pair.active)).foldl (startEnum (bit (pw c 0) 8) (some c.tag)) s)
      (fun c s => rAccepted) ∧
    runs opTopoRead .topoRead (fun c s => bits (pw c 0) 16 8 ≠ 0 ∧ bits (pw c 0) 16 8 ≤ 15)
      (fun c s => s)
      (fun c s => rWords (w32 (pw c 0 % 8 + bits (pw c 0) 8 8 * 256 + min (bits (pw c 0) 16 8) (256 - bits (pw c 0) 8 8) * 65536 + tileCount s (pw c 0 % 8) * 2 ^ 24) :: (List.range (min (bits (pw c 0) 16 8) (256 - bits (pw c 0) 8 8))).flatMap fun i => topoWords (topo s (pw c 0 % 8) (bits (pw c 0) 8 8 + i)))) ∧
    runs opSwitch .redundancySwitchHandover (fun c s => paired s = true ∧ pw c 0 % 4 = 0 ∧ s.pair.active = true ∧ s.pair.hand = none ∧ peerSynced s = true ∧ peerUp s = true ∧ ¬(s.sys.role = .bed ∧ 2 ≤ s.bed.build.st ∧ s.bed.build.st ≤ 5))
      (fun c s => { s with pair := { s.pair with hand := some (c.tag + 1, 2, handTime s) } })
      (fun c s => rAccepted) ∧
    runs opSwitch .redundancySwitchForce (fun c s => paired s = true ∧ pw c 0 % 4 = 1 ∧ s.pair.active = false)
      (fun c s => cmdDone (becomeActive 6 s) c.tag 0x23 .ok)
      (fun c s => rAccepted) ∧
    runs opStatus .redundancyStatus (fun c s => c.len = 0)
      (fun c s => s)
      (fun c s => rWords (statusWords s)) ∧
    runs opStatus .redundancyStatusSaved (fun c s => c.len = 1 ∧ savedCopy s ≠ [] ∧ bit (pw c 0) 31 = true ∧ 1 ≤ bits (pw c 0) 16 6 ∧ bits (pw c 0) 16 6 ≤ 60 ∧ pw c 0 % 65536 % 4 = 0 ∧ pw c 0 % 65536 + 4 * bits (pw c 0) 16 6 ≤ (savedCopy s).length)
      (fun c s => s)
      (fun c s => rWords (w32 (pw c 0 % 2 ^ 22 + 2 ^ 31) :: wordsOf (((savedCopy s).drop (pw c 0 % 65536)).take (4 * bits (pw c 0) 16 6))))

/-- Accepted and in range, each of these commands completes. LAYER_DEFINE stages a definition. LAYER_COMMIT within the budgets
writes the CONTENT records of its still buffers and is ACCEPTED: in READY, RUN and HOLD the named definitions become pending
and the commit waits at its output, counted late where the latch point of a frame that has not started has passed; elsewhere
they become active, the LAYER_COMMITTED event carries a frame that is a free value and the command is done. BUFFER_REGISTER
and BUFFER_RELEASE add and take away a still buffer; MAP_DEFINE writes map entries; OUTPUT_TIMING within the budgets defines
an output. CRC_RECT_SET defines a check rectangle, pending in READY, RUN and HOLD. CRC_RESULT_READ answers OUTPUT and three
words for each of the 16 rectangles as set at the last latch point. STREAM_BIND within the budgets and the stream area binds
a stream in place of the one before, its rings packed where no place is free, leaves the old group and joins the new one; with
UNBIND it takes the binding away. -/
def Obligations.CompositionCommandsComplete : Prop :=
    runs opLayerDefine .layerDefine (fun c s => defBad ((List.range 25).map (pw c)) = none)
      (fun c s => setLayer s (bits (pw c 0) 24 6) { layer s (bits (pw c 0) 24 6) with staged := some ((List.range 25).map (pw c)) })
      (fun c s => rOk) ∧
    (∀ (k : Nat) (d : List Nat), runs opLayerCommit .layerCommit (fun c s => (maskSlots c).head? = some k ∧ (layer s k).staged = some d ∧ commitBad (latchPointDue (dOutput d) s) (maskSlots c) (dOutput d) = none ∧ overBudget (latchPointDue (dOutput d) s) (planNow { latchPointDue (dOutput d) s with send := { (latchPointDue (dOutput d) s).send with layers := pendSlots (latchPointDue (dOutput d) s) (maskSlots c) } }) = none)
      (fun c s => withRetire (fun t =>
          let o := dOutput d
          let x := outp t o
          let late := x.started && (x.latched || (x.inFrame && decide (nowSys t < x.start)))
          if counted t.sys.st then
            let t1 := setOutp { t with send.layers := pendSlots t (maskSlots c) } o { x with commits := x.commits ++ [(c.tag, late)] }
            if late then bump t1 9 o 2 else t1
          else
            let t1 := { t with send.layers := (maskSlots c).foldl (fun l k => tabUpd LayerSlot.cold l k fun y => { y with active := y.staged, pend := none, held := none }) t.send.layers }
            cmdDone (raise (nextFree t1) 0x0705 (args [(4, o), (4, c.tag), (4, Config.free t.sys.free 0x31 % 65536), (4, 0)])) c.tag 0x31 .ok)
        (recordStills (latchPointDue (dOutput d) s) (maskSlots c)))
      (fun c s => rAccepted)) ∧
    runs opBufferRegister .bufferRegister (fun c s => bufferBad s (bits (pw c 0) 0 10) { format := bits (pw c 0) 16 4, addr := pw c 1 + pw c 2 * 2 ^ 32, width := pw c 3 % 65536, height := pw c 3 / 65536, pitch := pw c 4 } = none)
      (fun c s => { s with send := { s.send with bufs := tabSet none s.send.bufs (bits (pw c 0) 0 10) (some { format := bits (pw c 0) 16 4, addr := pw c 1 + pw c 2 * 2 ^ 32, width := pw c 3 % 65536, height := pw c 3 / 65536, pitch := pw c 4 }) } })
      (fun c s => rOk) ∧
    runs opBufferRelease .bufferRelease (fun c s => (stillBuf s (bits (pw c 0) 0 10)).isSome = true ∧ bufState s (bits (pw c 0) 0 10) = 0)
      (fun c s => { s with send := { s.send with bufs := tabSet none s.send.bufs (bits (pw c 0) 0 10) none } })
      (fun c s => rOk) ∧
    runs opMapDefine .mapDefine (fun c s => 1 ≤ bits (pw c 0) 8 8 ∧ bits (pw c 0) 8 8 ≤ 30 ∧ 1 ≤ bits (pw c 0) 0 8 ∧ bits (pw c 0) 0 8 + bits (pw c 0) 8 8 ≤ 256 ∧ c.len = 1 + 2 * bits (pw c 0) 8 8 ∧ ∀ k < bits (pw c 0) 8 8, mapRectOk (outp s (bits (pw c 0) 16 3)) (mapRect c k) = true)
      (fun c s => setOutp s (bits (pw c 0) 16 3) { outp s (bits (pw c 0) 16 3) with map := (List.range (bits (pw c 0) 8 8)).foldl (fun t k => tabSet (0, 0, 0, 0) t (bits (pw c 0) 0 8 + k) (if (mapRect c k).2.2.1 = 0 then (0, 0, 0, 0) else mapRect c k)) (outp s (bits (pw c 0) 16 3)).map })
      (fun c s => rOk) ∧
    (∀ x : Output, runs opOutputTiming .outputTiming (fun c s => x = { outp s (bits (pw c 0) 0 3) with enable := bit (pw c 0) 31, views := bits (pw c 0) 16 2 + 1, width := pw c 1 % 65536, height := pw c 1 / 65536, num := pw c 2, den := pw c 3 % 65536, vb := pw c 4, phase := pw c 5, latency := pw c 6 } ∧ timingBad s (bits (pw c 0) 0 3) x = none ∧ overBudget (setOutp s (bits (pw c 0) 0 3) x) (planNow (setOutp s (bits (pw c 0) 0 3) x)) = none)
      (fun c s => setOutp s (bits (pw c 0) 0 3) x)
      (fun c s => rOk)) ∧
    (∀ r : CrcRect, runs opCrcRectSet .crcRectSet (fun c s => r = { CrcRect.cold with enable := bit (pw c 0) 31, learn := bit (pw c 0) 30, view := bits (pw c 0) 20 2, x := pw c 1 % 65536, y := pw c 1 / 65536, w := pw c 2 % 65536, h := pw c 2 / 65536, expected := if bit (pw c 0) 30 then none else some (pw c 3), first := true } ∧ r.view < (outp s (bits (pw c 0) 16 3)).views ∧ r.w ≠ 0 ∧ r.h ≠ 0 ∧ r.x + r.w ≤ (outp s (bits (pw c 0) 16 3)).width ∧ r.y + r.h ≤ (outp s (bits (pw c 0) 16 3)).height)
      (fun c s => setOutp s (bits (pw c 0) 16 3) (if counted s.sys.st then { outp s (bits (pw c 0) 16 3) with pendRects := tabSet CrcRect.cold (outp s (bits (pw c 0) 16 3)).pendRects (bits (pw c 0) 0 4) r } else { outp s (bits (pw c 0) 16 3) with rects := tabSet CrcRect.cold (outp s (bits (pw c 0) 16 3)).rects (bits (pw c 0) 0 4) r, nextRects := tabErase (outp s (bits (pw c 0) 16 3)).nextRects (bits (pw c 0) 0 4), pendRects := tabErase (outp s (bits (pw c 0) 16 3)).pendRects (bits (pw c 0) 0 4) }))
      (fun c s => rOk)) ∧
    runs opCrcResultRead .crcResultRead (fun c s => True)
      (fun c s => s)
      (fun c s =>
        let x := outp s (pw c 0 % 8)
        let shown := fun k => if tabGet CrcRect.cold x.nextRects k = CrcRect.cold then tabGet CrcRect.cold x.rects k else tabGet CrcRect.cold x.nextRects k
        rWords (w32 (pw c 0 % 8) :: (List.range 16).flatMap fun k =>
          [w32 (shown k).crc, w32 ((shown k).frame % 65536 * 65536 + (shown k).mismatches),
           w32 (flag (shown k).valid 2 + flag (shown k).match_ 1 + flag (shown k).enable 0)])) ∧
    runs opStreamBind .streamBind (fun c s => bit (pw c 0) 8 = false ∧ bindBad (bindOf c) = none ∧ (s.send.layers.any fun p => namesStream p.2.pend (bits (pw c 0) 0 3) || namesStream p.2.active (bits (pw c 0) 0 3)) = false ∧ overBudget s { planNow (unbindStream s (bits (pw c 0) 0 3)) with binds := bindOf c :: (planNow (unbindStream s (bits (pw c 0) 0 3))).binds } = none ∧ ((ringsOf (unbindStream s (bits (pw c 0) 0 3))).map Prod.snd).sum + ringLen (bindOf c) ≤ areaLen s)
      (fun c s =>
        let k := bits (pw c 0) 0 3
        let b := bindOf c
        let s1 := (stream s k).elim s fun x => igmp (setStream s k none) 3 x.bind
        let s2 := if (ringPlace s1 (ringLen b)).isSome then s1 else packRings s1
        igmp (setStream s2 k (some (freshStream b ((ringPlace s2 (ringLen b)).getD 0) s1.time.loc))) 1 b)
      (fun c s => rOk) ∧
    runs opStreamBind .streamBind (fun c s => bit (pw c 0) 8 = true ∧ (s.send.layers.any fun p => namesStream p.2.pend (bits (pw c 0) 0 3) || namesStream p.2.active (bits (pw c 0) 0 3)) = false)
      (fun c s => (stream s (bits (pw c 0) 0 3)).elim s fun x => igmp (setStream s (bits (pw c 0) 0 3) none) 3 x.bind)
      (fun c s => rOk)

/-- Accepted and in range, FRETBOARD_LOAD writes the entries it carries into the staging copy, with SET_APPLIED in STANDBY
alone; FRETBOARD_READ and WEAR_READ return entries; FRETBOARD_COMMIT with no commit running is ACCEPTED, in STANDBY and SAFE
exchanges the copies at once and elsewhere waits at least 100 µs for its decision instant; its DISCARD form begins the copy of
the active set over the staged one; LAMP_HEALTH_READ returns the health of sixteen lamps per word. -/
def Obligations.TileCommandsComplete : Prop :=
    runs opFretboardLoad .fretboardLoad (fun c s => ¬(((fbHead (pw c 0)).table = 3 ∨ bit (fbHead (pw c 0)).flags 0 = true) ∧ s.sys.st ≠ .standby) ∧ (fbHead (pw c 0)).table ≤ 3 ∧ c.len = 1 + fbWords (fbHead (pw c 0)) ∧ fbRange (fbHead (pw c 0)) = true ∧ fbBusy s = false)
      (fun c s => { (List.range (fbHead (pw c 0)).count).foldl (loadEntry (fbHead (pw c 0)) c) s with fret := { ((List.range (fbHead (pw c 0)).count).foldl (loadEntry (fbHead (pw c 0)) c) s).fret with loadSince := true } })
      (fun c s => rOk) ∧
    runs opFretboardRead .fretboardRead (fun c s => (fbHead (pw c 0)).table ≤ 2 ∧ fbRange (fbHead (pw c 0)) = true ∧ fbWords (fbHead (pw c 0)) ≤ 61 ∧ (bit (fbHead (pw c 0)).flags 0 = true → s.fret.copying = none))
      (fun c s => s)
      (fun c s => rWords (w32 (pw c 0) :: (List.range (fbHead (pw c 0)).count).flatMap (readEntry s (if bit (fbHead (pw c 0)).flags 0 then 1 - s.fret.active else s.fret.active) (fbHead (pw c 0))))) ∧
    runs opFretboardCommit .fretboardCommit (fun c s => bit (fbHead (pw c 0)).flags 1 = false ∧ fbBusy s = false)
      (fun c s =>
        let s1 := { s with fret := { s.fret with commit := some ⟨bit (fbHead (pw c 0)).flags 2, false, c.tag, s.time.loc + 100 * usTicks⟩ } }
        if s.sys.st = .standby ∨ s.sys.st = .safe then fbExchange s1 0xFFFF else s1)
      (fun c s => rAccepted) ∧
    runs opFretboardCommit .fretboardCommitDiscard (fun c s => bit (fbHead (pw c 0)).flags 1 = true ∧ fbBusy s = false)
      (fun c s => { s with fret := { s.fret with
        commit := some ⟨bit (fbHead (pw c 0)).flags 2, true, c.tag, s.time.loc + 100 * usTicks⟩, copying := some 0xFFFE, loadSince := false } })
      (fun c s => rAccepted) ∧
    runs opLampHealthRead .lampHealthRead (fun c s => 1 ≤ bits (pw c 0) 26 6 ∧ bits (pw c 0) 26 6 ≤ 61 ∧ bits (pw c 0) 0 17 % 16 = 0 ∧ bits (pw c 0) 0 17 + 16 * bits (pw c 0) 26 6 ≤ 98304)
      (fun c s => s)
      (fun c s => rWords (w32 (pw c 0) :: (List.range (bits (pw c 0) 26 6)).map fun i => healthWord s (bits (pw c 0) 0 17 + 16 * i))) ∧
    runs opWearRead .wearRead (fun c s => (fbHead (pw c 0)).table = 3 ∧ fbRange (fbHead (pw c 0)) = true ∧ fbWords (fbHead (pw c 0)) ≤ 61)
      (fun c s => s)
      (fun c s => rWords (w32 (pw c 0) :: (List.range (fbWords (fbHead (pw c 0)))).map (wearWord s (fbHead (pw c 0)))))

/-- Accepted, each of these commands completes. HEAD_DEFINE takes a head away, or takes a definition without a fault and
makes the head unreferenced; FIELD_CORR_LOAD writes grid nodes and makes the head unreferenced. HEAD_REFERENCE is ACCEPTED and
starts the move from where the head stands to its reference point. PLUME_GUARD_SET takes its five words. BUILD_LOAD takes the
layer ID, the heads and the jet lists of a descriptor that passes its checks and raises LAYER_LOADED. BUILD_ARM is ACCEPTED:
the "arm" keys take effect, the layer's power Weirs are cold, its strings take their ageing factors and their stages
soft-start. BUILD_START of an armed or paused layer is ACCEPTED: each head moves to where it resumes and the layer starts at
the first frame at or after the tick given, or the earliest the lead and the moves allow. BUILD_PAUSE in RUNNING stops every
head that has no span in progress, and in PAUSING or PAUSED changes nothing. BUILD_ABORT freezes the heads, empties the
lists, raises BUILD_ABORTED, ends the build commands in flight with STATE_REJECT and ramps the strings down. -/
def Obligations.BuildCommandsComplete : Prop :=
    runs opHeadDefine .headDefine (fun c s => inLayer s (pw c 0 % 16) = false ∧ c.len = 20 ∧ bit (pw c 0) 31 = false)
      (fun c s => setHead (unreference s (pw c 0 % 16)) (pw c 0 % 16) BHead.cold)
      (fun c s => rOk) ∧
    runs opHeadDefine .headDefine (fun c s =>
        let h := pw c 0 % 16
        let w := (List.range 20).map (pw c)
        inLayer s h = false ∧ c.len = 20 ∧ bit (pw c 0) 31 = true ∧ headFault s h w = none)
      (fun c s =>
        let h := pw c 0 % 16
        let w := (List.range 20).map (pw c)
        let x := bhead (unreference s h) h
        setHead (unreference s h) h { x with
          defn := w, written := if x.defn.isEmpty || hw x 1 != w.getD 1 0 || hw x 2 != w.getD 2 0 || hw x 3 != w.getD 3 0 then [] else x.written
          downAt := if x.defn.isEmpty then s.time.loc else x.downAt })
      (fun c s => rOk) ∧
    runs opFieldCorrLoad .fieldCorrLoad (fun c s =>
        let w := pw c 0
        let n := bits w 17 5
        let first := bits w 4 13
        let h := w % 16
        ¬(inLayer s h) ∧
          ¬(c.len ≠ 1 + 3 * n) ∧
          ¬(headDefined s h = false ∨ n = 0 ∨ 20 < n ∨ 4225 < first + n))
      (fun c s =>
        let w := pw c 0
        let n := bits w 17 5
        let first := bits w 4 13
        let h := w % 16
        (List.range n).foldl (loadNode h first c) (unreference s h))
      (fun c s =>
        rOk) ∧
    runs opHeadReference .headReference (fun c s =>
        let h := pw c 0 % 16
        ¬((s.bed.build.st = 4 ∨ s.bed.build.st = 5) ∧ bit s.bed.build.mask h) ∧
          ¬(fenced s 6 h) ∧
          ¬(headDefined s h = false ∨ gridValid (bhead s h) = false) ∧
          ¬((bhead s h).ref.isSome))
      (fun c s =>
        let h := pw c 0 % 16
        let x := bhead s h
        let e := x.enc.getD (x.hx, x.hy, x.hz)
        let q := (headCoord x 0 (hwS x 4) (hwS x 5), headCoord x 1 (hwS x 4) (hwS x 5), headCoord x 2 (hwS x 4) (hwS x 5))
        let now := buildNow s
        let d := jumpTicks (refDistance x (q.1 - e.1) (q.2.1 - e.2.1)) (hw x 7) (hw x 8) (hw x 9)
        setHead s h { x with
          frozen := false, referenced := false, edges := [], ref := some (c.tag, 0, 0), bx := hwS x 4, bby := hwS x 5, fz := 0
          move := some { headCoord := true, start := now, dur := d, x0 := e.1, y0 := e.2.1, z0 := e.2.2, x1 := q.1, y1 := q.2.1, z1 := q.2.2 }
          jumps := ((now, now + d) :: x.jumps).take 16 })
      (fun c s =>
        rAccepted) ∧
    runs opPlumeGuardSet .plumeGuardSet (fun c s =>
        ¬(s.bed.build.st = 4 ∨ s.bed.build.st = 5) ∧
          ¬(5000000 < pw c 1) ∧
          ¬(100000000 < pw c 3) ∧
          ¬(10000000 < pw c 4))
      (fun c s =>
        { s with bed.build.guard := (List.range 5).map (pw c) })
      (fun c s =>
        rOk) ∧
    runs opBuildLoad .buildLoad (fun c s =>
        let a := pw c 0 + pw c 1 * 2 ^ 32
        let st := s.bed.build.st
        ¬(st ≠ 0 ∧ st ≠ 1 ∧ st ≠ 7 ∧ st ≠ 8) ∧
          ¬(c.len ≠ 2) ∧
          ¬(a % 256 ≠ 0 ∨ dramTop s < a + 528 ∨ descOk s a = false))
      (fun c s =>
        let a := pw c 0 + pw c 1 * 2 ^ 32
        raise { s with bed.build := loadDesc s a, pair.progress := [], pair.jetCrc := [], pair.desc := a } 0x0A01 (args [(4, rdLe s a 4)]))
      (fun c s =>
        rOk) ∧
    runs opBuildArm .buildArm (fun c s =>
        let st := s.bed.build.st
        ¬(st ≠ 1) ∧
          ¬(c.len ≠ 0))
      (fun c s =>
        let s1 := applyArmKeys { s with bed.build.st := 2, bed.build.armTag := c.tag + 1, bed.build.armAt := buildNow s }
        let s2 := (List.range 16).foldl (fun t h => setHead t h { bhead t h with power := Weir.cold }) s1
        let s2 := (List.range 12).foldl (fun t n => etaRestart s (setString t n { stringRef t n with a := stringAge t n }) n) s2
        (layerStrings s2).foldl (fun t n => setStage t n { stage t n with mode := 1, softAt := t.time.loc }) s2)
      (fun c s =>
        rAccepted) ∧
    runs opBuildStart .buildStart (fun c s =>
        let relax := bit (pw c 0) 2
        let lead := buildNow s + keyU s 0x0A00 0 4
        let given := buildAt s (unshort (sysTicks s) (pw c 1 + pw c 2 % 65536 * 2 ^ 32))
        (s.bed.build.st = 3 ∨ s.bed.build.st = 6) ∧ c.len = 3 ∧ startFault s relax = none ∧ ¬(bit (pw c 0) 0 ∧ given < lead))
      (fun c s =>
        let relax := bit (pw c 0) 2
        let skip := bit (pw c 0) 1
        let lead := buildNow s + keyU s 0x0A00 0 4
        let given := buildAt s (unshort (sysTicks s) (pw c 1 + pw c 2 % 65536 * 2 ^ 32))
        let longest := (layerHeads s).foldl (fun m h => max m (returnTicks (bhead s h) (returnTo s.bed.build.st (bhead s h) (resumeAt skip (blist s h))))) 0
        let start := frameAtOrAfter s (max (if bit (pw c 0) 0 then given else lead) (buildNow s + longest))
        let s1 := (layerHeads s).foldl (readyHead start relax skip) s
        capOriginAt { s1 with bed.build.startAt := some start, bed.build.startTag := c.tag + 1 } 2)
      (fun c s => rAccepted) ∧
    runs opBuildPause .buildPause (fun c s => s.bed.build.st = 4 ∧ c.len = 0)
      (fun c s => (layerHeads { s with bed.build.pauseTag := c.tag + 1 }).foldl (fun t h =>
          let b := blist t h
          if b.span.isNone && !b.commit && b.bad.isNone then
            setList t h { b with stopped := true, starving := false, runNext := none, planned := none, throttled := false, hold := 0, flags := 0 }
          else t) { s with bed.build := { s.bed.build with pauseTag := c.tag + 1, st := 5, cause := 1, stopAt := buildNow s } })
      (fun c s => rAccepted) ∧
    runs opBuildPause .buildPause (fun c s => (s.bed.build.st = 5 ∨ s.bed.build.st = 6) ∧ c.len = 0)
      (fun c s => s)
      (fun c s => rOk) ∧
    runs opBuildAbort .buildAbort (fun c s =>
        True)
      (fun c s =>
        let b := s.bed.build
        if b.st = 0 ∨ 7 ≤ b.st then s else
        let s1 := if 2 ≤ b.st then (layerHeads s).foldl (fun t h => freezeHead t h 1) s else s
        let s2 := { s1 with
          bed.build.st := 8, bed.build.armTag := 0, bed.build.startTag := 0, bed.build.pauseTag := 0, bed.build.startAt := none
          bed.build.lists := s1.bed.build.lists.map fun p => (p.1, { p.2 with queue := [], cut := none })
          time.processRun := false }
        let s3 := raise s2 0x0A07 (args [(4, 1)])
        rampStrings (endBuildTag (endBuildTag (endBuildTag s3 b.armTag 0x53 0x20) b.startTag 0x54 0x20) b.pauseTag 0x55 0x20))
      (fun c s =>
        rOk)

/-- Accepted and in range, OP 0 and OP 1 of AXIS_MOVE begin a move to a position and by a distance, OP 2 decelerates, OP 3
begins to follow a step input, OP 4 ends following and OP 5 stops at once; MODE 0 of AXIS_HOME makes the present position the
one given and modes 1 and 2 search for the Z edge. -/
def Obligations.AxisCommandsComplete : Prop :=
    runs opAxisMove .axisMoveAbsolute (fun c s =>
        let a := pw c 0 % 16
        let x := axis s a
        a < 8 ∧ bits (pw c 0) 4 3 = 0 ∧ fenced s 10 a = false ∧ x.st ≠ 0 ∧ axisMoves x = false ∧ moveFault s a 0 c = none)
      (fun c s =>
        let a := pw c 0 % 16
        let x := axis s a
        startAxis s a c (sgn 32 (pw c 1) - x.pos))
      (fun c s => rAccepted) ∧
    runs opAxisMove .axisMoveRelative (fun c s =>
        let a := pw c 0 % 16
        let x := axis s a
        a < 8 ∧ bits (pw c 0) 4 3 = 1 ∧ fenced s 10 a = false ∧ axisMoves x = false ∧ moveFault s a 1 c = none)
      (fun c s =>
        let a := pw c 0 % 16
        startAxis s a c (sgn 32 (pw c 1)))
      (fun c s => rAccepted) ∧
    runs opAxisMove .axisDecelerate (fun c s =>
        let a := pw c 0 % 16
        let x := axis s a
        a < 8 ∧ bits (pw c 0) 4 3 = 2 ∧ fenced s 10 a = false ∧ moveFault s a 2 c = none ∧ x.decTag = 0)
      (fun c s =>
        let a := pw c 0 % 16
        decelAxis s a c)
      (fun c s => rAccepted) ∧
    runs opAxisMove .axisFollow (fun c s =>
        let a := pw c 0 % 16
        let x := axis s a
        a < 8 ∧ bits (pw c 0) 4 3 = 3 ∧ fenced s 10 a = false ∧ axisMoves x = false ∧ moveFault s a 3 c = none)
      (fun c s =>
        let a := pw c 0 % 16
        let x := axis s a
        setAxis s a { x with st := 3, input := bits (pw c 0) 10 2, target := x.pos, lastEdge := none, plan := none, ending := false })
      (fun c s => rOk) ∧
    runs opAxisMove .axisEndFollowing (fun c s =>
        let a := pw c 0 % 16
        a < 8 ∧ bits (pw c 0) 4 3 = 4 ∧ fenced s 10 a = false ∧ moveFault s a 4 c = none)
      (fun c s =>
        let a := pw c 0 % 16
        let x := axis s a
        if x.st = 3 then setAxis s a (endFollow { x with ending := true }) else s)
      (fun c s => rOk) ∧
    runs opAxisMove .axisQuickStop (fun c s =>
        let a := pw c 0 % 16
        a < 8 ∧ bits (pw c 0) 4 3 = 5 ∧ fenced s 10 a = false ∧ moveFault s a 5 c = none)
      (fun c s =>
        let a := pw c 0 % 16
        stopAxis s a 0)
      (fun c s => rOk) ∧
    runs opAxisHome .axisHomeSet (fun c s =>
        let a := pw c 0 % 16
        let x := axis s a
        a < 8 ∧ fenced s 10 a = false ∧ axisMoves x = false ∧ bits (pw c 0) 4 2 = 0)
      (fun c s =>
        let a := pw c 0 % 16
        homeHere s a (sgn 32 (pw c 1)))
      (fun c s => rOk) ∧
    runs opAxisHome .axisHomeSearch (fun c s =>
        let a := pw c 0 % 16
        let x := axis s a
        a < 8 ∧ fenced s 10 a = false ∧ axisMoves x = false ∧ (bits (pw c 0) 4 2 = 1 ∨ bits (pw c 0) 4 2 = 2) ∧ pw c 2 ≠ 0 ∧ pw c 2 ≤ axisW s a 0)
      (fun c s =>
        let a := pw c 0 % 16
        let x := axis s a
        setAxis s a { turnAxis x (bits (pw c 0) 4 2 == 1) (nowLocal s) with
          st := 4, op := 0x58, tag := c.tag + 1, kind := 2, start := nowLocal s, v := pw c 2, a := axisW s a 4, j := 0, emitted := 0, dec := none
          homePos := sgn 32 (pw c 1), zSeen := false })
      (fun c s => rAccepted)

/-- Accepted and in range, LOOP_DEFINE, LOOP_LUT_LOAD and LOOP_ENABLE change the slot as chapter 11 says; SETPOINT_SET sets a
slot's override or gives it up; TRACE_ARM arms, triggers or ends the trace, and TRACE_READ answers samples of a trace that
has ended, where a sample beyond those taken is a free value. -/
def Obligations.LoopAndTraceCommandsComplete : Prop :=
    runs opLoopDefine .loopDefine (fun c s =>
        let k := bits (pw c 0) 24 5
        ¬(slotExists s k = false) ∧
          ¬(slotEnabled s k) ∧
          loopFault (slotKind s k) c = none)
      (fun c s =>
        let k := bits (pw c 0) 24 5
        setLoop s k { loopSlot s k with defn := some ((List.range 8).map (pw c)) })
      (fun c s =>
        rOk) ∧
    runs opLoopLutLoad .loopLutLoad (fun c s =>
        let h := pw c 0
        let n := bits h 0 6
        let first := bits h 16 6
        let k := bits h 24 5
        ¬(c.len ≠ 1 + n) ∧
          ¬(slotExists s k = false ∨ 64 < first + n ∨ 61 < n ∨ (n = 0 ∧ bit h 31 = false)))
      (fun c s =>
        let h := pw c 0
        let n := bits h 0 6
        let first := bits h 16 6
        let k := bits h 24 5
        let t := (List.range n).foldl (fun (t : List Int) i => t.set (first + i) (sgn 32 (pw c (1 + i)))) (stagedTable s k)
        setLoop s k { loopSlot s k with staged := some t, commit := (loopSlot s k).commit || bit h 31 })
      (fun c s =>
        rOk) ∧
    runs opLoopEnable .loopEnable (fun c s =>
        let named := (List.range 32).filter fun k => bit (pw c 0) k
        ¬(named.any (fun k => !slotExists s k)))
      (fun c s =>
        let named := (List.range 32).filter fun k => bit (pw c 0) k
        named.foldl (fun t k =>
          setLoop t k { loopSlot t k with en := some (slotEnabled t k), want := some (bit (pw c 1) 0) }) s)
      (fun c s =>
        rOk) ∧
    runs opSetpointSet .setpointSet (fun c s =>
        let k := bits (pw c 0) 0 5
        slotExists s k = true ∧ bit (pw c 0) 31 = true)
      (fun c s =>
        let k := bits (pw c 0) 0 5
        setLoop s k { loopSlot s k with over_ := none, notify := false })
      (fun c s => rOk) ∧
    runs opSetpointSet .setpointSet (fun c s =>
        let k := bits (pw c 0) 0 5
        let v := sgn 32 (pw c 1)
        slotExists s k = true ∧ bit (pw c 0) 31 = false ∧ setpointOk (slotKind s k) v = true ∧ headroomTooLow s k v = false)
      (fun c s =>
        let k := bits (pw c 0) 0 5
        let v := sgn 32 (pw c 1)
        setLoop s k { loopSlot s k with over_ := some v, notify := bit (pw c 0) 30 })
      (fun c s => rOk) ∧
    runs opTraceArm .traceArmArm (fun c s => bits (pw c 0) 30 2 = 0 ∧ traceArmBad s c = false)
      (fun c s =>
        { s with trace := { Trace.cold with
           st := 1, trigSrc := bits (pw c 0) 16 8, trigArg := pw c 1, pre := bits (pw c 0) 0 15
           chans := (List.range 8).foldl (fun t i => tabSet TraceChan.cold t i (armChan (pw c (2 + i)))) [] } })
      (fun c s => rOk) ∧
    runs opTraceArm .traceArmTrigger (fun c s => bits (pw c 0) 30 2 = 1)
      (fun c s => traceFire s 0)
      (fun c s => rOk) ∧
    runs opTraceArm .traceArmDisarm (fun c s => bits (pw c 0) 30 2 = 2)
      (fun c s => if s.trace.st = 1 ∨ s.trace.st = 2 then { s with trace.st := 4 } else s)
      (fun c s => rOk) ∧
    runs opTraceRead .traceRead (fun c s =>
        let w := pw c 0
        let n := bits w 16 6
        ¬(n = 0 ∨ 58 < n) ∧
          ¬(s.trace.st = 1 ∨ s.trace.st = 2))
      (fun c s =>
        nextFree s)
      (fun c s =>
        let w := pw c 0
        let x := tchan s (bits w 24 3)
        let n := bits w 16 6
        let first := bits w 0 14
        let head := [w, s.trace.st * 2 ^ 28 + s.trace.firedBy * 65536 + x.samples.length, s.trace.firedLocal % 2 ^ 32,
          s.trace.firedLocal / 2 ^ 32]
        rWords ((head ++ (List.range n).map fun i =>
          x.samples.getD (first + i) (Config.free s.sys.free (200 + i))).map w32))

/-- Accepted and in range, TIME_GET answers its words; TIME_SOURCE_SET in STANDBY takes the source of SYSTEM time, and its
UPDATE_PATH form on a TILE leaves the path delays for the next table; TS_QUEUE_READ answers and takes time stamps; WINDOW_SET
defines a window from its next instance on, or takes it away. -/
def Obligations.TimeCommandsComplete : Prop :=
    runs opTimeGet .timeGet (fun c s =>
        True)
      (fun c s =>
        s)
      (fun c s =>
        let t := s.time
        let tile := s.sys.role == .tile
        let w0 := timeRoot s % 0x4000 * 65536 + flag (tile && t.pendStep.isSome) 11 + flag (tile && (pathOf s).isSome) 10 +
          flag t.holdover 9 + flag t.locked 8 + t.portSel * 16 + t.source
        let locks := (List.range 4).map fun p => flag (portOn s p && (ptp s p).locked) p
        let path := fun (v : Nat) => if tile then v else 0
        let pend := t.pendPath.getD (t.pathA, t.pathB)
        rWords (w32 w0 :: two32 t.loc ++ timeRecord t.sys ++ [w32 (uns 32 t.lastE), w32 (uns 32 (if t.source = 0 then 0 else t.f))] ++
          (List.range 4).flatMap (portRecord s) ++ [w32 locks.sum] ++
          two32 (if s.sys.role = .bed then t.process else 0) ++ [w32 (path pend.1), w32 (path pend.2)])) ∧
    runs opTimeSourceSet .timeSourceSet (fun c s =>
        let w := pw c 0
        let src := w % 16
        bit w 30 = false ∧ c.len = 7 ∧ s.sys.st = .standby ∧ src ≤ 3 ∧ sourceInRole s.sys.role src = true ∧ ¬(bit w 31 ∧ src ≠ 0) ∧
        ¬(src = 2 ∧ peerPortOk s (bits w 8 3) = false) ∧ ¬(bit w 31 ∧ secTicks ≤ pw c 3 + pw c 4 % 4 * 2 ^ 32))
      (fun c s =>
        let w := pw c 0
        let src := w % 16
        let s0 := { s with pair.setSource := some (src, bits w 4 2, bits w 8 3) }
        if pairStandby s then s0 else if src = 0 then freeSource (newSource s0 w) c else newSource s0 w)
      (fun c s => rOk) ∧
    runs opTimeSourceSet .timeSourceUpdatePath (fun c s => bit (pw c 0) 30 = true ∧ c.len = 7 ∧ s.sys.role = .tile)
      (fun c s => { s with time.pendPath := some (pw c 5, pw c 6) })
      (fun c s => rOk) ∧
    runs opTsQueueRead .tsQueueRead (fun c s =>
        True)
      (fun c s =>
        s)
      (fun c s =>
        let l := pw c 0 % 16
        let q := tsQueue s l
        rWords (w32 (l + q.length * 256 + tabGet 0 s.time.tsOver l * 65536) :: (q.take 15).flatten)) ∧
    runs opWindowSet .windowSet (fun c s =>
        let w := pw c 0
        bits w 26 2 ≠ 3 ∧ ¬((bits w 26 2 = 2 ∧ s.sys.role ≠ .bed) ∨ (bit w 10 ∧ s.sys.role ≠ .sender) ∨ (bit w 11 ∧ s.sys.role ≠ .bed)) ∧ bit w 31 = false)
      (fun c s =>
        let w := pw c 0
        driveFsync (fsyncOut s) (setWindow s (w % 16) Window.cold))
      (fun c s => rOk) ∧
    runs opWindowSet .windowSet (fun c s =>
        let w := pw c 0
        let d := bits w 26 2
        let start := pw c 1 + pw c 2 % 65536 * 2 ^ 32
        let stop := pw c 3 + pw c 4 % 65536 * 2 ^ 32
        let period := pw c 5
        let len := diff48 stop start
        let now := domainNow s d
        let rel := sgn 48 (uns 48 ((start : Int) - now))
        d ≠ 3 ∧ ¬((d = 2 ∧ s.sys.role ≠ .bed) ∨ (bit w 10 ∧ s.sys.role ≠ .sender) ∨ (bit w 11 ∧ s.sys.role ≠ .bed)) ∧ bit w 31 = true ∧ 1 ≤ len ∧
        ¬(period ≠ 0 ∧ (period : Int) < len) ∧ rel.natAbs ≤ 2 ^ 46 ∧ ¬(period = 0 ∧ now + rel + len ≤ now))
      (fun c s =>
        let w := pw c 0
        let d := bits w 26 2
        let start := pw c 1 + pw c 2 % 65536 * 2 ^ 32
        let stop := pw c 3 + pw c 4 % 65536 * 2 ^ 32
        let period := pw c 5
        let len := diff48 stop start
        let now := domainNow s d
        let rel := sgn 48 (uns 48 ((start : Int) - now))
        let x : Window := { enable := true, domain := d, mark := bit w 12, trace := bit w 11, fsync := bit w 10
                            evClose := bit w 9, evOpen := bit w 8, start := now + rel, stop := now + rel + len, period := period
                            isOpen := false, next := now + rel }
        let s1 := setWindow s (w % 16) (skipInstances now x)
        driveFsync (fsyncOut s) (if opensNow s1 (w % 16) then openWindow s1 (w % 16) else s1))
      (fun c s => rOk)

/-- Accepted and in range, FAULT_READ and LOG_READ answer what the Spillway and the log hold; FAULT_CLEAR clears the bits it
names and, with FIRST, the first-fault record; FAULT_INJECT opens an injection and fires the source; FENCE_RELEASE releases a
unit whose cause is gone; the OPs of CAPTURE_CONTROL start, end, report and read a capture, and those of REPLAY_CONTROL load,
run, feed and abort a replay. -/
def Obligations.SpillwayCommandsComplete : Prop :=
    runs opFaultRead .faultRead (fun c s => True)
      (fun c s => s)
      (fun c s =>
        let f := s.spill.first
        let es := (s.spill.fences.drop (pw c 0 % 256)).take 51
        rWords ([w32 s.spill.status, w32 (s.spill.status / 2 ^ 32), firstWord f] ++ two32 f.localT ++ timeRecord f.sysT ++
         [w32 (f.inst % 65536), w32 f.detail, w32 (es.length * 2 ^ 24 + pw c 0 % 256 * 65536 + s.spill.fences.length % 65536)] ++ es.map fenceWord)) ∧
    runs opFaultClear .faultClear (fun c s => True)
      (fun c s =>
        let s1 := (List.range 64).foldl (clearBit (pw c 0 + pw c 1 * 2 ^ 32)) s
        if bit (pw c 2) 0 then { s1 with spill.first := First.cold } else s1)
      (fun c s =>
        let s1 := (List.range 64).foldl (clearBit (pw c 0 + pw c 1 * 2 ^ 32)) s
        rWords [w32 s1.spill.status, w32 (s1.spill.status / 2 ^ 32)]) ∧
    runs opFaultInject .faultInject (fun c s =>
        let src := pw c 0 % 64
        let inst := bits (pw c 0) 16 16
        src ≤ 45 ∧ injectInstance s.sys.role src inst = true ∧ 1 ≤ pw c 1 ∧ pw c 1 ≤ 1000000 ∧ s.spill.injection = none)
      (fun c s =>
        let src := pw c 0 % 64
        let inst := bits (pw c 0) 16 16
        let s1 := bump { s with spill.injection := some ⟨src, inst, bit (pw c 0) 15, s.time.loc + pw c 1 * usTicks, false⟩ } 0x0D 0 4
        fireOne s1 { source := src, inst := inst, detail := 0, injected := true, noReaction := bit (pw c 0) 15 })
      (fun c s => rOk) ∧
    runs opLogRead .logRead (fun c s => pw c 1 % 8 ≠ 0 ∧ pw c 0 < s.log.next)
      (fun c s => s)
      (fun c s =>
        let oldest := s.log.next - s.log.entries.length
        let es := (s.log.entries.drop (max (pw c 0) oldest - oldest)).take (pw c 1 % 8)
        rWords ([w32 s.log.next, w32 (flag (decide (pw c 0 < oldest)) 8 + es.length)] ++ es.flatten)) ∧
    runs opLogRead .logRead (fun c s => pw c 1 % 8 ≠ 0 ∧ s.log.next ≤ pw c 0)
      (fun c s => s)
      (fun c s => rWords [w32 s.log.next, w32 0]) ∧
    runs opFenceRelease .fenceRelease (fun c s =>
        let kind := pw c 0 / 2 ^ 28
        let inst := pw c 0 % 65536
        fenceExists s.sys.role kind inst = true ∧ (s.spill.fences.find? fun f => f.kind == kind && f.inst == inst) = none)
      (fun c s => s)
      (fun c s => rOk) ∧
    (∀ f, runs opFenceRelease .fenceRelease (fun c s =>
        let kind := pw c 0 / 2 ^ 28
        let inst := pw c 0 % 65536
        fenceExists s.sys.role kind inst = true ∧ (s.spill.fences.find? fun f => f.kind == kind && f.inst == inst) = some f ∧ causeAsserted s f = false)
      (fun c s => releaseUnit s f)
      (fun c s => rOk)) ∧
    runs opCapture .captureStart (fun c s => 1 ≤ c.len ∧ c.len ≤ 10 ∧ bits (pw c 0) 30 2 = 0 ∧ ¬(1 ≤ s.cap.state ∧ s.cap.state ≤ 3) ∧ captureFault s c = none)
      (fun c s =>
        let w := pw c 0
        let s1 := { s with cap := { Capture.cold with
             state := 1, startMode := bits w 28 2, wrap := bit w 27, pixels := bit w 26, stopOnFault := bit w 25, stopSev := bits w 23 2
             headMask := w % 65536, ring := capRingAt c, ringMib := pw c 3, postMs := pw c 4
             startTime := (unshort (sysTicks s) (pw c 5 + pw c 6 % 65536 * 2 ^ 32)).toNat
             region := [pw c 7 % 65536, pw c 7 / 65536, pw c 8 % 65536, pw c 8 / 65536, pw c 9 % 8] } }
        capOriginAt s1 0)
      (fun c s => rOk) ∧
    runs opCapture .captureStop (fun c s => 1 ≤ c.len ∧ c.len ≤ 10 ∧ bits (pw c 0) 30 2 = 1)
      (fun c s => capEnd s 1)
      (fun c s => rOk) ∧
    runs opCapture .captureStatus (fun c s => 1 ≤ c.len ∧ c.len ≤ 10 ∧ bits (pw c 0) 30 2 = 2)
      (fun c s => s)
      (fun c s =>
        rWords ([w32 (s.cap.state % 16 + s.cap.endCause % 16 * 16 + flag s.cap.wrap 8 + flag s.cap.wrapped 9 + flag s.cap.lost 10)] ++
         two32 s.cap.bytes ++ [w32 s.cap.writeOff, w32 (oldestCheckpoint s)] ++ two32 s.cap.originLocal)) ∧
    runs opCapture .captureRead (fun c s => 1 ≤ c.len ∧ c.len ≤ 10 ∧ bits (pw c 0) 30 2 = 3 ∧ 1 ≤ pw c 2 ∧ pw c 2 ≤ 240 ∧ pw c 1 + pw c 2 ≤ capSize s)
      (fun c s => s)
      (fun c s => rWords (wordsOf (if s.sys.role = .tile then tabGetList 0 s.cap.onChip (pw c 1) (pw c 2) else rdBytes s (s.cap.ring + pw c 1) (pw c 2)))) ∧
    runs opReplay .replayLoad (fun c s => bits (pw c 0) 30 2 = 0 ∧ s.rep.st ≠ 3 ∧ s.rep.st ≠ 1 ∧ (s.sys.role ≠ .tile → pw c 1 + pw c 2 * 2 ^ 32 + pw c 3 ≤ dramTop s ∧ pw c 5 + pw c 6 * 2 ^ 32 + 16 * pw c 7 ≤ dramTop s))
      (fun c s =>
        let s1 := { s with rep := { Replay.cold with
           st := 1, src := pw c 1 + pw c 2 * 2 ^ 32, len := pw c 3, startOff := pw c 4, table := pw c 5 + pw c 6 * 2 ^ 32, entries := pw c 7, tag := c.tag } }
        if s.sys.role == .tile then s1 else finishLoad s1)
      (fun c s => rAccepted) ∧
    runs opReplay .replayRun (fun c s => bits (pw c 0) 30 2 = 1 ∧ s.rep.st = 2)
      (fun c s =>
        let s1 := { s with rep.st := 3, rep.tag := c.tag, rep.stopOnMismatch := bit (pw c 0) 29 }
        if s.sys.role = .tile then feedsDone (Machine.replayRun (repAvail s1 / 16 + 1) s1) else s1)
      (fun c s => rAccepted) ∧
    runs opReplay .replayFeed (fun c s =>
        let n := pw c 2 % 256
        bits (pw c 0) 30 2 = 2 ∧ s.sys.role = .tile ∧ s.rep.st ≠ 0 ∧ pw c 1 = s.rep.fed.length ∧ 1 ≤ n ∧ n ≤ 232 ∧ n ≤ (bytesOf (c.payload.drop 4)).length)
      (fun c s =>
        let fed := s.rep.fed ++ feedBytes c
        let s1 := { s with rep.fed := fed, rep.feeds := s.rep.feeds ++ [(fed.length, c.tag)] }
        let s2 := if s1.rep.st = 1 ∧ (repRecord s1 0).isSome then finishLoad s1 else s1
        feedsDone (Machine.replayRun (repAvail s2 / 16 + 1) s2))
      (fun c s => rAccepted) ∧
    runs opReplay .replayAbort (fun c s => bits (pw c 0) 30 2 = 3)
      (fun c s => cmdEnds (replayStop s 1) c.tag 0x85 0)
      (fun c s => rAccepted)

/-- Accepted, THERMAL_READ answers its words and, with ACK and a held shutdown record, erases the record and raises its
event; THERMAL_LIMITS_SET in range takes the limits and clears their runs; AGEING_REPORT, MARGIN_REPLAN, CAL_RUN and
CAL_STATUS act as chapters 15 and 16 say. -/
def Obligations.ThermalAndCalibrationCommandsComplete : Prop :=
    runs opThermalRead .thermalRead (fun c s => True)
      (fun c s => if bit (pw c 0) 0 ∧ shutHeld s then raise (emit { s with nv.shutRec := [] } (.record 2 0 [])) 0x0E06 [] else s)
      (fun c s => rWords (thermalWords s)) ∧
    runs opThermalLimitsSet .thermalLimitsSet (fun c s =>
        let warn := pw c 0 % 65536
        let thr := pw c 0 / 65536
        let shut := pw c 1 % 65536
        let rise := pw c 1 / 65536
        640 ≤ warn ∧ warn ≤ 1680 ∧ warn + 16 ≤ thr ∧ thr ≤ 1760 ∧ thr + 80 ≤ shut ∧ shut ≤ 1920 ∧ 16 ≤ rise ∧ rise ≤ 320)
      (fun c s =>
        let warn := pw c 0 % 65536
        let thr := pw c 0 / 65536
        let shut := pw c 1 % 65536
        let rise := pw c 1 / 65536
        { s with th.limWarn := warn, th.limThrottle := thr, th.limShut := shut, th.limRise := rise
                 th.warnRun := 0, th.throttleRun := 0, th.shutRun := 0, th.riseRun := 0 })
      (fun c s => rOk) ∧
    runs opAgeingReport .ageingReport (fun c s =>
        True)
      (fun c s =>
        s)
      (fun c s =>
        let row := fun d =>
          [w32 (flag (!domainUsed s.sys.role d) 25 + flag (tabGet 0 s.th.age.below d == 1) 24 + d * 65536 + keyU s 0x0E08 d 1 % 256 * 256 +
              margin s d % 256), w32 (metric s d)]
        rWords ((List.range 5).flatMap row ++
          [w32 s.th.age.hours, w32 s.th.age.lastReplan, w32 (s.th.age.lastReplan + keyU s 0x0E07 0 2)])) ∧
    runs opMarginReplan .marginReplan (fun c s =>
        let mask := pw c 0 % 32
        ¬(mask ≠ 0 ∧ ((List.range 5).any fun d => bit mask d && domainUsed s.sys.role d) = false) ∧
          ¬(s.th.pendReplan.isSome))
      (fun c s =>
        let mask := pw c 0 % 32
        { s with th.pendReplan := some { mask := mask, dry := bit (pw c 0) 31, tag := some c.tag } })
      (fun c s =>
        rAccepted) ∧
    (∀ d u21, runs opCalRun .calRun (fun c s =>
        let inst := pw c 0 / 65536
        let mask := pw c 0 % 16
        let ds := (List.range 4).filter fun d => bit mask d
        let here := ds.filter fun d => !(calInstances s.sys.role d).isEmpty
        ¬(ds.isEmpty ∨ (inst ≠ 0xFFFF ∧ ds.length ≠ 1)) ∧
          here = d :: u21 ∧
          ¬(inst ≠ 0xFFFF ∧ (calInstances s.sys.role d).contains inst = false) ∧
          ¬(s.cal.run.isSome ∨ s.rep.st ≠ 0))
      (fun c s =>
        let inst := pw c 0 / 65536
        let mask := pw c 0 % 16
        let ds := (List.range 4).filter fun d => bit mask d
        let here := ds.filter fun d => !(calInstances s.sys.role d).isEmpty
        let r : CalRun := { tag := c.tag, inst := inst, service := s.sys.st == .service, domains := here, todo := [], done := 0, fails := 0 }
        calGo { s with cal.run := some { r with todo := runList s r d } })
      (fun c s =>
        rAccepted)) ∧
    runs opCalStatus .calStatus (fun c s =>
        True)
      (fun c s =>
        s)
      (fun c s =>
        rWords ((List.range 4).flatMap (calWords s)))

/-- Accepted and in range, IMAGE_BEGIN opens a session over the idle slot, which is erased unless it is empty, or erases it
alone; IMAGE_CHUNK at the session's offset programs its bytes once they are erased and acknowledges bytes already held;
IMAGE_END begins the verification; IMAGE_ACTIVATE holds the activation; IMAGE_CONFIRM confirms a trial whose self-test has
passed; IMAGE_FORWARD begins forwarding; IMAGE_STATUS answers. -/
def Obligations.ImageCommandsComplete : Prop :=
    runs opImageBegin .imageBegin (fun c s =>
        let total := pw c 0
        let w := pw c 1
        total % 4 = 0 ∧ 516 ≤ total ∧ total ≤ 16773632 ∧ runningTrial s = false ∧ s.img.forward = none ∧ (s.img.session.isSome ∨ s.img.eraseOnly → bit w 16 = true))
      (fun c s =>
        let total := pw c 0
        let w := pw c 1
        let s1 := dropSession s
        let k := idleSlot s1
        let done := if (imgSlot s1 k).st = 0 then slotBytes else 0
        let s2 := writeBoot (setImgSlot s1 k { st := 1, hdr := ImgHdr.zero, data := [] })
        if bit w 17 then { s2 with img.erased := 0, img.eraseOnly := true }
        else { s2 with img.erased := done, img.session := some { id := w % 65536, total := total, got := [] } })
      (fun c s => rOk) ∧
    (∀ x, runs opImageChunk .imageChunk (fun c s =>
        let n := c.len - 2
        3 ≤ c.len ∧ s.img.session = some x ∧ x.id = pw c 1 % 65536 ∧ pw c 0 = x.got.length ∧ pw c 0 + 4 * n ≤ x.total ∧ slotOff (pw c 0 + 4 * n - 1) + 1 ≤ s.img.erased)
      (fun c s =>
        let n := c.len - 2
        let d := (bytesOf (c.payload.drop 2)).take (4 * n)
        { flashChunk (bump s 0x10 0 2) (idleSlot s) (pw c 0) d with img.session := some { x with got := x.got ++ d } })
      (fun c s => rOk)) ∧
    (∀ x, runs opImageChunk .imageChunk (fun c s =>
        let n := c.len - 2
        3 ≤ c.len ∧ s.img.session = some x ∧ x.id = pw c 1 % 65536 ∧ pw c 0 + 4 * n ≤ x.got.length)
      (fun c s => bump s 0x10 0 3)
      (fun c s => rOk)) ∧
    (∀ x, runs opImageEnd .imageEnd (fun c s =>
        s.img.session = some x ∧
          ¬(x.id ≠ pw c 0 % 65536 ∨ x.got.length < x.total) ∧
          ¬(s.img.verifying.isSome))
      (fun c s =>
        { s with img.verifying := some c.tag })
      (fun c s =>
        rAccepted)) ∧
    runs opImageActivate .imageActivate (fun c s =>
        let mode := pw c 0 % 4
        let timed := bit (pw c 0) 2
        let t := unshort (sysTicks s) (pw c 2 % 65536 * 2 ^ 32 + pw c 1)
        let now : Int := nowSys s
        ¬(s.sys.role = .bed ∧ s.sys.st ≠ .standby ∧ s.sys.st ≠ .hold) ∧
          ¬(c.len ≠ 3) ∧
          ¬((imgSlot s (idleSlot s)).st ≠ 2) ∧
          ¬(1 < mode ∨ (mode = 0 ∧ (imgSlot s (idleSlot s)).hdr.abi ≠ (runHdr s).abi)) ∧
          ¬(timed ∧ (t < now + msTicks ∨ now + 60 * secTicks < t)) ∧
          ¬(runningTrial s ∨ imgBusy s ∨ s.img.act.isSome ∨ othersInFlight s c.tag) ∧
          ¬(pairActive s))
      (fun c s =>
        let mode := pw c 0 % 4
        let timed := bit (pw c 0) 2
        let t := unshort (sysTicks s) (pw c 2 % 65536 * 2 ^ 32 + pw c 1)
        { s with img.act := some { tag := c.tag, mode := mode, at_ := if timed then some t else none } })
      (fun c s =>
        rAccepted) ∧
    runs opImageConfirm .imageConfirm (fun c s => runningTrial s = false)
      (fun c s => s)
      (fun c s => rOk) ∧
    runs opImageConfirm .imageConfirm (fun c s => runningTrial s = true ∧ s.img.selftest = 1)
      (fun c s => confirmImage s)
      (fun c s => rOk) ∧
    (∀ d, runs opImageForward .imageForward (fun c s =>
        let depth := pw c 0 % 256
        let runs := bit (pw c 0) 8
        let st := (imgSlot s (idleSlot s)).st
        let nb := neighbour s
        ¬(depth = 0 ∨ depth = 255 ∨ (runs = false ∧ st ≠ 2 ∧ st ≠ 4) ∨ (runs ∧ runningTrial s)) ∧
          ¬(imgBusy s) ∧
          nb.2 = some d ∧
          ¬(portLocked s nb.1 = false))
      (fun c s =>
        let depth := pw c 0 % 256
        let runs := bit (pw c 0) 8
        let data := slotData (imgSlot s (if runs then runSlot s else idleSlot s))
        let f : Forward := { tag := c.tag, depth := depth, data := data, dest := d, stage := 0, next := 0, open_ := [], session := c.tag }
        { sendForward s f 0xB0 0xFC0 [w32 data.length, w32 f.session] with img.forward := some f })
      (fun c s =>
        rAccepted)) ∧
    runs opImageStatus .imageStatus (fun c s =>
        True)
      (fun c s =>
        s)
      (fun c s =>
        let m := s.img
        let x := m.session.getD { id := 0, total := 0, got := [] }
        let depth := match m.forward with
          | some f => f.depth
          | none => 0
        let cause := match m.record with
          | some r => r.cause
          | none => 0
        rWords ([w32 (trialLeft s % 65536 * 65536 + m.selftest % 4 * 256 + flag m.forward.isSome 7 + flag m.session.isSome 6 +
            flag (runningTrial s) 5 + flag m.fallback 4 + runSlot s),
          w32 x.got.length, w32 x.total, w32 (depth % 256 * 65536 + x.id % 65536)] ++ slotWords m.a ++ slotWords m.b ++
          [w32 m.floor, w32 (cause % 256)]))

/-- Accepted and in range, LANE_STATUS answers its words; LANE_LOOPBACK puts a lane into a loopback or pattern mode and takes
it out; LANE_BITSLIP tests a window, whose quality and offset are free values, slips or searches again, and answers the
result; LANE_EYE_SCAN starts a scan or reads the last one. -/
def Obligations.LaneCommandsComplete : Prop :=
    runs opLaneStatus .laneStatus (fun c s =>
        let first := pw c 0 % 16
        let n := bits (pw c 0) 4 3
        ¬(n = 0 ∨ 16 < first + n))
      (fun c s =>
        s)
      (fun c s =>
        let first := pw c 0 % 16
        let n := bits (pw c 0) 4 3
        rWords ((List.range n).flatMap fun i => laneWords s (first + i))) ∧
    runs opLaneLoopback .laneLoopback (fun c s =>
        let w := pw c 0
        let l := w % 16
        bits w 4 3 ≤ 3 ∧ bits w 8 4 ≤ 4 ∧ fenced s 1 l = false ∧ ((pamPattern (bits w 8 4) && laneModeOf s l == 2) || (nrzPattern (bits w 8 4) && laneModeOf s l != 2)) = false ∧ bits w 4 3 ≠ 0)
      (fun c s =>
        let w := pw c 0
        let l := w % 16
        let x := lane s l
        let err := if bits w 4 3 = x.loop ∧ bits w 8 4 = x.pattern then x.patErr else 0
        beginLoop (setLane s l { x with loop := bits w 4 3, pattern := bits w 8 4, patErr := err, st := 6, found := false, verify := false, mode := laneModeOf s l }) l)
      (fun c s => rOk) ∧
    runs opLaneLoopback .laneLoopback (fun c s =>
        let w := pw c 0
        let l := w % 16
        bits w 4 3 = 0 ∧ bits w 8 4 ≤ 4 ∧ fenced s 1 l = false ∧ ((pamPattern (bits w 8 4) && laneModeOf s l == 2) || (nrzPattern (bits w 8 4) && laneModeOf s l != 2)) = false)
      (fun c s =>
        let w := pw c 0
        let l := w % 16
        let x := lane s l
        let err := if 0 = x.loop ∧ bits w 8 4 = x.pattern then x.patErr else 0
        let y := { x with loop := 0, pattern := bits w 8 4, patErr := err }
        if x.st = 6 then
          let s1 := linePath (setLane s l { y with st := if laneUse s l = .none then 0 else 1 }) l
          if x.los ∨ laneUse s l = .none then s1 else startTraining s1 l (bundleLane s l)
        else setLane s l y)
      (fun c s => rOk) ∧
    runs opLaneBitslip .laneBitslipTest (fun c s =>
        let w := pw c 0
        let l := w % 16
        let x := lane s l
        isWotor s l = true ∧ x.st ≠ 2 ∧ fenced s 1 l = false ∧ bits w 8 2 = 0)
      (fun c s =>
        let w := pw c 0
        let l := w % 16
        testWindow (suspendSearch s l) l)
      (fun c s =>
        let w := pw c 0
        let l := w % 16
        rWords (bitslipWords (lane (testWindow (suspendSearch s l) l) l))) ∧
    runs opLaneBitslip .laneBitslipSlip (fun c s =>
        let w := pw c 0
        let l := w % 16
        let x := lane s l
        isWotor s l = true ∧ x.st ≠ 2 ∧ fenced s 1 l = false ∧ (bits w 8 2 = 1 ∧ w / 65536 ≤ 5439 ∧ (x.mode = 2 ∨ w / 65536 % 2 = 0)))
      (fun c s =>
        let w := pw c 0
        let l := w % 16
        let y := lane (suspendSearch s l) l
        setLane (suspendSearch s l) l { y with position := (y.position + w / 65536) % 5440 })
      (fun c s =>
        let w := pw c 0
        let l := w % 16
        let y := lane (suspendSearch s l) l
        rWords (bitslipWords (lane (setLane (suspendSearch s l) l { y with position := (y.position + w / 65536) % 5440 }) l))) ∧
    runs opLaneBitslip .laneBitslipAuto (fun c s =>
        let w := pw c 0
        let l := w % 16
        isWotor s l = true ∧ (lane s l).st ≠ 2 ∧ fenced s 1 l = false ∧ bits w 8 2 = 2)
      (fun c s =>
        let w := pw c 0
        let l := w % 16
        let y := lane (suspendSearch s l) l
        let z := setLane (suspendSearch s l) l { y with st := if y.los then 1 else if y.markMode then 4 else 3, attempts := 0, hits := [], huntAt := s.time.loc }
        z)
      (fun c s =>
        let w := pw c 0
        let l := w % 16
        let y := lane (suspendSearch s l) l
        let z := setLane (suspendSearch s l) l { y with st := if y.los then 1 else if y.markMode then 4 else 3, attempts := 0, hits := [], huntAt := s.time.loc }
        rWords (bitslipWords (lane z l))) ∧
    runs opLaneEyeScan .laneEyeScanStart (fun c s =>
        let w := pw c 0
        let l := w % 16
        let x := lane s l
        bit w 31 = false ∧ 6 ≤ bits w 16 4 ∧ bits w 16 4 ≤ 12 ∧ bits w 13 3 ≤ 4 ∧ bits w 10 3 ≤ 4 ∧ bits w 8 2 ≠ 3 ∧
        scanPoints (bits w 13 3) (bits w 10 3) ≤ 1024 ∧ ¬(bits w 8 2 ≠ 0 ∧ x.mode = 2) ∧ x.st = 5 ∧ quadScan s l = false)
      (fun c s =>
        let w := pw c 0
        let l := w % 16
        { s with lanes.scans := tabSet EyeScan.cold s.lanes.scans l { lane := l, points := scanPoints (bits w 13 3) (bits w 10 3), running := true, tag := c.tag, aborted := false, codes := [] } })
      (fun c s => rAccepted) ∧
    runs opLaneEyeScan .laneEyeScanRead (fun c s => bit (pw c 0) 31 = true)
      (fun c s => s)
      (fun c s =>
        let e := tabGet EyeScan.cold s.lanes.scans (pw c 0 % 16)
        let got := (e.codes.drop (pw c 1 % 65536)).take 240
        rWords (w32 (got.length % 256 * 65536 + e.points % 65536) :: wordsOf (got.map b8)))

/-- PORST_N going low puts the device into RESET at once, whatever its state, with emission off; PORST_N going high after it
samples the role, the tile ID and the EMIT_EN pins and begins BOOT. -/
def Obligations.PortResetCompletes : Prop :=
    (∀ s : State, exec .porstNAssert s = .next (porstLow s) ∧ (porstLow s).sys.st = .reset ∧ (porstLow s).sys.porstLow = true ∧ emissionOn (porstLow s) = false ∧ (porstLow s).pending = s.pending) ∧
    (∀ (role tileId : Nat) (emitA emitB : Bool) (o : BootObs) (s : State), exec (.porstNRelease role tileId emitA emitB o) s = .next { porstHigh role tileId emitA emitB o s with pending := s.pending })

/-- With the conditions named, a doorbell takes the command of its mailbox, a response leaves by its path, the command ring
fetches entries and writes responses, the event queue writes records and notifies, and each register write and read has its
own effect. -/
def Obligations.HostRegistersComplete : Prop :=
    (∀ (n : Nat), steps (.mbxDoorbell n) (fun s => ¬(8 ≤ n ∨ s.sys.st = .reset))
      (fun s =>
        let m := mbox s n
        let tag := bits (slotWord m 0) 12 12
        if m.busy then
          fire (bump (setMbox s n { m with refused := true }) 0 0 3) 38 n (1 + tag * 65536)
        else if s.sys.notReady then
          irq (bump (setMbox s n { m with tag := tag, done := true, busy := false, hwAnswer := true, taken := []
                                          resp := notReadyWords s tag }) 0 0 4) (2 ^ n)
        else setMbox s n { m with tag := tag, done := false, busy := true, taken := slotTake m })) ∧
    (∀ r, steps .commandResponse (fun s => findResp (fun r => r.path != 8) s.cmds.responses = some r)
      (fun s =>
        let s1 := if r.path < 8 then mailboxResp s r.path r
          else if r.path = 9 then serviceResp s r
          else if r.path = 10 then mailboxResp s (r.origin % 8) r
          else mgmtResp s r
        finishResp s1 r)) ∧
    (∀ (v : Nat), steps (.crTailWrite v) (fun s => ringRole s = true)
      (fun s => { s with regs.cr := { s.regs.cr with hostIx := v % 4096 } })) ∧
    (∀ (e : List Word), steps (.ringEntryFetch e) (fun s => ¬(canFetch s = false))
      (fun s =>
        let s1 := { s with regs.cr := { s.regs.cr with devIx := (s.regs.cr.devIx + 1) % max 1 s.regs.cr.effSize } }
        let c := entryCmd e
        let pay := entryWord e 4 + entryWord e 5 * 2 ^ 32
        if entryWord e 2 % 16 ≠ 0 ∨ pay % 4 ≠ 0 then fire s1 38 8 (3 + c.tag * 65536)
        else if pay = 0 ∧ 10 < c.len then answer s1 (bits (entryWord e 0) 24 8) c (rBad .badLength 0xFFFF) false
        else { s1 with cmds.fetched := s1.cmds.fetched ++ [(c.origin, c.tag)] })) ∧
    (∀ r, steps .ringResponseWrite (fun s =>
        findResp (fun r => r.path == 8) s.cmds.responses = some r ∧
          ¬(s.regs.cr.dmaError))
      (fun s =>
        let s1 := emits s [.hostWrite (r.origin + 4) (r.words.drop 1), .hostWrite r.origin (r.words.take 1)]
        let s2 := if r.notify then emit s1 (.msix (bits s.regs.cr.ctrl 8 5)) else s1
        finishResp { s2 with cmds.fetched := s2.cmds.fetched.erase (r.origin, r.tag) } r)) ∧
    (∀ (v : Nat), steps (.crCtrlWrite v) (fun s => ringRole s = true)
      (fun s => { s with regs.cr := ringEnable s.regs.cr (crCtrlMask v) 16 4096 })) ∧
    (∀ (v : Nat), steps (.eqCtrlWrite v) (fun s => ringRole s = true)
      (fun s => { s with regs.eq := ringEnable s.regs.eq (eqCtrlMask v) 64 65536 })) ∧
    (∀ (v : Nat), steps (.eqHeadWrite v) (fun s => ringRole s = true)
      (fun s => { s with regs.eq := { s.regs.eq with hostIx := v % 65536 } })) ∧
    (∀ r rest, steps .eventRecordWrite (fun s =>
        s.evs.held = r :: rest ∧
          ¬(eqRoom s = false ∨ s.sys.notReady))
      (fun s =>
        let q := s.regs.eq
        let s1 := emit { s with evs.held := rest, regs.eq := { q with devIx := (q.devIx + 1) % max 1 q.effSize } }
          (.hostWrite (q.effBase + 16 * q.devIx) r)
        eqNotify (irq s1 irqEvent))) ∧
    (∀ t, steps .eventCoalesceExpiry (fun s =>
        s.evs.coalesceUntil = some t ∧
          ¬(s.time.loc < t))
      (fun s =>
        if s.evs.notifyPending then eqNotify { s with evs.coalesceUntil := none }
          else { s with evs.coalesceUntil := none })) ∧
    (∀ (queue : Bool), steps (.ringDmaError queue) (fun _ => True)
      (fun s =>
        if queue then
          if s.regs.eq.running = false then s else
          fire (irq { s with regs.eq := { s.regs.eq with dmaError := true, running := false } } irqHostError) 37 0 2
        else
          if s.regs.cr.running = false then s else
          fire (irq { s with regs.cr := { s.regs.cr with dmaError := true, running := false } } irqHostError) 37 0 1)) ∧
    steps .eqStatusRead (fun _ => True)
      (fun s => emit { s with regs.eqDropped := 0 } (.readData 0 [w32 (eqStatus s)])) ∧
    (∀ (v : Nat), steps (.irqStatusWrite v) (fun _ => True)
      (fun s => { s with regs.irqStatus := s.regs.irqStatus - Nat.land s.regs.irqStatus v })) ∧
    (∀ (n : Nat) (v : Nat), steps (.mbxStatusWrite n v) (fun s => ¬(8 ≤ n))
      (fun s =>
        let m := mbox s n
        setMbox s n { m with done := m.done && !bit v 1, refused := m.refused && !bit v 2 })) ∧
    steps .timeLatch (fun _ => True)
      (fun s => { s with regs.timeSys := timeForm s (sysTicks s), regs.timeLocal := s.time.loc })

/-- With the conditions named, register writes of 4 aligned bytes reach their register; BAR2 writes DRAM but for protected
areas and reads it; a SPI transaction of a TILE writes or reads registers; the service port takes datagrams, answers ARP
requests and sends events; losing the PCIe link of a running device records DIE_LINK. -/
def Obligations.HostPathsComplete : Prop :=
    (∀ (off : Nat) (width : Nat) (v : Nat), steps (.registerWrite off width v) (fun s => ¬(s.sys.st = .reset))
      (fun s =>
        if width ≠ 4 ∨ off % 4 ≠ 0 then bump s 0 0 6
          else if off < 65536 then barWrite off v s else s)) ∧
    (∀ (off : Nat) (data : List Byte), steps (.bar2Write off data) (fun s => ¬(bar2Reaches s off data.length = false))
      (fun s =>
        let at_ := bar2Base s + off
        let areas := protectedAreas s
        let l := droppedBytes areas at_ data.length
        let ts := touched areas l
        ts.foldl (pinnedLog (l.headD 0)) (countDrops (keepBytes areas at_ data s) ts))) ∧
    (∀ (off : Nat) (n : Nat), steps (.bar2Read off n) (fun s => ¬(bar2Reaches s off (4 * n) = false))
      (fun s =>
        let at_ := bar2Base s + off
        let top := dramTop s
        let word := fun i => if top < at_ + 4 * i + 4 then w32 0xFFFFFFFF else w32 (rdLe s (at_ + 4 * i) 4)
        emit (if top < at_ + 4 * n then bump s 0 0 9 else s) (.readData 1 ((List.range n).map word)))) ∧
    (∀ (l : List Byte), steps (.spiTransaction l) (fun s =>
        let off := (l.getD 1 0).toNat * 256 + (l.getD 2 0).toNat
        ¬(s.sys.role ≠ .tile ∨ s.sys.st = .reset) ∧
          ¬(off % 4 ≠ 0))
      (fun s =>
        let off := (l.getD 1 0).toNat * 256 + (l.getD 2 0).toNat
        if (l.getD 0 0).toNat = 0x02 then spiWrite l.length off (l.drop 3) s
          else if (l.getD 0 0).toNat = 0x0B then
            emit s (.readData 10 ((List.range ((l.length - 4) / 4)).map fun i => w32 (barRead s ((off + 4 * i) % 65536))))
          else s)) ∧
    (∀ (origin : Nat) (version : Nat) (kind : Nat) (seq : Nat) (words : List Word), steps (.serviceDatagram origin version kind seq words) (fun s => ¬(version ≠ 1 ∨ kind ≠ 0 ∨ s.sys.st = .reset))
      (fun s =>
        let tag := bits (entryWord words 0) 12 12
        if s.sys.notReady then emit (bump s 0 0 4) (.datagram origin 1 seq (notReadyWords s tag))
        else match s.cmds.cache.find? fun k => k.origin == origin && k.tag == tag && k.cmd == words with
          | some k => emit (bump s 0 0 8) (.datagram origin 1 seq k.resp)
          | none =>
            if 32 ≤ serviceInFlight s then
              let s1 := logAdd (bump (bump s 0 0 7) 0 0 1) 0x0D03
                (args [(1, bits (entryWord words 0) 24 8), (1, statusCode .noCredit), (2, tag), (1, 9)])
              emit s1 (.datagram origin 1 seq (respWords s1 tag (rBad .noCredit 0xFFFF) false))
            else { s with cmds.serviceCmds := s.cmds.serviceCmds ++
                [{ origin := origin, tag := tag, seq := seq % 65536, cmd := words, resp := [] }] })) ∧
    (∀ (ip asker : Nat), steps (.serviceArp ip asker) (fun s => ¬(s.sys.notReady ∨ ip ≠ serviceIp s))
      (fun s => emit s (.arp 4 ip (macBase + 4) asker))) ∧
    steps .serviceEventDatagram (fun s => ¬(s.sys.notReady ∨ s.evs.svc.isEmpty ∨ eqEnabled s ∨ keyU s 0x0002 0 4 = 0))
      (fun s =>
        let e := takeEvents 64 s.evs.svc
        emit { s with evs.svc := s.evs.svc.drop e.length, cmds.eventSeq := (s.cmds.eventSeq + 1) % 65536 }
          (.datagram (keyU s 0x0002 0 4 * 65536 + keyU s 0x0002 4 2) 2 s.cmds.eventSeq (e.flatMap List.flatten))) ∧
    steps .pcieLinkLoss (fun s => ¬(s.sys.role = .tile))
      (fun s =>
        let s1 := { s with sys.pcieUp := false }
        if counted s.sys.st then fire s1 37 0 3 else s1) ∧
    steps .pcieHotReset (fun _ => True)
      (fun s => { s with sys.pcieUp := false }) ∧
    steps .pcieLinkUp (fun s => ¬(s.sys.role = .tile ∨ s.sys.st = .reset))
      (fun s => { s with sys.pcieUp := true })

/-- With the conditions named, each of these events completes. WRST_N going low puts the device into RESET. WRST_N going
high, and a warm reset 1 ms after RESET_WARM, leave the state of R664, count WARM_RESETS, log WARM_RESET, fire the lines still
asserted again and, unless the device is held in BOOT, let the boot ROM choose an image. DRAM training ends with its rate, or
fires source 5, DRAM_TRAIN. Firmware up, with the boot calibration and a TILE's restores done, brings the device to STANDBY,
or to SAFE with a FATAL source latched, and its links up. A self-test that passes confirms a trial where IMAGE_AUTO_CONFIRM is
1; one that fails, and the trial watchdog, fall back to the other image and reset warm. The activation instant makes the idle
slot the active TRIAL and resets warm, or with LIVE restarts the firmware, whose end starts a SENDER's outputs at the first
latch point 1 ms later. READY is entered from a sealed STANDBY when its conditions hold, and left when they do not. -/
def Obligations.ResetAndStartEventsComplete : Prop :=
    (∀ (o : BootObs) t, steps (.warmResetDelayExpiry o) (fun s =>
        s.sys.warmAt = some t ∧
          ¬(s.time.loc < t))
      (fun s =>
        let u := { enterReset s with sys.wrstAt := s.time.loc }
        let s1 := logAdd (bump (warmState u) 0x10 0 0) 0x0D04 (leBytes 8 u.sys.wrstAt)
        let s2 := s1.spill.lines.foldl refire s1
        if s2.sys.bootHold then s2 else bootSelect o s2)) ∧
    steps .wrstNAssert (fun _ => True)
      (fun s => if s.sys.porstLow ∨ s.sys.wrstLow then { s with sys.wrstLow := true } else { enterReset s with sys.wrstLow := true, sys.wrstAt := s.time.loc }) ∧
    (∀ (o : BootObs), steps (.wrstNRelease o) (fun s => ¬(s.sys.wrstLow = false))
      (fun s =>
        if s.sys.porstLow then { s with sys.wrstLow := false } else
        let u := { s with sys.wrstLow := false }
        let s1 := logAdd (bump (warmState u) 0x10 0 0) 0x0D04 (leBytes 8 u.sys.wrstAt)
        let s2 := s1.spill.lines.foldl refire s1
        if s2.sys.bootHold then s2 else bootSelect o s2)) ∧
    (∀ (ok7500 : Bool) (ok6400 : Bool), steps (.dramTrainingDone ok7500 ok6400) (fun s => ¬(s.sys.role = .tile ∨ s.sys.st = .reset ∨ s.sys.st = .boot ∨ s.sys.dramTrained ∨ s.sys.dramFailed))
      (fun s =>
        if ok7500 ∨ ok6400 then
            let rate := if ok7500 then 7500 else 6400
            raise { s with sys.dramTrained := true, sys.dramRate := rate, sys.dramMib := Config.dramMib.toNat } 0x1007
              (args [(2, rate), (1, if ok7500 then 1 else 2)])
          else fire { s with sys.dramFailed := true } 5 0 1)) ∧
    (∀ (bad : List (Nat × Bool)) (lines : List (Nat × List Nat × List Nat)) (ests : List (Nat × Int)), steps (.firmwareUp bad lines ests) (fun s => ¬(s.sys.st ≠ .boot ∨ s.img.running = none ∨ s.sys.bootHold))
      (fun s =>
        let s1 := bootCal bad lines ests s
        let s2 := if s.sys.role = .tile then wearRestore (fretRestore s1) else s1
        let s3 := irq { s2 with sys.notReady := false, th.age.hourAt := s.time.loc - s.th.age.hourPart } irqFwReady
        let s4 := match fatalLatched s3 with
          | some _ => setState s3 .safe 2
          | none => enterState .standby 3 false s3
        activatedWarm (linksUp s4))) ∧
    (∀ (n : Nat) (o : BootObs), steps (.selftestDone n o) (fun s => ¬(runningTrial s = false ∨ s.img.selftest ≠ 0 ∨ s.sys.notReady))
      (fun s =>
        let s1 := raise s 0x1003 (args [(1, n)])
        if n = 0 then
          let s2 := { s1 with img.selftest := 1 }
          if keyU s2 0x1000 0 1 = 1 then confirmImage s2 else s2
        else
          let f := fallBack 4 { s1 with img.selftest := 2 }
          let u := { enterReset f with sys.wrstAt := f.time.loc }
          let s1 := logAdd (bump (warmState u) 0x10 0 0) 0x0D04 (leBytes 8 u.sys.wrstAt)
          let s2 := s1.spill.lines.foldl refire s1
          if s2.sys.bootHold then s2 else bootSelect o s2)) ∧
    (∀ (o : BootObs) t, steps (.trialWatchdogExpiry o) (fun s =>
        s.img.trialAt = some t ∧
          ¬(runningTrial s = false ∨ s.time.loc < t + 30 * secTicks))
      (fun s =>
        let f := fallBack 1 s
        let u := { enterReset f with sys.wrstAt := f.time.loc }
        let s1 := logAdd (bump (warmState u) 0x10 0 0) 0x0D04 (leBytes 8 u.sys.wrstAt)
        let s2 := s1.spill.lines.foldl refire s1
        if s2.sys.bootHold then s2 else bootSelect o s2)) ∧
    (∀ (o : BootObs) a, steps (.activationInstant o) (fun s =>
        s.img.act = some a ∧
          ¬(s.img.pauseAt.isSome ∨ s.sys.st = .boot ∨ activationCome s a = false))
      (fun s =>
        let k := idleSlot s
        let f := writeBoot { setSlotSt s k 3 with img.active := k, img.trialBoots := 0 }
        if a.mode = 1 then
          let u := { enterReset f with sys.wrstAt := f.time.loc }
          let s1 := logAdd (bump (warmState u) 0x10 0 0) 0x0D04 (leBytes 8 u.sys.wrstAt)
          let s2 := s1.spill.lines.foldl refire s1
          { (if s2.sys.bootHold then s2 else bootSelect o s2) with img.act := some a }
        else bootSelect o (livePause { f with img.pauseAt := some s.time.loc, sys.notReady := true }))) ∧
    steps .readyAutomatic (fun s => ¬(pausing s))
      (fun s =>
        if s.sys.st = .standby ∧ s.sys.sealed ∧ readyMet s then enterState .ready 1 false s
          else if s.sys.st = .ready ∧ readyMet s = false then enterState .standby 1 false s
          else s) ∧
    (∀ (t : Nat) (a : Activation), steps .liveRestartEnd (fun s => s.img.pauseAt = some t ∧ s.img.act = some a ∧ s.img.running ≠ none)
      (fun s => let ms := min 0xFFFF ((s.time.loc - t) / msTicks)
        let s1 := irq { s with img.pauseAt := none, img.act := none, sys.notReady := false } irqFwReady
        let s3 := cmdEnds (bootReport (raise s1 0x1002 (args [(1, runSlot s1), (1, 0), (2, ms)]))) a.tag 0xB3 0
        drainUp 64 (if s3.sys.role = .sender ∧ counted s3.sys.st then
          (List.range 8).foldl (fun u p => startOutput (nowSys u + msTicks) u p) s3 else s3)))

/-- With the conditions named, erasure of the idle slot proceeds, verification ends the session with its verdict, and the
responses of a forwarding advance it to its end. -/
def Obligations.ImageEventsComplete : Prop :=
    (∀ (sigOk : Bool) (hashOk : Bool) tag x, steps (.imageVerified sigOk hashOk) (fun s =>
        s.img.verifying = some tag ∧
          s.img.session = some x)
      (fun s =>
        let k := idleSlot s
        let h := parseHdr x.got
        let r := verifyCode s x.got h sigOk hashOk
        let s1 := writeBoot (setImgSlot { s with img.session := none, img.verifying := none } k
          { st := if r = 0 then 2 else 5, hdr := h, data := x.got })
        cmdDone (raise s1 0x1001 (args [(1, k), (1, r), (4, h.build)])) tag 0xB2 (verifyStatus r))) ∧
    (∀ (tag : Nat) (status : Nat) f, steps (.forwardChunkResponse tag status) (fun s => s.img.forward = some f)
      (fun s =>
        match f.stage with
        | 0 => if tag ≠ 0xFC0 then s else if status = 0 then fillForward 64 s { f with stage := 1 } else endForward s f status
        | 1 =>
          match f.open_.find? fun p => p.2 == tag with
          | none => s
          | some p =>
            if status = 0 then fillForward 64 s { f with open_ := f.open_.erase p }
            else if status = 0x22 ∨ (status = 0x12 ∧ f.open_.any fun q => decide (q.1 < p.1)) then sendChunk s f tag p.1
            else endForward s f status
        | _ => if tag = forwardTag (f.next / 240) ∧ status ≠ 0 ∧ status ≠ 1 then endForward s f status else s)) ∧
    (∀ (status : Nat) f, steps (.forwardDone status) (fun s => s.img.forward = some f)
      (fun s =>
        if status = 0 then
          if f.stage ≠ 2 then s
          else if 1 < f.depth then endForward (sendForward s f 0xB5 0xFC0 [w32 (f.depth - 1)]) f 0
          else endForward s f 0
        else endForward s f status)) ∧
    (∀ (n : Nat), steps (.flashEraseDone n) (fun s => ¬(s.img.session.isNone ∧ s.img.eraseOnly = false))
      (fun s =>
        let s1 := { s with img.erased := min slotBytes (s.img.erased + n) }
        if s1.img.eraseOnly ∧ s1.img.erased = slotBytes then
          { writeBoot (setSlotSt s1 (idleSlot s1) 0) with img.eraseOnly := false }
        else s1))

/-- With the conditions named, a firing of the Spillway sets the source's bit and reacts, an injection window closes, and
clocks, supplies, the supervisor, ECC, the dies and the stages report their sources. -/
def Obligations.FaultEventsComplete : Prop :=
    (∀ (src : Nat) (inst : Nat) (detail : Nat) (line : Nat), steps (.spillwayFiring src inst detail line) (fun s => ¬(45 < src ∨ s.sys.st = .reset))
      (fun s =>
        if line = 2 then releaseLine s src inst
          else if line = 1 then assertLine s src inst detail
          else fire s src inst detail)) ∧
    (∀ j, steps .injectionWindowClose (fun s =>
        s.spill.injection = some j ∧
          ¬(s.time.loc < j.endAt))
      (fun s => raise { s with spill.injection := none } 0x0D05 (args [(1, j.source), (1, b2n j.coincident)]))) ∧
    steps .dieLinkFramingLoss (fun s => s.sys.dieFramed = true)
      (fun s => fire (emitterDark { s with sys.dieFramed := false, sys.emitEnabled := false }) 45 0 0) ∧
    (∀ s : State, s.sys.role ≠ .factory → s.sys.st = .reset → s.sys.dieFramed = true →
      exec .dieLinkFramingLoss s = .next (held s { s with sys.dieFramed := false, sys.emitEnabled := false })) ∧
    (∀ (uncorr : Bool) (table : Nat) (i : Nat) (kind : Nat) (inst : Nat) (word : Nat), steps (.sramEccError uncorr table i kind inst word) (fun s => ¬(s.sys.st = .reset))
      (fun s =>
        if uncorr = false then fire s 3 0 word
          else if s.sys.role = .tile ∧ table < 4 then fretEcc s table i word
          else fire s 2 (eccInstance s 2 kind inst) word)) ∧
    (∀ (n : Nat) (cause : Nat), steps (.switchStageFault n cause) (fun s => ¬(12 ≤ n ∨ (stage s n).mode = 0 ∨ s.sys.role = .sender))
      (fun s =>
        if cause = 1 ∨ cause = 2 then fire s 20 n cause
          else if cause = 3 ∧ s.sys.role = .bed ∧ (stringRef s n).shg ∧ keyU s 0x0B36 (2 * n) 2 ≠ 0 then fire s 20 n 3
          else s)) ∧
    (∀ (ir : Nat) (valid : Bool), steps (.tapInstruction ir valid) (fun _ => True)
      (fun s =>
        if ir = 6 then { s with sys.debugToken := s.sys.debugToken || valid }
        else if 6 < ir ∨ (ir = 5 ∧ s.sys.debugToken = false) then s
        else
          let s1 := { s with sys.tapInstr := ir }
          let s2 := if ir = 1 then emit s1 (.readData 12 [w32 Config.idcode]) else s1
          if ir = 3 ∨ ir = 4 then (match s.sys.role with
            | .tile => darkenSlot s2
            | .bed => cutAllGates s2
            | _ => s2) else s2)) ∧
    (∀ (refclk : Bool), steps (.clockRootLoss refclk) (fun s => ¬(s.sys.st = .reset))
      (fun s => fire s 7 0 (b2n refclk))) ∧
    (∀ (clock : Nat), steps (.clockDerivedFail clock) (fun s => ¬(s.sys.st = .reset ∨ 3 < clock))
      (fun s => fire s 8 0 clock)) ∧
    (∀ (supply : SupplyObs), steps (.supplyOutOfWindow supply) (fun s =>
        ¬(s.sys.porstLow ∨ 9 < supply.supply ∨ outsideWindow s supply.supply supply.mv = false))
      (fun s => fire s 33 0 supply.supply)) ∧
    (∀ (watchdog : Bool), steps (.supervisorFault watchdog) (fun s => ¬(s.sys.st = .reset))
      (fun s => fire s (b2n watchdog) 0 0)) ∧
    (∀ (kind inst addr : Nat), steps (.dramEccUncorr kind inst addr) (fun s => ¬(s.sys.st = .reset ∨ s.sys.role = .tile ∨ s.sys.dramTrained = false))
      (fun s => fire s 4 (eccInstance s 4 kind inst) (addr / 8))) ∧
    steps .dieLinkFramed (fun s => ¬(s.sys.st = .reset))
      (fun s => { s with sys.dieFramed := true })

/-- With the conditions named, a capture reaches its origin, its checkpoint and its end, and a replay of DRAM consumes its
records to its end. -/
def Obligations.CaptureEventsComplete : Prop :=
    steps .captureOrigin (fun s => (s.cap.startMode = 3 ∧ s.cap.startTime ≤ sysTicks s))
      (fun s => capOrigin s) ∧
    steps .captureCheckpoint (fun s =>
        ¬(capRuns s = false ∨ s.cap.wrap = false ∨ s.time.loc < s.cap.lastCkpt + keyU s 0x0D01 0 2 * msTicks ∨
          (s.sys.role = .bed ∧ frameNumber s (buildNow s) % 1024 ≠ 0)))
      (fun s => nextFree (capRec { s with cap.lastCkpt := s.time.loc, cap.ckpts := s.cap.ckpts ++ [s.cap.bytes] } 0x0D 0 0 (checkpointBody s))) ∧
    (∀ (lost : Nat), steps (.captureEnd lost) (fun s => ¬(capRuns s = false))
      (fun s =>
        if 0 < lost then fire (capEnd { bumpN s 0x0D 0 7 lost with cap.lost := true } 3) 44 0 2
          else if s.cap.full then fire (capEnd s 2) 44 0 1
          else if s.cap.stopAt.any fun t => decide (t ≤ s.time.loc) then capEnd s 4
          else s)) ∧
    steps .replayDone (fun s => (s.rep.st = 3 ∧ s.sys.role ≠ .tile))
      (fun s => replayRun (repAvail s / 16 + 2) s)

/-- With the conditions named, PTP messages, timing cells, delay measurements and input samples steer or measure, holdover
begins and ends at its limit, and the process time limit and the free source act. -/
def Obligations.TimeEventsComplete : Prop :=
    (∀ (port : Nat) (kind : Nat) (credit : Bool) (twoStep : Bool) (domain : Nat) (clock : Nat) (rank : Nat) (seq : Nat) (stamp : Nat) (time : Nat) (corr : Int), steps (.ptpMessage port kind credit twoStep domain clock rank seq stamp time corr) (fun s => ¬(s.sys.st = .reset ∨ portOn s port = false ∨ (srcPort s port).up = false))
      (fun s =>
        if credit = false ∨ pausing s ∨ domain ≠ keyU s 0x030B port 1 ∨ 3 < kind ∨ (kind < 3 ∧ clock ≠ (ptp s port).master) then
            bump s 3 port 6
          else
            let t := arrive s (2 * port) stamp
            let s1 := capRec (bump s 3 port 5) 0x09 port 0 (leBytes 4 (2 + kind) ++ leBytes 8 t ++ leBytes 8 (uns 64 (ptpTime time corr)))
            match kind with
            | 0 => if twoStep then
                  setPtp s1 port { ptp s1 port with syncSeq := seq, syncRx := some t, syncT1 := fdiv (corr * 5) 128 }
                else portSync s1 port (ptpTime time corr) t
            | 1 => (match (ptp s1 port).syncRx with
                | some r => if (ptp s1 port).syncSeq = seq then portSync s1 port (ptpTime time corr + (ptp s1 port).syncT1) r else s1
                | none => s1)
            | 2 => portDelayResp s1 port seq (ptpTime time (-corr))
            | _ => portAnnounce s1 port rank clock)) ∧
    (∀ (port : Nat), steps (.ptpAnnounceTimeout port) (fun s => ¬(portOn s port = false ∨ (ptp s port).valid = false))
      (fun s =>
        let s1 := portUnlock s port 1
        setPtp s1 port { ptp s1 port with rank := 2 ^ 64, master := 2 ^ 64 })) ∧
    (∀ (port stamp : Nat), steps (.ptpDelayReqSend port stamp) (fun s =>
        let x := ptp s port
        ¬(portOn s port = false ∨ (srcPort s port).up = false ∨ x.valid = false))
      (fun s =>
        let x := ptp s port
        let l := 2 * port
        let seq := (x.reqSeq + 1) % 65536
        let t := depart s l stamp
        let s0 := if x.reqSent.isSome then tsDrop s l x.reqSeq 1 else s
        let p := tsPush s0 l seq 1 t
        emit (setPtp p.1 port { ptp p.1 port with reqSeq := seq, reqSent := if p.2 then some t else none })
          (.ptp port 1 seq t (keyU s 0x030C port 1) (ptpMaster s port)))) ∧
    (∀ (port : Nat) (at_ : Nat) (root : Nat) (flags : Nat) (stamp : Nat), steps (.syncTimeCell port at_ root flags stamp) (fun s => ¬(s.sys.st = .reset))
      (fun s =>
        let cell := syncCell 0 0 (timeValue at_ ++ leBytes 2 root ++ [b8 flags])
        let s0 := capCell s port stamp cell
        if (s.time.source ≠ 2 ∧ s.time.source ≠ 3) ∨ port ≠ followPort s ∨ bit flags 0 = false then s0 else
        let s1 := takePath { s0 with time.root := root % 0x4000 }
        match cellDelay s1 with
        | none => s1
        | some d =>
          let l := portLane s port
          let t := arrive s1 l stamp
          let s2 := capRec (bump s1 3 l 0) 0x09 l 0 (leBytes 4 0 ++ leBytes 8 t ++ leBytes 8 (uns 64 (rxDev s1 l)))
          takeSample s2 ((at_ : Int) * 256 + d - sysAt s2 t) (bit flags 1))) ∧
    (∀ (port probe t1 src bitB arrival departure : Nat), steps (.delayRequestCell port probe t1 src bitB arrival departure) (fun s => ¬(s.sys.st = .reset ∨ portLocked s port = false ∨ mayInsert s port = false))
      (fun s =>
        let l := portLane s port
        sendCell (learnPeer s port src) port (delayCell 1 (probe % 65536) (stamp56 t1) (stamp56 (arrive s l arrival))
          (stamp56 (depart s l departure)) (src % 0x4000) (bitB % 2)))) ∧
    (∀ (port probe t1 t2 t3 arrival : Nat) d1 deadline, steps (.delayResponseCell port probe t1 t2 t3 arrival) (fun s =>
        let x := delayOf s port
        x.sent = some (d1, deadline) ∧
          ¬(probe ≠ x.probe))
      (fun s =>
        let x := delayOf s port
        if deadline < s.time.loc ∨ t1 ≠ stamp56 d1 then delayFail s port
        else
          let l := portLane s port
          let t4 := stamp56 (arrive s l arrival)
          let s1 := tsDrop (setDelay s port { x with sent := none, past := (d1, t2) :: keepRefs d1 x.past }) l probe 0
          let s2 := capRec s1 0x09 l 0 (leBytes 4 1 ++ leBytes 8 t1 ++ leBytes 8 t2 ++ leBytes 8 t3 ++ leBytes 8 t4)
          match x.past.find? fun r => decide (r.1 + secTicks * 256 ≤ d1) with
          | none => s2
          | some r => if diff56 t1 (stamp56 r.1) = 0 ∨ diff56 t2 r.2 = 0 then bump s2 3 l 3
              else acceptRaw s2 port (rawDelay t1 t2 t3 t4 (stamp56 r.1) r.2))) ∧
    (∀ (port stamp : Nat), steps (.delayPeriodExpiry port stamp) (fun s =>
        let x := delayOf s port
        ¬(portLocked s port = false ∨ mayInsert s port = false ∨ (x.lastReq ≠ 0 ∧ s.time.loc < x.lastReq - 1 + keyU s 0x0302 0 4 * usTicks)))
      (fun s =>
        let x := delayOf s port
        let s0 := if x.sent.isSome then delayFail s port else s
        let l := portLane s port
        let t1 := depart s0 l stamp
        let id := (x.probe + 1) % 65536
        let p := tsPush s0 l id 0 t1
        let x1 := { delayOf p.1 port with probe := id, lastReq := s.time.loc + 1 }
        let s1 := if p.2 then setDelay p.1 port { x1 with sent := some (t1, s.time.loc + answerTicks s port) }
          else bump (setDelay p.1 port { x1 with sent := none }) 3 l 3
        sendCell s1 port (delayCell 0 id (stamp56 t1) 0 0 s.sys.deviceId (delayPortBit s port)))) ∧
    (∀ (port : Nat) deadline u11, steps (.delayAnswerTimeout port) (fun s =>
        (delayOf s port).sent = some (u11, deadline) ∧
          (deadline ≤ s.time.loc))
      (fun s => delayFail s port)) ∧
    steps .pathTableUpdate (fun s => ¬(s.sys.role ≠ .sender ∨ s.sys.st = .reset ∨ s.sys.st = .boot))
      (fun s =>
        (List.range 8).foldl (fun t n => (tilesOf t n).foldl (fun u k =>
          let p := pathsOf u n k
          let old := tabGet [] u.time.pathSent (tileId u n k)
          if old.isEmpty || movedBy (keyU u 0x0309 0 1) p old then sendPath u n k p else u) t) s) ∧
    (∀ (port stamp : Nat), steps (.syncTimeSend port stamp) (fun s =>
        let last := tabGet 0 s.time.syncSent port
        let period := keyU s 0x0301 0 2 * codeword100 (wport s port).rate / 100
        ¬(originates s port = false ∨ s.sys.st = .boot ∨ s.sys.st = .reset ∨ (last ≠ 0 ∧ s.time.loc < last - 1 + period)))
      (fun s =>
        let last := tabGet 0 s.time.syncSent port
        let period := keyU s 0x0301 0 2 * codeword100 (wport s port).rate / 100
        let t := depart s (portLane s port) stamp
        let flags := flag s.time.locked 0 + flag (decide (s.time.loc < s.time.stepFlagUntil)) 1
        sendCell { s with time.syncSent := tabSet 0 s.time.syncSent port (s.time.loc + 1) } port
          (syncCell 0 0 (timeValue (fdiv (sysAt s t) 256).toNat ++ leBytes 2 (timeRoot s) ++ [b8 flags])))) ∧
    steps .timeSamplePort (fun s => ¬(s.time.source ≠ 1 ∨ s.sys.role ≠ .sender ∨ pausing s ∨ s.time.loc < s.time.portTick + msTicks))
      (fun s =>
        let s1 := { s with time.portTick := alignUp s.time.portTick msTicks s.time.loc }
        let x := ptp s s.time.portSel
        if x.locked = false then s1 else
        takeSample (bump s1 3 (2 * s.time.portSel) 0) (portAt x (loc256 s) + timeOffset s - sysAt s (loc256 s)) false) ∧
    steps .holdoverEntry (fun s => ¬(s.sys.st = .reset ∨ s.time.loc < s.time.lastSample + 16 * samplePeriod s))
      (fun s => enterHoldover (flushGap s)) ∧
    steps .holdoverLimitExpiry (fun s => ¬(s.time.holdover = false ∨ s.time.limitFired ∨ holdTime s < keyU s 0x0307 0 2 * msTicks))
      (fun s => fire { s with time.limitFired := true } 11 (timeLockInst s) 1) ∧
    steps .processTimeLimit (fun s => (s.sys.role = .bed ∧ s.time.process = 2 ^ 48 - 1 ∧ s.time.processFull = false))
      (fun s => raise { s with time.processFull := true } 0x030D []) ∧
    steps .tileStepApply (fun s => ¬(s.time.pendStep.isNone))
      (fun s =>
        if timelineOn s = false ∨ s.tl.active = false then applyPendStep s
        else
          let flip := match heldNext s with
            | some f => decide (f.at_ ≤ nowSys s)
            | none => false
          if flip || (s.tl.nominal && decide (s.tl.start + s.tl.len ≤ nowSys s)) then applyPendStep s else s) ∧
    steps .freeSourceLockDelay (fun s => (s.time.source = 0 ∧ s.sys.st ≠ .reset ∧ s.time.resetAt + msTicks ≤ s.time.loc))
      (fun s => timeLock s) ∧
    steps .hopDelay (fun s => let news := match s.time.hopLast with
          | none => bothKnown s && (portLocked s 0 || portLocked s 1)
          | some l => movedBy (keyU s 0x0309 0 1) (hopReport s) l
        s.sys.role = .tile ∧ news = true ∧ ¬(s.time.hopLast.isSome ∧ s.time.loc < s.time.hopAt + 100 * msTicks))
      (fun s => let r := hopReport s
        raiseQuiet { s with time.hopLast := some r, time.hopAt := s.time.loc } 0x0306
          (args [(3, uns 24 (r.getD 0 0)), (3, uns 24 (r.getD 1 0)), (1, uns 8 (r.getD 2 0)), (1, uns 8 (r.getD 3 0))]))

/-- With the conditions named, a window opens and closes at its instants and an edge of FSYNC_IN is stamped. -/
def Obligations.WindowEventsComplete : Prop :=
    steps .windowOpen (fun s => ((List.range 16).any (opensNow s)))
      (fun s => windowsAct s) ∧
    steps .windowClose (fun s => ((List.range 16).any (closesNow s)))
      (fun s => windowsAct s) ∧
    steps .fsyncInEdge (fun s => ¬(s.sys.role ≠ .sender ∨ s.sys.st = .reset))
      (fun s =>
        let near := match s.time.fsyncLast with
          | some t => decide (s.time.loc < t + 10 * usTicks)
          | none => false
        if near then bump s 3 0 8 else
        let s1 := capRec { s with time.fsyncLast := some s.time.loc } 0x0A 0 0 (leBytes 4 0 ++ leBytes 8 s.time.loc)
        raiseQuiet s1 0x030C (args [(8, shortForm (sysTicks s))]))

/-- With the conditions named, signal comes and goes, training ends or times out, the search for alignment goes on, lanes
lock and lose lock, adaptation and drift are checked, a failed lane ends and eye scans end. -/
def Obligations.LaneEventsComplete : Prop :=
    (∀ (l : Nat), steps (.laneLossOfSignal l) (fun s =>
        let x := lane s l
        ¬(x.st = 0 ∨ x.los))
      (fun s =>
        let s1 := loseLock s l 0
        let y := lane s1 l
        setLane s1 l { y with los := true, st := if y.st = 6 ∨ y.st = 8 then y.st else 1, failSince := none, found := false, verify := false })) ∧
    (∀ (l : Nat), steps (.laneSignalReturn l) (fun s =>
        let x := lane s l
        ¬(x.st = 0 ∨ x.los = false))
      (fun s =>
        let x := lane s l
        let s1 := setLane s l { x with los := false }
        if x.st = 1 then startTraining s1 l (bundleLane s l) else s1)) ∧
    (∀ (l eye ctle : Nat) (vga : Int) (dfe txffe : List Int) (snr : Int) (tap1Over preAsked markAsked : Bool), steps (.linkTrainingDone l eye ctle vga dfe txffe snr tap1Over preAsked markAsked) (fun s =>
        let x := lane s l
        ¬(x.st ≠ 2 ∨ x.los ∨ eye < x.eqGoal))
      (fun s =>
        let x := lane s l
        let d := (dfe ++ List.replicate 12 0).take 12
        setLane s l { x with
          st := if x.markReq then 4 else 3
          ctle := min 31 ctle, vga := vga, dfe := d.map (satS 8), txffe := (txffe ++ [0, 0, 0, 0]).take 4, snr := snr
          preTx := preAsked && x.mode != 2, preRx := asksPrecode s l tap1Over, markTx := markAsked
          snap := some { ctle := min 31 ctle, vga := vga, dfe := d.map (satS 8), snr := snr }
          snapAt := s.time.loc, driftAt := s.time.loc, holdUntil := 0
          failRun := 0, failSince := none, attempts := 0, found := false, verify := false, hits := [], huntAt := s.time.loc })) ∧
    (∀ (l cause : Nat), steps (.trainingTimeout l cause) (fun s =>
        let x := lane s l
        ¬(x.st ≠ 2 ∨ s.time.loc < x.trainAt + 5 * msTicks))
      (fun s =>
        let x := lane s l
        let s1 := bump (setLane s l { x with
          trainAt := s.time.loc + msTicks, dwellAt := s.time.loc + msTicks, eqGoal := eqTarget s l, failRun := x.failRun + 1
          failSince := some (x.failSince.getD x.trainAt) }) 1 l 3
        if x.failRun = 0 then raise s1 0x0105 (args [(4, l), (4, cause)]) else s1)) ∧
    steps .rateSearchDwellExpiry (fun s =>
        let x := lane s 0
        ¬(s.sys.role ≠ .tile ∨ x.st ≠ 2 ∨ s.time.loc < x.dwellAt + 4 * msTicks))
      (fun s =>
        let x := lane s 0
        setLane s 0 { x with mode := (x.mode + 1) % 3, dwellAt := s.time.loc, trainAt := s.time.loc, eqGoal := eqTarget s 0 }) ∧
    (∀ (l at_ : Nat) (results : List Nat), steps (.alignmentAttempt l at_ results) (fun s =>
        let x := lane s l
        ¬(x.st ≠ 3 ∨ x.found ∨ isWotor s l = false ∨ x.position ≠ at_))
      (fun s =>
        let x := lane s l
        let x1 := testResult { x with attempts := x.attempts + 1 } ((results.map (min 16)).take (if x.verify then 1 else windowCount x.mode))
        let good := decide (14 ≤ x1.quality)
        if x.verify && good then setLane s l { x1 with found := true, verify := false, cleanRun := 0, uncorrRun := 0 }
        else
          let s1 := setLane s l { slip x1 (if good then x1.offset else 128) with verify := good }
          if 64 ≤ x.attempts + 1 then searchFailed s1 l else s1)) ∧
    (∀ (l : Nat) (hit : HitObs), steps (.markerHit l hit) (fun s =>
        let x := lane s l
        ¬(x.st ≠ 4 ∨ x.found ∨ markFound hit.line = false))
      (fun s =>
        let x := lane s l
        if markerBits ≤ hit.pos ∧ x.hits.contains (hit.pos - markerBits) then
          setLane s l { x with found := true, hits := [], cleanRun := 0, uncorrRun := 0, position := (hit.pos + 5440 - 4883) % 5440 }
        else setLane s l { x with hits := (x.hits.filter fun h => decide (hit.pos < h + markerBits)) ++ [hit.pos] })) ∧
    (∀ (l : Nat), steps (.markerHuntTimeout l) (fun s =>
        let x := lane s l
        ¬(x.st ≠ 4 ∨ x.found ∨ s.time.loc < x.huntAt + 8 * markerTicks x.mode))
      (fun s => startTraining s l (bundleLane s l))) ∧
    (∀ (l : Nat) p, steps (.laneLock l) (fun s =>
        let x := lane s l
        ¬(x.found = false ∨ x.cleanRun < 1024 ∨ (x.st ≠ 3 ∧ x.st ≠ 4)) ∧
          laneUse s l = .wotor p)
      (fun s => portLocks (gainLock s l) p)) ∧
    (∀ (l : Nat), steps (.laneLockLoss l) (fun s =>
        let x := lane s l
        ¬(x.uncorrRun < 8 ∨ isWotor s l = false))
      (fun s =>
        let x := lane s l
        if x.st = 5 then
            let s1 := loseLock s l 1
            let y := lane s1 l
            setLane s1 l { y with st := if x.lastMark then 4 else 3, markMode := x.lastMark, research := true, hits := [], huntAt := s.time.loc
                                  uncorrRun := 0 }
          else if x.found then setLane s l { x with found := false, verify := false, uncorrRun := 0, hits := [] }
          else s)) ∧
    (∀ (l : Nat) (window : DensityObs), steps (.densityWindowEnd l window) (fun s0 => (lane (countErrors s0 l window.errors) l).st ≠ 0)
      (fun s0 =>
        let s := countErrors s0 l window.errors
        let x := lane s l
        let m := keyU s 0x0110 0 1
        if x.autoHold then (if m * 1024 ≤ window.count * 100 then setLane s l { x with autoHold := false } else s)
        else if window.count * 100 < m * 4096 then bump (setLane s l { x with autoHold := true }) 1 l 4
        else s)) ∧
    (∀ (l : Nat) (dCtle : Int) (dVga : Int) (dDfe : List Int) (snr : Int), steps (.adaptationStep l dCtle dVga dDfe snr) (fun s =>
        let x := lane s l
        ¬(x.st = 0))
      (fun s =>
        let x := lane s l
        let x1 := { x with snr := snr }
        if adapts s l = false then setLane s l x1 else
        setLane s l { x1 with
          ctle := (clampI 0 31 ((x.ctle : Int) + codeStep dCtle)).toNat, vga := x.vga + codeStep dVga
          dfe := (List.range 12).map fun i => satS 8 (x.dfe.getD i 0 + codeStep (dDfe.getD i 0)) })) ∧
    (∀ (l : Nat), steps (.snapshotPeriodExpiry l) (fun _ => True)
      (fun s0 =>
        if s0.time.loc < (lane s0 l).snapAt + snapPeriod s0 ∨ (lane s0 l).st ≠ 5 then s0 else
        let s := driftCheck l s0
        let x := lane s l
        if adapts s l = false then s else
        let now : Snapshot := { ctle := x.ctle, vga := x.vga, dfe := x.dfe, snr := x.snr }
        match x.snap with
        | some p => setLane s l { x with snapAt := s.time.loc, snap := some (if p.snr ≤ x.snr then now else p) }
        | none => setLane s l { x with snapAt := s.time.loc, snap := some now })) ∧
    (∀ (l : Nat) p, steps (.driftCheck l) (fun s =>
        let x := lane s l
        x.snap = some p ∧
          ¬(x.st ≠ 5 ∨ s.time.loc < x.driftAt + msTicks))
      (fun s =>
        let x := lane s l
        if keyU s 0x0112 0 1 < driftDistance x p ∧ x.snr < p.snr + keyU s 0x0113 0 1 then revertLane s l x p
          else setLane s l { x with driftAt := s.time.loc })) ∧
    (∀ (l : Nat) (cause : Nat), steps (.laneFault l cause) (fun _ => True)
      (fun s =>
        let x := lane s l
        match cause with
        | 1 => if 16 ≤ l then s else fire s 9 (l / 4 * 4) 1
        | 2 => if x.st ≠ 5 ∨ x.uncorr ≤ keyU s 0x0116 0 4 then s
               else fire (setLane s l { x with uncorr := 0, secStart := s.time.loc }) 9 l 2
        | 3 => if (x.losses.filter fun t => decide (s.time.loc < t + 60 * secTicks)).length ≤ keyU s 0x0117 0 1 then s
               else fire (setLane s l { x with losses := [] }) 9 l 3
        | _ => match x.failSince with
          | some t => if x.los ∨ s.time.loc < t + secTicks ∨ cause ≠ 4 then s
                      else fire (setLane s l { x with failSince := some s.time.loc }) 9 l 4
          | none => s)) ∧
    (∀ (l : Nat) (codes : List Nat), steps (.eyeScanDone l codes) (fun s =>
        let e := tabGet EyeScan.cold s.lanes.scans l
        ¬(e.running = false))
      (fun s =>
        let e := tabGet EyeScan.cold s.lanes.scans l
        let s1 := { s with lanes.scans := tabSet EyeScan.cold s.lanes.scans l { e with running := false, codes := scanCodes e codes } }
        cmdDone (raise s1 0x0108 (args [(4, l), (4, e.points), (4, b2n e.aborted)])) e.tag 0xC3 .ok)) ∧
    (∀ (l : Nat) (eye : Nat), steps (.hourlyEyeScan l eye) (fun s =>
        let x := lane s l
        ¬(x.st ≠ 5 ∨ quadScan s l ∨ (x.eyeAt ≠ 0 ∧ s.time.loc < x.eyeAt - 1 + 3600 * secTicks)))
      (fun s =>
        let x := lane s l
        let s1 := setLane s l { x with eye := min 255 eye, eyeAt := s.time.loc + 1 }
        { s1 with th.age.eyes := s1.th.age.eyes ++ [(s1.th.age.hours, l, eye)] }))

/-- With the conditions named, a source port starts and its lock changes, its MAC filters and counts frames, and a packet of
a bound stream enters its frame. -/
def Obligations.SourcePortEventsComplete : Prop :=
    (∀ (p : Nat), steps (.sourcePortStart p) (fun s => ¬(portOn s p = false ∨ s.sys.st = .reset ∨ s.sys.st = .boot ∨ 4 ≤ p))
      (fun s => sourceLanesUp (sourceMode s p) p)) ∧
    (∀ (p : Nat) (lock : Bool) (corrected : Nat) (uncorr : Nat), steps (.sourcePortChange p lock corrected uncorr) (fun s => ¬(portOn s p = false ∨ 4 ≤ p))
      (fun s =>
        let x := srcPort s p
        if lock then
          if x.up then sourceFec s p corrected uncorr else if sourceReady s p then upSource s p else s
        else if x.up then downSource ((sourceLanes s p).foldl (fun t l => loseLock t l 1) s) p 0
        else if x.everUp ∧ x.recorded = false ∧ x.downAt + secTicks ≤ s.time.loc then
          fire (setSrcPort s p { x with recorded := true }) 43 p 1
        else s)) ∧
    (∀ (p len : Nat) (fcs : Bool) (dst arpFor asker : Nat), steps (.ethernetFrame p len fcs dst arpFor asker) (fun s => ¬(portOn s p = false ∨ (srcPort s p).up = false ∨ 4 ≤ p))
      (fun s =>
        if fcs = false ∨ len < 64 ∨ 9216 < len then bump s 1 p 7
        else if acceptsMac s p dst = false then bump s 1 p 8
        else
          let s1 := bump s 1 p 6
          if arpFor ≠ 0 ∧ arpFor = portIp s p then emit s1 (.arp p arpFor (portMac s p) asker) else s1)) ∧
    (∀ (port vid dst src udp pt ts : Nat) (marker : Bool) (rows : List SampleRow), steps (.streamPacket port vid dst src udp pt ts marker rows) (fun s => ¬(portOn s port = false ∨ (srcPort s port).up = false ∨ 4 ≤ port))
      (fun s =>
        match matchStream s port vid dst src udp with
        | none => bump s 7 0 0
        | some k =>
          match stream s k with
          | none => s
          | some x =>
            if pt ≠ x.bind.pt then bump s 7 k 0 else
            packetData k port marker rows (if ts = x.ts then s else newFrame k ts s))) ∧
    (∀ (k : Nat) x, steps (.streamTimeout k) (fun s =>
        stream s k = some x ∧
          ¬(x.lost ∨ s.time.loc < x.lastDone + keyU s 0x0703 0 2 * msTicks))
      (fun s => raise (setStream s k (some { x with lost := true })) 0x0702 (args [(4, k), (4, x.lastTs)])))

/-- With the conditions named, replies and reports of an enumeration are taken and it ends, management cells reassemble to
messages, a bundle changes its lanes and a ring opens and closes. -/
def Obligations.SenderLinkEventsComplete : Prop :=
    (∀ (port : Nat) (frame : Nat) (dev : Nat) (flags : Nat) (lates : Nat), steps (.replyCell port frame dev flags lates) (fun s => ¬(s.sys.role ≠ .sender ∨ 8 ≤ port ∨ portLocked s port = false))
      (fun s =>
        let s0 := capCell s port (loc256 s) (syncCell 8 frame (leBytes 2 dev ++ [b8 flags, b8 0] ++ leBytes 4 lates))
        let n := cascOf s port
        match tileOf s dev with
        | none => s0
        | some (_, pos) =>
          let e := topo s0 n pos
          let s1 := if e.present then setTopo s0 n pos { e with holding := bit flags 3, dark := bit flags 4, fedReturn := portMode s port == 2 } else s0
          let s2 := noteFed s1 n
          if bit flags 0 then lateReport s2 n (frame % 65536) dev else s2)) ∧
    (∀ (port kind frag : Nat) (last bc : Bool) (dest src tag : Nat) (data : List Byte), steps (.mgmtCell port kind frag last bc dest src tag data) (fun _ => True)
      (fun s =>
        if s.sys.st = .reset ∨ s.sys.st = .boot then bump s 0x10 0 1
        else if mgmtReady s = false then bump s 0x10 0 1
        else if mgmtOpen s port = false ∨ (bc = false ∧ dest ≠ s.sys.deviceId) ∨ (bc ∧ s.sys.role ≠ .tile) then s
        else
          let s1 := capCell s port (loc256 s) (mgmtCell kind frag last bc dest src tag data)
          let mine := fun (r : Reasm) => r.src == src && r.tag == tag
          let s2 := { s1 with link.reasm := s1.link.reasm.filter fun r => !mine r }
          let piece := (data ++ List.replicate 22 (b8 0)).take 22
          let new : Reasm := { port := port, src := src, tag := tag, kind := kind, next := 1, data := piece }
          match s1.link.reasm.find? mine with
          | none => if frag = 0 then firstFrag s2 new last else discardMsg s2 new last
          | some r =>
            if r.next = 0 then (if frag = 0 then firstFrag s2 new last else if last then s2 else s1)
            else if frag = r.next ∧ frag < 12 ∧ kind = r.kind then takeFrag s2 { r with next := frag + 1, data := r.data ++ piece } last
            else if frag = 0 then firstFrag (reasmFail s2 port) new last
            else discardMsg s2 new last)) ∧
    (∀ r rest, steps .mgmtMessage (fun s => s.link.done = r :: rest)
      (fun s =>
        let s1 := { s with link.done := rest }
        match r.kind, s.sys.role with
        | 1, .sender => mgmtResponse s1 r
        | 2, .sender => mgmtEvent s1 r
        | 3, .tile => drainUp 64 { s1 with evs.upCredits := s1.evs.upCredits + (r.data.getD 0 0).toNat }
        | _, _ => s1)) ∧
    (∀ (port pos dev uid major minor flags straps epoch : Nat), steps (.enumReport port pos dev uid major minor flags straps epoch) (fun s => ¬(s.sys.role ≠ .sender ∨ 8 ≤ port ∨ portLocked s port = false))
      (fun s =>
        let n := cascOf s port
        let c := casc s n
        if c.running && epoch == c.epoch then
          let s0 := linkHolds (setCasc s n { c with lastReport := s.time.loc }) n pos
          if bit flags 4 then endEnum s0 n 2
          else
            let e := topo s0 n pos
            if e.present && e.epoch == epoch && e.uniqueId != uid then
              cascadeProto (endEnum s0 n 4) n 3
            else
              let first := !(e.present && e.epoch == epoch)
              let e1 : TopoEntry := { e with
                present := true, ret := rReturn flags, devId := dev, uniqueId := uid, fwMajor := major, fwMinor := minor
                straps := straps, epoch := epoch, tail := rTail flags
                geomOk := if rTail flags && !first then e.geomOk else bit flags 3
                credits := if e.present && e.uniqueId == uid then e.credits else 4 }
              let s1 := setTopo (if first then { s0 with time.pathSent := tabSet [] s0.time.pathSent (tileId s0 n pos) [] } else s0) n pos e1
              let s2 := if s.sys.sealed && !rReturn flags && first then sendGeometry s1 n pos else s1
              if rReturn flags then endEnum s2 n 1
              else if rTail flags then endEnum s2 n (flag (bit flags 2) 3)
              else s2
        else if (topo s n pos).present && (topo s n pos).uniqueId == uid then
          setTopo s n pos { topo s n pos with geomOk := bit flags 3, straps := straps, fwMajor := major, fwMinor := minor }
        else s)) ∧
    (∀ (n : Nat), steps (.enumEndTimeout n) (fun s =>
        ¬(s.sys.role ≠ .sender ∨ (casc s n).running = false ∨
          s.time.loc < (casc s n).lastReport + (keyU s 0x0204 0 2 + 1) * msTicks))
      (fun s => endEnum s n 0)) ∧
    (∀ (port seq width : Nat), steps (.markCell port seq width) (fun s => ¬(s.sys.role ≠ .sender ∨ portMode s port ≠ 3 ∨ portLocked s port = false ∨ width ≠ bundleWidth s port))
      (fun s =>
        let w := wport s port
        setWport s port { w with marks := ((seq % 2 ^ 32, s.time.loc) :: w.marks).take 2 })) ∧
    (∀ (first : Nat), steps (.bundleChange first) (fun s => ¬(s.sys.role ≠ .sender ∨ portMode s first ≠ 3 ∨ bundleFirst s first ≠ first))
      (fun s =>
        let w := wport s first
        if w.bundleUp ∧ bundleOk s first = false then
            raise (setWport s first { w with bundleUp := false, bundleFell := true }) 0x020A (args [(4, first), (4, badLane s first)])
          else if w.bundleUp = false ∧ bundleOk s first then
            let s1 := setWport s first { w with bundleUp := true }
            if w.bundleFell then raise s1 0x020B (args [(4, first), (4, bundleWidth s first)]) else s1
          else s)) ∧
    (∀ (port : Nat), steps (.ringOpen port) (fun s =>
        let w := wport s port
        ¬(s.sys.role ≠ .sender ∨ returnPort s port = false ∨ portLocked s port ∨ w.lostSeen ∨ w.ringUp = false))
      (fun s =>
        let w := wport s port
        raise (setWport s port { w with ringUp := false }) 0x0208 (args [(4, ringOf s port)]))) ∧
    (∀ (port : Nat) t, steps (.ringRestored port) (fun s =>
        let w := wport s port
        w.allFedAt = some t ∧
          ¬(w.returnFeed = false ∨ s.time.loc < t + 2 * secTicks))
      (fun s =>
        let w := wport s port
        raise (setWport s port { w with returnFeed := false, takeoverPending := false, lostSeen := false, allFedAt := none }) 0x0209
          (args [(4, returnOf s port)]))) ∧
    steps .mgmtTimeout (fun _ => True)
      (fun s =>
        let s1 := (s.link.relays.filter fun x => decide (x.deadline ≤ s.time.loc)).foldl relayTimeout s
        match s1.link.bcast with
        | some b => if b.deadline ≤ s.time.loc then endBcast s1 b else s1
        | none => s1)

/-- With the conditions named, codewords and data cells of the fed tile are taken and checked, decisions and enumeration
tokens act, and the loss and change of the upstream port are recorded. -/
def Obligations.TileLinkEventsComplete : Prop :=
    (∀ (port fec : Nat) (cells : List (List Byte)), steps (.wotorCodeword port fec cells) (fun s0 =>
        portExists s0 port = true ∧ portLocked (laneCodeword s0 (portLane s0 port) fec) port = true)
      (fun s0 =>
        let s := laneCodeword s0 (portLane s0 port) fec
        let bad := decide (fec = 2)
        let s1 := if bad then s else cells.foldl (seeCell port) s
        if s.sys.role ≠ .tile then s1 else
        let s2 := if bad || hasLost cells then abandonRx s1 port else s1
        if portLocked s2 (1 - port) = false then s2 else
        forwardCells s2 (1 - port) (if bad then List.replicate 20 (some (idleCell true)) else cells.map (keepCell s2 port)))) ∧
    (∀ (port payload : Nat), steps (.dataCell port payload) (fun s =>
        let t := s.link.tile
        ¬(s.sys.role ≠ .tile ∨ port ≠ t.activeUp ∨ portLocked s port = false) ∧ t.rxDone = false ∧ t.rxOn = true)
      (fun s =>
        let t := s.link.tile
        let q := tripletsOf t.wc t.views
        let n := t.rxCells
        let more := decide (n + 1 < frameCells s)
        let s1 := { s with link.tile.rxCells := n + 1, link.tile.rxOn := more, link.tile.rxDone := !more }
        if s1.tl.rx.active = false then (if t.rxStale then bump { s1 with link.tile.rxStale := false } 4 0 6 else s1)
        else
          let l := s1.tl.rx.triplet ++ [payload % 2 ^ 256]
          if l.length < 3 then { s1 with tl.rx.triplet := l } else
          let line := n / (3 * q)
          let first := n % (3 * q) / 3 * 16
          let s2 := { s1 with tl.rx.triplet := [] }
          let ps := tripletPixels l
          (List.range 16).foldl (fun u p =>
            if first + p < t.wc * t.views then takePixel line u (first + p) (ps.getD p 0) else u) s2)) ∧
    (∀ (port payload : Nat), steps (.dataCell port payload) (fun s =>
        ¬(s.sys.role ≠ .tile ∨ port ≠ s.link.tile.activeUp ∨ portLocked s port = false) ∧ s.link.tile.rxDone = true)
      (fun s => bump { s with link.tile.rxDone := false, tl.rx.active := false } 2 port 6)) ∧
    (∀ (port num w h vm1 : Nat), steps (.frameStartCell port num w h vm1) (fun s => ¬(s.sys.role ≠ .tile ∨ 2 ≤ port ∨ portLocked s port = false ∨ s.sys.st = .reset ∨ s.sys.st = .boot))
      (fun s =>
        let s0 := feedPort (capCell s port (loc256 s) (syncCell 2 num (leBytes 2 w ++ leBytes 2 h ++ [b8 vm1]))) port
        let s1 := if port ≠ s0.link.tile.activeUp ∧ chooseUp s0 = port then switchUp s0 port else s0
        if port ≠ s1.link.tile.activeUp then s1 else
        let t := s1.link.tile
        -- The active port feeds again: the hold ends; emission resumes at its first accepted flip (R268).
        let s2 := { (if t.dark && t.holding then flipsBefore s1 else s1) with
          link.tile.fed := true, link.tile.holding := false, link.tile.expired := false }
        let s3 := { abandonRx s2 port with link.tile.rxDone := false }
        if t.geomKnown = false ∨ w ≠ t.wc ∨ h ≠ t.hc ∨ vm1 % 4 + 1 ≠ t.views then
          let s4 := bump { s3 with link.tile.geomRun := true, tl.rx := Rx.cold } 2 port 6
          if t.geomRun then s4 else raise s4 0x0203 (args [(4, w), (4, h), (4, vm1 % 4 + 1)])
        else
          let on := timelineOn s
          let some_ := decide (0 < frameCells s)
          { s3 with link.tile.rxOn := some_, link.tile.rxDone := !some_, link.tile.rxFrame := num % 65536, link.tile.rxCells := 0, link.tile.rxStale := false
                    link.tile.geomRun := false
                    tl.rx := { Rx.cold with active := on, frame := num % 65536 } })) ∧
    (∀ (port : Nat) (num : Nat) (crcs : List (Nat × Nat)) p, steps (.tileCrcCell port num crcs) (fun s =>
        ¬(s.sys.role ≠ .tile ∨ port ≠ s.link.tile.activeUp ∨ timelineOn s = false) ∧
          crcs.find? fun p => p.1 == s.link.tile.position = some p ∧
          ¬(s.tl.rx.frame ≠ num % 65536 ∨ s.tl.rx.crc.isSome))
      (fun s =>
        let s1 := capCell s port (loc256 s) (syncCell 3 num (b8 crcs.length :: crcs.flatMap fun x => b8 x.1 :: leBytes 4 x.2))
        { s1 with tl.rx.crc := some (num % 65536, p.2 % 2 ^ 32) })) ∧
    (∀ (port num : Nat) (rep : Bool), steps (.decisionCell port num rep) (fun s => ¬(s.sys.role ≠ .tile ∨ port ≠ s.link.tile.activeUp ∨ timelineOn s = false))
      (fun s =>
        let n := num % 65536
        let v := if rep then 2 else 1
        match tabGet 0 s.tl.decisions n with
        | 0 =>
          let s1 := capCell s port (loc256 s) (syncCell 4 num [b8 (b2n rep)])
          -- Decisions of frames 32 768 or more behind are forgotten, so that a number can be decided again.
          let keep := s1.tl.decisions.filter fun p => decide ((p.1 + 65536 - n) % 65536 ≥ 32768)
          { s1 with tl.decisions := tabSet 0 keep n v }
        | d => if d = v ∨ 2 < d then s else bump { s with tl.decisions := tabSet 0 s.tl.decisions n (d + 2) } 2 port 7)) ∧
    (∀ (port pos sender cascade : Nat) (full : Bool) (epoch : Nat), steps (.enumToken port pos sender cascade full epoch) (fun s => ¬(s.sys.st = .reset ∨ s.sys.st = .boot ∨ portLocked s port = false))
      (fun s =>
        match s.sys.role with
        | .tile =>
          if port ≠ 0 then s
          else if pos = 0 then sendReport s 0 16 epoch
          else
            let s1 := { takePosition pos sender cascade full s with link.tile.epoch := epoch, link.tile.tokenFull := full }
            let s2 := if s.link.tile.placed && !full then s1 else sendReport s1 s1.link.tile.position 0 epoch
            let s3 := { powerLane s2 1 with
              link.tile.portBOn := true, link.tile.tokenSentB := false, link.tile.tailReported := false
              link.tile.portBSince := s.time.loc }
            drainUp 64 (portBLocked s3)
        | .sender =>
          if keyU s 0x0201 port 1 % 4 = 2 ∨ (pairPort s port && !s.pair.active) then
            sendCell s port (reportCell pos s.sys.deviceId Config.uniqueId.toNat (runHdr s).major (runHdr s).minor 2 0 epoch)
          else s
        | _ => s)) ∧
    (∀ (port : Nat) (dest : Nat) (x : Nat) (y : Nat) (rw : Nat) (rh : Nat) (wc : Nat) (hc : Nat) (vm1 : Nat) (epoch : Nat), steps (.enumGeometry port dest x y rw rh wc hc vm1 epoch) (fun s => ¬(s.sys.role ≠ .tile ∨ 2 ≤ port ∨ s.link.tile.placed = false ∨ dest ≠ s.sys.deviceId ∨ s.sys.st = .reset ∨ s.sys.st = .boot))
      (fun s =>
        let ok := decide (rw * rh ≤ 32768)
        sendReport { s with
          link.tile.geomKnown := true, link.tile.geomOk := ok, link.tile.gx := x, link.tile.gy := y, link.tile.rw := rw, link.tile.rh := rh
          link.tile.wc := wc, link.tile.hc := hc, link.tile.views := vm1 % 4 + 1, link.tile.geomEpoch := epoch }
          s.link.tile.position (flag ok 3) epoch)) ∧
    (∀ (signal : Bool), steps (.enumHopTimeout signal) (fun s =>
        let t := s.link.tile
        ¬(s.sys.role ≠ .tile ∨ t.placed = false ∨ t.portBOn = false ∨ portLocked s 1 ∨ t.tailReported ∨
          s.time.loc < t.portBSince + 20 * msTicks))
      (fun s =>
        let t := s.link.tile
        sendReport { s with link.tile.tailReported := true } t.position (1 + flag signal 2) t.epoch)) ∧
    steps .portBLocked (fun s => ¬(s.sys.role ≠ .tile ∨ s.link.tile.placed = false ∨ s.link.tile.portBOn = false ∨ portLocked s 1 = false ∨ s.link.tile.tokenSentB))
      (fun s => sendToken s) ∧
    steps .upstreamLost (fun s =>
        let a := s.link.tile.activeUp
        ¬(s.sys.role ≠ .tile ∨ s.sys.st = .reset ∨ 2 ≤ a ∨ s.link.tile.fed = false ∨ feeding s a))
      (fun s =>
        let a := s.link.tile.activeUp
        let s1 := raise { s with link.tile.fed := false, link.tile.holding := true, link.tile.heldSince := s.time.loc } 0x0204 (args [(4, a)])
        let s2 := lossHeart s1
        if keyU s 0x0207 0 2 = 0 ∧ feeding s (1 - a) = false then goDark s2 else s2) ∧
    (∀ (port : Nat), steps (.upstreamSwitched port) (fun s =>
        s.sys.role = .tile ∧ port < 2 ∧ port ≠ s.link.tile.activeUp ∧ chooseUp s = port ∧ (wport s port).lastStart = some s.time.loc)
      (fun s => switchUp s port)) ∧
    steps .holdLimitExpiry (fun s =>
        ¬(s.sys.role ≠ .tile ∨ s.link.tile.holding = false ∨ s.link.tile.expired ∨ feeding s 0 ∨ feeding s 1 ∨
          s.time.loc < s.link.tile.heldSince + keyU s 0x0207 0 2 * msTicks))
      (fun s => goDark s) ∧
    steps .upstreamLostHeartRepeat (fun s =>
        ¬(s.sys.role ≠ .tile ∨ s.link.tile.holding = false ∨ feeding s 0 ∨ feeding s 1 ∨
          s.time.loc < s.link.tile.lossBeat + msTicks))
      (fun s => lossHeart s)

/-- With the conditions named, FLIP and decision cells fix the flip; at its time SLOT_BOUNDARY ends the slot that the flip
cuts, and then the shown raster changes; frames and slots follow their timeline and the rail limit throttles. -/
def Obligations.FlipAndEmissionEventsComplete : Prop :=
    (∀ (port : Nat) (num : Nat) (at_ : Nat), steps (.flipCell port num at_) (fun s => (port = s.link.tile.activeUp ∧ s.sys.role = .tile))
      (fun s => takeFlip (num % 65536) at_ s)) ∧
    (∀ f, steps .decisionInstant (fun s =>
        ¬(timelineOn s = false ∨ s.tl.decided.isSome) ∧
          nextFlip s = some f ∧
          ¬(nowSys s < f.at_ - 50000))
      (fun s =>
        let s1 := withFrameKeys (takeFrameKeys s)
        let s2 := { applyWear (latchFactors s1) with tl.decidedNum := f.num }
        let t := decide_ s2 f.num
        { t with keys.eff := s.keys.eff })) ∧
    (∀ f, steps .readinessCheck (fun s =>
        ¬(timelineOn s = false) ∧
          nextFlip s = some f ∧
          ¬(nowSys s < f.at_ - keyU s 0x0421 0 4 ∨ s.link.tile.activeUp = 2 ∨ fenced s 2 s.link.tile.activeUp ∨ s.link.tile.replied = some f.num))
      (fun s =>
        let late := keyU s 0x0420 0 1 == 1 && !(s.tl.rx.frame == f.num && bankReason s == 0)
        let fl := flag late 0 + flag s.tl.repeated 1 + flag s.tl.crcBad 2 + flag (s.link.tile.holding || pausing s) 3 + flag s.link.tile.dark 4
        sendCell { s with link.tile.replied := some f.num } s.link.tile.activeUp
          (syncCell 8 f.num (leBytes 2 s.sys.deviceId ++ [b8 fl, b8 0] ++ leBytes 4 (counter s 4 0 0))))) ∧
    (∀ f, steps .flipTime (fun s =>
        ¬(timelineOn s = false ∨ s.tl.decided.isNone ∨ s.tl.slot.isSome) ∧
          heldNext s = some f ∧
          (f.at_ ≤ nowSys s))
      (fun s => beginFrame (lateFlip s) f.num f.at_ true)) ∧
    steps .nominalFrameEnd (fun s =>
        ¬(timelineOn s = false ∨ s.tl.active = false ∨ s.tl.nominal = false ∨ s.tl.waiting ∨ s.tl.slot.isSome ∨
          nowSys s < s.tl.start + s.tl.len))
      (fun s =>
        match heldNext s with
        | some _ => { s with tl.waiting := true }
        | none => if s.tl.decided.isNone then s else beginFrame (lateFlip s) ((s.tl.frameNo + 1) % 65536) (s.tl.start + s.tl.len) false) ∧
    (∀ (obs : SlotObs), steps (.slotBoundary obs) (fun s =>
        let b := s.tl.start + slotAt s.tl.len (slotCount s) s.tl.nextSlot
        timelineOn s = true ∧ s.tl.active = true ∧ s.tl.waiting = false ∧ s.tl.nextSlot < slotCount s ∧ b ≤ nowSys s ∧
          ((heldNext s).all fun f => decide (b < f.at_)) = true)
      (fun s =>
        let s1 := endSlot obs s
        let k := s1.tl.nextSlot
        let s2 := if s1.tl.ready = some k then s1 else slotLate s1 k
        let s3 := (shadowGroups s2).foldl shadowStep s2
        let n := slotCount s3
        let line := k % max 1 (scanLines s3)
        let sl : Slot := {
          k := k, frame := s3.tl.frameNo, line := line, sub := k / max 1 (scanLines s3), start := s3.tl.start + slotAt s3.tl.len n k
          len := slotAt s3.tl.len n (k + 1) - slotAt s3.tl.len n k, recs := s3.tl.recs, dark := s3.tl.darkReady, stop := none
          cuts := ((List.range 96).filter fun g => !groupLive s3 g).map fun g => (g, 0)
          held := (s3.lamps.lamp.filter fun p => p.2.health == 3 && p.1 / 1536 == line).map (·.1 % 1536)
          scanStop := if scanOn s3 then none else some 0, emitted := sinksLit s3 && !s3.tl.darkReady }
        let s4 := if scanOn s3 then emit s3 (padsOut s3 sl) else s3
        holdOe { s4 with tl.slot := some sl, tl.nextSlot := k + 1, tl.ready := none, tl.recs := [], tl.darkReady := false
                         lamps.lineSel := line } (oeActive s4))) ∧
    (∀ (obs : SlotObs) sl, steps (.slotBoundary obs) (fun s => slotDue s = false ∧ s.tl.slot = some sl)
      (fun s =>
        let cut := (flipCome s).filter fun f => s.tl.active && decide (f.at_ < sl.start + sl.len)
        match cut with
        | some f =>
          let x := (f.at_ - sl.start).toNat
          let left := { sl with recs := cutRecs x sl.recs, len := x }
          if sl.start + x ≤ nowSys s then endSlot obs { s with tl.slot := some left } else s
        | none => if sl.start + sl.len ≤ nowSys s then endSlot obs s else s)) ∧
    (∀ (obs : SlotObs), steps (.slotBoundary obs) (fun s => slotDue s = false ∧ s.tl.slot = none) (fun s => s)) ∧
    (∀ (inTime : Bool), steps (.slotCompute inTime) (fun s => ¬(timelineOn s = false ∨ s.tl.active = false ∨ s.tl.ready.isSome ∨ slotCount s ≤ s.tl.nextSlot))
      (fun s =>
        let k := s.tl.nextSlot
        if inTime then
          let r := slotRecs s k
          { s with tl.ready := some k, tl.recs := r, tl.darkReady := false, tl.sig := signSlot s.tl.sig r }
        else slotLate s k)) ∧
    (∀ (n : Nat) t, steps (.railLimit n) (fun s =>
        let x := stage s n
        x.limAt = some t ∧
          (s.sys.role = .tile ∧ x.limRaised = false ∧ t + secTicks ≤ s.time.loc))
      (fun s =>
        let x := stage s n
        raise (setStage s n { x with limRaised := true }) 0x0504 (args [(4, n), (4, x.limSide - 1)])
        ))

/-- With the conditions named, each of these events completes. A latch point sends what is left of the frame, raises
START_BLANK, stops a fenced output, and else takes up the pair's feed, keys, releases, commits, streams, check rectangles and
ring take-overs and latches the next frame. A line is composed, its data cells leave by the ports that feed and an underrun
is counted; LINE_MATCH is raised once a frame; FRAME_START leaves with the frame's number and size. FLIP and DECISION cells
that are due leave, and flips of the past end. The end of a frame sends its TILE CRCs, records the signatures, compares the
16 rectangles and raises FRAME_DONE. A changed D_tail raises FLIP_GUARD_BROKEN for each guard newly broken in RUN. A resync
takes the grid of the new count, and FRAME_RESYNC is counted and raised. At its instant the group's earliest undecided frame
is decided, ADVANCE or, with a late TILE, REPEAT, on every output of the group. -/
def Obligations.ScanOutEventsComplete : Prop :=
    (∀ (o : Nat), steps (.latchPoint o) (fun s => latchDue (sendRest o s) o = true)
      (fun s =>
        let s0 := startBlank (sendRest o s) o
        if fenced s0 5 o then withRetire (fun t => stopOutput t o) s0 else
        let s1 := if (outp s0 o).resync then resyncOutput s0 o else s0
        withRetire (fun t => latchFrame o (latchRings o (latchRects o (latchStreams o (latchCommits o (latchReleases o (latchKeys o (pairLatch o t)))))))) s1)) ∧
    (∀ (o : Nat) (under : Option (Nat × Nat)), steps (.outputLine o under) (fun s =>
        let x := outp s o
        ¬(outputsRun s = false ∨ x.inFrame = false ∨ x.height ≤ x.line ∨ nowSys s < lineStart x x.line))
      (fun s =>
        let x := outp s o
        let j := x.line
        if pairMuted s o then setOutp s o { x with line := j + 1 } else
        let ps := linePixels s o j under
        let cells := linePayloads (tripletsOf x.width x.views) ps
        let put := (List.range x.views).foldl (fun t v => tabSetList 0 t (sentKey v j 0) ((ps.drop (v * x.width)).take x.width)) x.sent
        let s1 := setOutp s o { x with line := j + 1, sent := put }
        let s2 := emits (sendData s1 o (cells.map fun c => b8 1 :: leBytes 32 c)) ((feedPorts s o).flatMap fun p => cells.mapIdx fun i c => Out.dataCell p x.frame j i c)
        match under with
        | some (v, _) => firstUnderrun (bump s2 9 o 0) o j v
        | none => s2)) ∧
    (∀ (o : Nat), steps (.lineMatch o) (fun s =>
        let x := outp s o
        let j := leAt (keyOut s o (0x0901 + o)) 0 2
        ¬(outputsRun s = false ∨ x.inFrame = false ∨ x.matched ∨ x.height ≤ j ∨ outEventOn s o 1 = false ∨ pairMuted s o ∨ nowSys s < lineStart x j))
      (fun s =>
        let x := outp s o
        let j := leAt (keyOut s o (0x0901 + o)) 0 2
        raiseQuiet (setOutp s o { x with matched := true }) 0x0902 (outArgs s o x.frame (lineStart x j) [(4, j)]))) ∧
    (∀ (o : Nat), steps (.frameStartSend o) (fun s =>
        let x := outp s o
        ¬(outputsRun s = false ∨ x.started = false ∨ x.latched = false ∨ x.inFrame ∨ x.resync ∨ nowSys s < x.next - codewordTicks s o))
      (fun s =>
        let x := outp s o
        let y := takeGrid { rectsStart x with
          inFrame := true, latched := false, done := false, frame := x.nextNo, start := x.next, activeLen := x.nextLen - x.vb
          line := 0, sent := [], underrun := false, matched := false } (gridFirst x (x.next + 1))
        let c := syncCell 2 x.nextNo (leBytes 2 x.width ++ leBytes 2 x.height ++ [b8 (x.views - 1)])
        emits (sendData { setOutp s o y with send.pinLogged := [] } o [c]) ((feedPorts s o).map fun p => Out.cell p c))) ∧
    (∀ (o : Nat), steps (.flipCellSend o) (fun s =>
        let x := outp s o
        ¬(outputsRun s = false ∨ x.started = false))
      (fun s =>
        let x := outp s o
        let open_ := x.flips.filter fun p => decide (nowSys s < p.2)
        let live_ := x.sentAt.filter fun e => open_.any fun p => p.1 % 65536 == e.1 / 2
        let s1 := open_.foldl (fun t p => if cellDue s o p.1 0 then sendSync (noteSent t o p.1 0) o (syncCell 1 p.1 (timeValue p.2.toNat)) else t)
          (setOutp s o { x with flips := open_, sentAt := live_ })
        if bit (keyU s 0x0911 0 1) o = false then s1 else
        open_.foldl (fun t p => match s.send.group.decided.find? fun q => q.1 == p.1 with
          | some q => if cellDue s o p.1 1 then sendSync (noteSent t o p.1 1) o (syncCell 4 p.1 [b8 (b2n q.2)]) else t
          | none => t) s1)) ∧
    (∀ (o : Nat), steps (.frameDone o) (fun s =>
        outputsRun (latchPointDue o s) = true ∧ (outp (latchPointDue o s) o).inFrame = true ∧
          activeOver (latchPointDue o s) (outp (latchPointDue o s) o) = true)
      (fun s0 =>
        let s := latchPointDue o s0
        let x := outp s o
        if pairMuted s o then withRetire (fun t =>
          let y := outp t o
          setOutp t o { y with inFrame := false, done := true, prog := y.prog.filter fun f => f.frame != x.frame }) s else
        let crcs := tileCrcs x
        let s1 := (crcCells x.frame 64 crcs).foldl (fun t c => sendSync t o c) s
        let s2 := crcs.foldl (fun t p => capSignature t 3 (o * 256 + p.1) x.frame p.2) (capSignature s1 2 o x.frame (rasterCrc x))
        let s3 := (List.range 16).foldl (compareRect o) s2
        let s4 := withRetire (fun t =>
          let y := outp t o
          let t1 := if tabGet 0 t.pair.feed o = 2 then { t with pair.feed := tabSet 0 t.pair.feed o 0 } else t
          setOutp t1 o { y with inFrame := false, done := true, prog := y.prog.filter fun f => f.frame != x.frame }) s3
        if outEventOn s o 2 then raiseQuiet s4 0x0903 (outArgs s o x.frame (nowSys s) []) else s4)) ∧
    steps .flipGuardCheck (fun s => ¬(s.sys.role ≠ .sender))
      (fun s => (List.range 8).foldl (fun s o =>
        let x := outp s o
        if x.enable = false then s else
        let f := !flipGuard s o
        let g := (groupOuts s).contains o && !groupGuard s o
        let s1 := setOutp s o { x with guardBroken := f, groupBroken := g }
        let ev := fun (t : State) (kind : Nat) => raise t 0x0907 (outArgs s o x.frame (nowSys s) [(4, (dTail s o / 256).toNat), (4, kind)])
        if s.sys.st ≠ .run then s1 else
        let s2 := if f && !x.guardBroken then ev s1 0 else s1
        if g && !x.groupBroken then ev s2 1 else s2) s) ∧
    (∀ (o : Nat), steps (.frameResync o) (fun s =>
        let x := outp s o
        ¬(outputsRun s = false ∨ x.started = false ∨ x.resync = false ∨ activeOver s x = false))
      (fun s =>
        let x := outp s o
        let from_ := if x.activeLen = 0 then nowSys s + x.vb else x.start + x.activeLen + x.vb
        let y := takeGrid { x with resync := false } (gridFirst x from_)
        let y1 := if x.latched then
            { y with prog := y.prog.map (fun f => if f.frame = x.nextNo then { f with frame := y.nextNo } else f)
                     flips := [(y.nextNo, outFlip y)] }
          else y
        let s1 := if x.latched ∧ bit (keyU s 0x0911 0 1) o then
            decisionDue y.nextNo (outFlip y) { s with send.group.due := s.send.group.due.filter fun p => p.1 != x.nextNo || p.2 == outFlip y }
          else s
        raise (bump (setOutp s1 o y1) 9 o 3) 0x0906 (outArgs s o x.frame (nowSys s) [(4, x.nextNo), (4, y.nextNo)]))) ∧
    (∀ o rest n f later, steps .groupDecision (fun s =>
        ((groupOuts s).filter fun o => (outp s o).started && !pairMuted s o) = o :: rest ∧ outputsRun s = true ∧
          s.send.group.due = (n, f) :: later ∧ f * 256 + groupLag s ≤ nowSys s * 256)
      (fun s =>
        let late := tabGet none s.send.group.late n
        let rep := late.isSome
        let s1 := { s with
          send.group.due := later, send.group.decided := lastN 64 (s.send.group.decided ++ [(n, rep)]), send.group.late := tabSet none s.send.group.late n none }
        let s2 := (o :: rest).foldl (fun t k =>
          sendSync (noteSent (if rep then bump t 9 k 6 else t) k n 1) k (syncCell 4 n [b8 (b2n rep)])) s1
        match late with
        | some dev => raise s2 0x0908 (outArgs s o n (nowSys s) [(4, dev)])
        | none => s2))

/-- With the conditions named, a wear step and its saving count, and an exchange, a copy and a save of the fretboard begin
and end. -/
def Obligations.FretboardEventsComplete : Prop :=
    (∀ t, steps .wearTransfer (fun s =>
        s.fret.lastTransfer = some t ∧
          (timelineOn s ∧ s.tl.active ∧ t + secTicks ≤ s.tl.start))
      (fun s =>
        { (List.range 98304).foldl wearLamp s with fret.lastTransfer := some s.tl.start, fret.transfers := s.fret.transfers + 1 }
        )) ∧
    steps .wearStep (fun s => ¬(s.sys.role ≠ .tile ∨ s.fret.transfers < 60 ∨ capRuns s))
      (fun s =>
        if keyU s 0x0602 0 1 = 0 ∨ capoHeld s 2 0 then { s with fret.transfers := s.fret.transfers - 60 }
          else
            let s1 := wearTargets (bump s 6 0 3)
            { s1 with fret.transfers := s.fret.transfers - 60, fret.stepPending := true }) ∧
    steps .wearSave (fun s => ¬(s.sys.role ≠ .tile ∨ s.sys.st = .boot ∨ s.time.loc < s.fret.lastSave + keyU s 0x0608 0 2 * 60 * secTicks))
      (fun s =>
        let a := nextArea (wearArea s 0).valid (wearArea s 1).valid (wearArea s 0).seq (wearArea s 1).seq
        let img : WearArea := { valid := true, check := 0, seq := max (wearArea s 0).seq (wearArea s 1).seq + 1, counters := s.fret.wear
                                comp := (ofCopy s.fret.lamp 131072 s.fret.active).map fun p => (p.1, p.2 / 4096)
                                gen := s.fret.gen, sysT := sysTicks s }
        raise { s with nv.wear := tabSet WearArea.cold s.nv.wear a { img with check := wearCheck img }, fret.lastSave := s.time.loc } 0x0604
          (args [(4, a), (8, timeForm s (sysTicks s))])) ∧
    (∀ k, steps .fretboardExchange (fun s =>
        s.fret.commit = some k ∧
          (timelineOn s ∧ s.tl.decided.isSome ∧ k.discard = false ∧ s.fret.copying.isNone ∧ k.earliest ≤ s.time.loc))
      (fun s => fbExchange s s.tl.decidedNum)) ∧
    (∀ frame k, steps .fretboardCopyDone (fun s => s.fret.copying = some frame ∧ s.fret.commit = some k)
      (fun s =>
        let s1 := { copyActive s with fret.copying := none, fret.commit := none }
        let crc := fretCrc s1
        let s2 := raise (if k.discard then bump s1 6 0 0 else s1) 0x0601 (args [(4, frame), (4, crc)])
        if k.persist then { s2 with fret.persist := s2.fret.persist ++ [(fbImage s2 crc, k.tag)] }
        else cmdDone s2 k.tag 0x42 .ok)) ∧
    (∀ img tag rest, steps .fretboardPersistDone (fun s => s.fret.persist = (img, tag) :: rest)
      (fun s =>
        let a := nextArea (fbArea s 0).valid (fbArea s 1).valid (fbArea s 0).seq (fbArea s 1).seq
        let s1 := { s with
          fret.persist := rest
          nv.fb := tabSet FbArea.cold s.nv.fb a { img with seq := max (fbArea s 0).seq (fbArea s 1).seq + 1 } }
        cmdDone (raise s1 0x0602 (args [(4, a), (4, img.crc)])) tag 0x42 .ok))

/-- With the conditions named, the arming ends, the start tick comes, jets begin and end, runs are decided, queues are
refilled and the build layer pauses, ends or is stopped by heat. -/
def Obligations.JetEventsComplete : Prop :=
    steps .buildArmDone (fun s =>
        let b := s.bed.build
        ¬(s.sys.role ≠ .bed ∨ b.st ≠ 2 ∨ (layerStrings s).any (fun n => (stage s n).mode != 3)))
      (fun s =>
        let b := s.bed.build
        let p := armHeads ((List.range 16).filter fun h => bit b.mask h) { s with bed.build.pairs := [], bed.build.relaxed := [] }
        let s1 := { p.1 with bed.build.armTag := 0 }
        match p.2 with
        | none => endBuildTag (raise { s1 with bed.build.st := 3, bed.build.begun := false, bed.build.missed := false, bed.build.plumeFired := false }
            0x0A02 (args [(4, b.layerId)])) b.armTag 0x53 0
        | some (h, r) =>
          let s2 := (layerStrings s1).foldl stopStage { s1 with bed.build.st := 1 }
          endBuildTag (raise s2 0x0A03 (args [(4, h), (4, r)])) b.armTag 0x53 (if r = 2 then 0x60 else 0x12)) ∧
    (∀ t, steps .startTick (fun s =>
        let b := s.bed.build
        b.startAt = some t ∧
          ¬(buildNow s < t ∨ (b.st ≠ 3 ∧ b.st ≠ 6)))
      (fun s =>
        let b := s.bed.build
        let p := ((if b.begun then (s.time.process : Int) else 0) + (buildNow s - t)).toNat
        let s1 := (layerHeads s).foldl (fun u h => setHead u h { bhead u h with move := none })
          { s with time.process := min p (2 ^ 48 - 1), time.processRun := true, time.processFull := s.time.processFull && b.begun
                   bed.build.st := 4, bed.build.startAt := none, bed.build.startTag := 0, bed.build.begun := true, bed.build.missed := false }
        let s2 := raise s1 0x0A04 (args [(4, b.layerId), (8, shortForm (sysOfBuild s t).toNat), (8, p)])
        let s3 := endBuildTag s2 b.startTag 0x54 0
        let s4 := if (layerHeads s3).any (fun h => (bhead s3 h).frozen || !(bhead s3 h).referenced) then pauseBuild s3 5
          else if s3.sys.st = .hold then holdBuild s3 else s3
        (layerHeads s4).foldl (fun u h => if (bhead u h).frozen then u else standHead u h) s4)) ∧
    (∀ (h : Nat), steps (.jetBoundary h) (fun s => ¬(s.sys.role ≠ .bed ∨ (s.bed.build.st ≠ 4 ∧ s.bed.build.st ≠ 5) ∨ (layerHeads s).contains h = false ∨ (bhead s h).frozen))
      (fun s =>
        let b := blist s h
        match b.span with
        | none => standHead s h
        | some sp =>
          if buildNow s < sp.stop then s else
          let s1 := endSpan s h sp
          match b.rest with
          | sp2 :: r => beginSpan (setList s1 h { blist s1 h with rest := r }) h sp2
          | [] =>
            let s2 := pairProgress (takeDelay (setList s1 h { blist s1 h with at_ := sp.stop, run := none }) h) h (sp.ix + 1) s1.time.process
            let s3 := if (blist s2 h).pauseAfter then pauseBuild (setList s2 h { blist s2 h with pauseAfter := false, span := some sp }) 2 else s2
            standHead (setList s3 h { blist s3 h with span := none }) h)) ∧
    (∀ t h hd bn jets, steps .runDecision (fun s =>
        let b := s.bed.build
        ¬(s.sys.role ≠ .bed ∨ (b.st ≠ 4 ∧ b.st ≠ 5 ∧ b.startAt.isNone)) ∧
          firstCandidate s = some (t, h) ∧
          ¬(buildNow s < t - 4096) ∧
          candidate s h = some (hd, bn, jets))
      (fun s => decideRun s h hd bn jets)) ∧
    (∀ (h : Nat), steps (.jetQueueRefill h) (fun s =>
        let b := blist s h
        ¬(s.sys.role ≠ .bed ∨ (s.bed.build.st ≠ 4 ∧ s.bed.build.st ≠ 5) ∨ (layerHeads s).contains h = false ∨ b.bad.isSome ∨
          2048 < b.queue.length + 256 ∨ b.count ≤ b.fetched))
      (fun s =>
        let b := blist s h
        let s1 := fillQueue s h (min 256 (b.count - b.fetched))
        let s2 := if (blist s1 h).bad.isSome then pauseBuild s1 7 else s1
        let c := blist s2 h
        if c.starving ∧ (c.bad.isSome ∨ (nextUnit s2 (bhead s2 h) c).isSome) then
          let now := buildNow s2
          let s3 := capRec s2 0x0B h 0 (leBytes 4 0x0A0D ++ leBytes 4 c.next ++ leBytes 8 (now - c.at_).toNat)
          standHead (setList s3 h { c with starving := false, hold := c.hold + (now - c.at_).toNat, at_ := now }) h
        else s2)) ∧
    (∀ (h : Nat) r, steps (.anchorWaitEnd h) (fun s =>
        (blist s h).runNext = some r ∧
          (bit r.flags 4 ∧ (blist s h).span.isNone))
      (fun s => jetBoundary h s)) ∧
    (∀ (h : Nat) a l r, steps (.summaryWrite h) (fun s => (blist s h).summaries = (a, l) :: r)
      (fun s => wrBytes (setList s h { blist s h with summaries := r }) a l)) ∧
    steps .buildPaused (fun s =>
        let b := s.bed.build
        ¬(s.sys.role ≠ .bed ∨ b.st ≠ 5 ∨ !(layerHeads s).all (fun h => (bhead s h).frozen || (blist s h).stopped)))
      (fun s =>
        let b := s.bed.build
        let s1 := stopProcess { s with bed.build.st := 6, bed.build.pauseTag := 0 }
        endBuildTag (raise s1 0x0A05 (args [(4, b.cause), (8, s1.time.process)])) b.pauseTag 0x55 0) ∧
    steps .buildDone (fun s =>
        let b := s.bed.build
        ¬(s.sys.role ≠ .bed ∨ b.st ≠ 4 ∨ !(layerHeads s).all (fun h => (blist s h).done && (blist s h).stopped)))
      (fun s =>
        let b := s.bed.build
        let s1 := rampStrings (stopProcess { s with bed.build.st := 7 })
        raise s1 0x0A06 (args [(4, b.layerId), (8, s1.time.process)])) ∧
    (∀ t, steps .thermalStop (fun s =>
        s.th.stopSince = some t ∧
          ¬(s.sys.role ≠ .bed ∨ s.th.stopMade ∨ s.time.loc < t + keyU s 0x0E03 0 2 * msTicks))
      (fun s =>
        let hot := match tHot s with | some p => p.2 | none => sgn 16 (Config.free s.sys.free 131)
        raise (pauseBuild { s with th.stopMade := true } 3) 0x0E03 (args [(2, uns 16 hot)]))) ∧
    (∀ (h : Nat) tag n bad, steps (.headReferenceDone h) (fun s =>
        let x := bhead s h
        x.ref = some (tag, n, bad) ∧
          ¬(n < 64))
      (fun s =>
        let x := bhead s h
        let s1 := setHead s h { x with ref := none, move := none, referenced := bad = 0 }
        if bad = 0 then cmdEnds (raise s1 0x0A0B (args [(4, h)])) tag 0x5A 0
        else cmdEnds (raise s1 0x0A0C (args [(4, h), (4, bad)])) tag 0x5A 0x60))

/-- With the conditions named, an axis makes its next step, a move and homing end, the Z edge is taken and a step input is
followed. -/
def Obligations.AxisEventsComplete : Prop :=
    (∀ (a : Nat) t fwd, steps (.axisStep a) (fun s =>
        nextStep (axis s a) = some (t, fwd) ∧ ¬(s.sys.role ≠ .bed ∨ 8 ≤ a ∨ nowLocal s < stepTick s a t))
      (fun s =>
        let x := axis s a
        let t1 := stepTick s a t
        let y := { x with
          pos := stepPos (x.pos + (if fwd then 1 else -1)), lastStep := t1, emitted := if x.st = 3 then x.emitted else x.emitted + 1
          plan := x.plan.map fun p => (p.1, p.2.1, p.2.2.1, p.2.2.2 + 1) }
        emit (setAxis s a (endFollow y)) (stepPulse s a fwd t1))) ∧
    (∀ (a : Nat) t, steps (.axisDone a) (fun s =>
        let x := axis s a
        ¬(x.st ≠ 2 ∨ (motionNext x).isSome) ∧
          motionEnds x = some t ∧
          ¬(nowLocal s < t))
      (fun s =>
        let x := axis s a
        let s1 := setAxis s a { x with st := restState x, dec := none }
        endAxisTags (raise s1 0x0A0E (args [(4, a), (4, uns 32 x.pos)])) a (if x.dec.isSome then 0x20 else 0) 0)) ∧
    (∀ (input : Nat) (fwd : Bool), steps (.stepInEdge input fwd) (fun s => ¬(s.sys.role ≠ .bed))
      (fun s =>
        let s1 := capRec s 0x0A (2 + input) 0 (leBytes 4 2 ++ leBytes 4 (b2n fwd))
        ((List.range 8).filter fun a => (axis s a).st == 3 && (axis s a).input == input && !(axis s a).ending).foldl (followEdge fwd) s1)) ∧
    (∀ (a : Nat), steps (.encoderZEdge a) (fun s =>
        let x := axis s a
        ¬(x.st ≠ 4 ∨ x.zSeen))
      (fun s =>
        let x := axis s a
        setAxis s a { x with zSeen := true, pos := x.homePos, enc := alignEnc s a x.homePos, dec := some (nowLocal s, axisW s a 4, 0) })) ∧
    (∀ (a : Nat) t, steps (.homingDone a) (fun s =>
        let x := axis s a
        ¬(x.st ≠ 4 ∨ x.zSeen = false ∨ (motionNext x).isSome) ∧
          motionEnds x = some t ∧
          ¬(nowLocal s < t))
      (fun s =>
        let x := axis s a
        endAxisTags (raise (setAxis s a { x with st := 1, homed := true, dec := none, zSeen := false }) 0x0A0F (args [(4, a), (4, uns 32 x.pos)])) a 0 0)) ∧
    (∀ (a : Nat), steps (.homingTimeout a) (fun s =>
        let x := axis s a
        ¬(x.st ≠ 4 ∨ x.zSeen ∨ x.emitted < 2 ^ 31))
      (fun s => stopAxis s a 3))

/-- With the conditions named, EMIT_EN falls and rises, a head's frame is sent, answered or missed, its link changes, it
halts and is released, gates and set-points are written and its loops are updated. -/
def Obligations.HeadEventsComplete : Prop :=
    (∀ (a : Bool) (b : Bool), steps (.emitEnFall a b) (fun _ => True)
      (fun s =>
        if s.sys.st = .reset then { s with sys.emitEnA := s.sys.emitEnA && !a, sys.emitEnB := s.sys.emitEnB && !b } else
        let s1 := if a then emitFall s 0 else s
        if b then emitFall s1 1 else s1)) ∧
    (∀ (a : Bool) (b : Bool), steps (.emitEnRise a b) (fun _ => True)
      (fun s =>
        let was := s.sys.emitEnA && s.sys.emitEnB
        let s1 := { s with sys.emitEnA := s.sys.emitEnA || a, sys.emitEnB := s.sys.emitEnB || b }
        if s.sys.st = .reset then s1 else
        let s2 := capRec (trackDiffer s1) 0x0A 1 0 (leBytes 4 1 ++ leBytes 4 (emitLow s1))
        if !was && s1.sys.emitEnA && s1.sys.emitEnB && s.sys.role != .bed then raise s2 0x0B07 [] else s2)) ∧
    (∀ t, steps .emitEnDiscrepancy (fun s =>
        s.sys.emitDiffer = some t ∧
          ¬(s.sys.st = .reset ∨ s.time.loc < t + keyU s 0x0B38 0 2 * msTicks))
      (fun s =>
        let s1 := { s with sys.emitDiffer := none }
        if s.sys.role = .bed then fire s1 21 0 (emitLow s + 4) else raise s1 0x0B08 (args [(4, b2n s.sys.emitEnA)]))) ∧
    (∀ (enc : List Int), steps (.headFrameInstant enc) (fun s =>
        let f := buildAt s (nowSys s / 2048 * 2048)
        ¬(s.sys.role ≠ .bed ∨ s.sys.st = .reset ∨ s.sys.st = .boot) ∧
          ¬(frameSent s f))
      (fun s =>
        let f := buildAt s (nowSys s / 2048 * 2048)
        let s1 := { s with bed.lastFrame := some f }
        stallChecks enc ((List.range 16).foldl (if pairStandby s then idleFrame f else headFrame f) s1))) ∧
    (∀ (h : Nat) (crcOk : Bool) (seq laser : Nat) (fault : Bool) (ex ey ez : Int) (mon : Nat) (mp : List Nat) (cam : List Byte)
    (stamp : Nat), steps (.headUpstreamFrame h crcOk seq laser fault ex ey ez mon mp cam stamp) (fun s => ¬(s.sys.role ≠ .bed ∨ (h = 15 ∧ peerLane s)))
      (fun s =>
        if (lane s h).st ≠ 5 then blockHeaders s h 32 true
        else takeFrame h crcOk seq laser fault ex ey ez mon mp cam stamp (blockHeaders s h 32 true))) ∧
    (∀ (h : Nat) seq f r, steps (.headFrameMissing h) (fun s =>
        let x := bhead s h
        x.waiting = (seq, f) :: r ∧
          ¬(buildNow s < f + keyU s 0x0B02 0 2))
      (fun s =>
        let x := bhead s h
        let s1 := setHead (bump s 0x0B h 3) h { x with waiting := r, okRun := 0, missRun := x.missRun + 1, laserBad := 0 }
        let s2 := capHead s1 h 1 (leBytes 4 h ++ leBytes 8 0 ++ leBytes 2 seq)
        if headState s h = 2 ∧ x.missRun + 1 = keyU s 0x0B03 0 1 then fire s2 22 h 2 else s2)) ∧
    (∀ (h : Nat), steps (.headLinkChange h) (fun s =>
        let x := bhead s h
        ¬(s.sys.role ≠ .bed ∨ x.defn.isEmpty))
      (fun s =>
        let x := bhead s h
        let lock := (lane s h).st == 5
        if !x.up then
          match x.rx with
          | u :: _ =>
            if lock && decide (16 ≤ x.okRun) then
              let el := u.ready - 64 - u.f
              let s1 := raise (setHead s h { x with up := true }) 0x0B01 (args [(4, h), (4, uns 32 el)])
              setLoopDelay s1 h el x.echo.isNone
            else s
          | [] => s
        else if !lock || decide (16 ≤ x.missRun) then
          raise (setHead s h { x with up := false, okRun := 0, downAt := s.time.loc, linkRecorded := false }) 0x0B02 (args [(4, h), (4, b2n lock)])
        else s)) ∧
    (∀ (h : Nat), steps (.headLinkFault h) (fun s =>
        let x := bhead s h
        ¬(x.defn.isEmpty ∨ x.up ∨ x.linkRecorded ∨ counted s.sys.st = false ∨ s.time.loc < x.downAt + msTicks))
      (fun s =>
        let x := bhead s h
        fire (setHead s h { x with linkRecorded := true }) 22 h 1)) ∧
    (∀ (h header : Nat) (block : List Byte), steps (.haltBlock h header block) (fun s => ¬(s.sys.role ≠ .bed ∨ 16 ≤ h ∨ (h = 15 ∧ peerLane s)))
      (fun s =>
        match blockKind true header block with
        | .halt => haltBlock h (blockHeaders s h 1 true)
        | .foreign => bump (blockHeaders s h 1 true) 0x0B h 2
        | .invalid => bump (blockHeaders s h 1 false) 1 h 1
        | _ => blockHeaders s h 1 true)) ∧
    (∀ (h : Nat) a b, steps (.haltReleased h) (fun s =>
        let x := bhead s h
        x.halt = some (a, b) ∧
          ¬(s.time.loc < b + 64 * 2048))
      (fun s =>
        let x := bhead s h
        raise (setHead s h { x with halt := none }) 0x0B03 (args [(4, h), (4, (s.time.loc - a) / usTicks)]))) ∧
    (∀ (h : Nat) t on r, steps (.gateEdge h) (fun s =>
        let x := bhead s h
        x.toPlace = (t, on) :: r ∧
          ¬(buildNow s < t))
      (fun s =>
        let x := bhead s h
        let s1 := setHead s h { x with toPlace := r }
        let at_ := sysOfBuild s t
        let s2 := if on && !(emissionOn s && laneUse s h == .head h) then s1 else driveLgate s1 h on (at_ + keyS s 0x0B05 (2 * h) 2)
        (stringsOf s2 h).foldl (fun u n =>
          if on && !shuntReady u n then u else driveShunt u n on (at_ + keyS u 0x0B37 (2 * n) 2)) s2)) ∧
    (∀ (h : Nat), steps (.setpointSignature h) (fun s =>
        let x := bhead s h
        ¬(x.sigN ≠ 1024))
      (fun s =>
        let x := bhead s h
        let k := frameNumber s (buildNow s) / 1024
        let s1 := capSignature (capSignature (setHead s h { x with sigN := 0 }) 4 h k (Nat.xor x.sigCrc 0xFFFFFFFF)) 5 h k (Nat.xor x.drvCrc 0xFFFFFFFF)
        (stringsOf s1 h).foldl (fun t n => capSignature t 5 (16 + n) k (Nat.xor (stringRef t n).sigCrc 0xFFFFFFFF)) s1)) ∧
    steps .stringFactorLatch (fun s => ¬(s.sys.role ≠ .bed ∨ s.time.loc / msTicks ≤ s.bed.latchAt))
      (fun s => ((List.range 12).filter (stringOn s)).foldl latchString { s with bed.latchAt := s.time.loc / msTicks }) ∧
    (∀ (h : Nat), steps (.headLoopUpdate h) (fun s =>
        let f := buildAt s (nowSys s / 2048 * 2048)
        ¬(s.sys.role ≠ .bed ∨ s.sys.st = .reset ∨ s.sys.st = .boot ∨ headDefined s h = false ∨ frameSent s f))
      (fun s =>
        let f := buildAt s (nowSys s / 2048 * 2048)
        headUpdate (commitRun s h f) h f)) ∧
    (∀ (h : Nat) el, steps (.loopDelaySet h) (fun s =>
        let x := bhead s h
        x.echo = some el ∧
          ¬(x.leadUsed = keyU s 0x0B00 (2 * h) 2))
      (fun s => setLoopDelay s h el false))

/-- With the conditions named, a soft-start ends, a string and a headroom loop are updated, and the trace triggers and ends.
-/
def Obligations.LoopEventsComplete : Prop :=
    (∀ (n : Nat) (ok : Bool), steps (.stageSoftstartDone n ok) (fun s =>
        let g := stage s n
        ¬(g.mode ≠ 1))
      (fun s =>
        let g := stage s n
        match s.sys.role with
        | .tile => if g.softAt + msTicks ≤ s.time.loc then trackLimit (setStage s n { g with mode := if displayed s then 3 else 2 }) n else s
        | .bed =>
          if ok then (if g.softAt + rampTicks ≤ s.time.loc then setStage s n { g with mode := 3 } else s)
          else if g.softAt + msTicks ≤ s.time.loc then fire s 20 n 4 else s
        | _ => s)) ∧
    (∀ (n : Nat) (sample : Option Int), steps (.stringLoopUpdate n sample) (fun s =>
        let g := stage s n
        let k := 16 + n
        ¬(s.sys.role ≠ .bed ∨ 12 ≤ n ∨ g.mode = 0 ∨ s.time.loc / 8000 ≤ (loopSlot s k).seen))
      (fun s =>
        let g := stage s n
        let k := 16 + n
        let s0 := capRec s 7 (32 + n) 0 (leBytes 4 n ++ leBytes 4 (uns 32 (sample.getD (-1))))
        let s1 := loopUpdate (setLoop s0 k { loopSlot s0 k with seen := s.time.loc / 8000 }) k
          { delta := 8000, target := stringTarget s n, headFf := 0, lo := loopOutMin s k, hi := stringMax s n
            x := sample, noDemand := false, qualified := true, first := none }
        let s2 := setStage s1 n { stage s1 n with code := (loopSlot s1 k).out.toNat }
        if g.mode = 4 ∧ g.softAt + rampTicks ≤ s.time.loc then stopStage s2 n else s2)) ∧
    (∀ (n : Nat), steps (.headroomLoopUpdate n) (fun s =>
        let l := { loopSlot s n with out := (stage s n).code, held := (stage s n).code }
        ¬(s.sys.role ≠ .tile ∨ slotExists s n = false ∨ displayed s = false ∨ (stage s n).mode ≠ 3 ∨ l.seen = s.loops.ended))
      (fun s =>
        let l := { loopSlot s n with out := (stage s n).code, held := (stage s n).code }
        let r := (stage s n).report
        let s1 := loopUpdate (setLoop s n { l with seen := s.loops.ended, epoch := s.loops.epoch }) n
          { delta := s.loops.endedLen, target := headroomTarget s n, headFf := 0, lo := codeMin s n, hi := codeMax s n
            x := r.map fun c => (c : Int) * 10, noDemand := r.isNone, qualified := true
            first := if l.epoch = s.loops.epoch then none else some ((stage s n).code : Int) }
        trackLimit (setStage s1 n { stage s1 n with code := max (codeMin s1 n) (min (codeMax s1 n) (loopSlot s1 n).out.toNat) }) n)) ∧
    steps .traceDone (fun s => (s.trace.st = 2 ∧ (List.range 8).all (fun c => !(tchan s c).enable || decide (16384 - s.trace.pre ≤ (tchan s c).after))))
      (fun s =>
        raise { s with trace.st := 3 } 0x0C05 (args [(4, s.trace.firedBy), (8, shortForm s.trace.firedSys)])
        ) ∧
    (∀ (src arg : Nat), steps (.traceTrigger src arg) (fun s => s.trace.trigSrc = src ∧ traceArgOk src s.trace.trigArg arg = true)
      (fun s => traceFire s src))

/-- With the conditions named, a conversion is judged, throttling and AVS step, and ageing is sampled, saved and planned. -/
def Obligations.ThermalEventsComplete : Prop :=
    (∀ (v : List Int), steps (.tempConversion v) (fun s => ¬(s.sys.porstLow ∨ s.time.loc % msTicks ≠ 0 ∨ s.th.lastConv = some s.time.loc))
      (fun s =>
        let s1 := convertAll { s with th.lastConv := some s.time.loc } v
        let s2 := if 0 < s1.th.level then bump s1 0x0E 0 0 else s1
        takeDeviations (trackStop (stepShutdown (stepRise (stepThrottle (stepWarn s2))))))) ∧
    steps .throttleStep (fun s => ¬(s.sys.porstLow ∨ s.time.loc < s.th.nextStep))
      (fun s =>
        if s.th.throttle || s.th.rise then
            if 8 ≤ s.th.level then s
            else trackStop (setLevel { s with th.nextStep := s.th.nextStep + throttleStep s } (s.th.level + 1))
          else if s.th.floor < s.th.level then
            trackStop (setLevel { s with th.nextStep := s.th.nextStep + 4 * throttleStep s } (s.th.level - 1))
          else s) ∧
    (∀ (slack mv ma10 : Nat) (ok : Bool), steps (.avsTick slack mv ma10 ok) (fun s => ¬(s.sys.porstLow ∨ s.th.busStopped))
      (fun s =>
        if ok = false then avsFailed s else
        let t := keyU s 0x0E06 0 1
        let run := if t + 4 < slack then s.th.slackRun + 1 else 0
        let low := if slack < t ∧ s.th.avsMv = 850 then s.th.lowRun + 1 else 0
        let s1 := { s with th.busFails := 0, th.vCore := mv % 65536, th.iCore := ma10 % 65536, th.slackRun := run, th.lowRun := low }
        let s2 := if low = 10 then fire s1 34 0 2 else s1
        if keyU s 0x0E04 0 1 = 0 then
          if s.th.fixedDone ∨ s.sys.st = .boot then s2
          else bump (avsSet { s2 with th.fixedDone := true } (keyU s 0x0E05 0 2)) 0x0E 0 3
        else if capoHeld s 3 0 then s2
        else avsCommand s2 (avsTarget s slack run))) ∧
    (∀ (ok : Bool), steps (.avsbusRetry ok) (fun s => ¬(s.sys.porstLow ∨ s.th.busStopped = false ∨ s.time.loc < s.th.retryAt))
      (fun s =>
        if ok then { s with th.busStopped := false, th.busFails := 0, th.avsMv := 800, th.avsOld := 800, th.avsAt := none }
        else bump { s with th.retryAt := s.th.retryAt + 100 * msTicks } 0x0E 0 5)) ∧
    steps .slackBelowOneTap (fun s => ¬(s.th.busStopped))
      (fun s =>
        let v := min 850 (s.th.avsMv + 25)
        raise (bump (avsSet s v) 0x0E 0 4) 0x0E07 (args [(2, v)])) ∧
    (∀ (ratio : List Nat) (sLo : Nat) (sHi : Nat) (vLo : Nat) (vHi : Nat), steps (.ageingSample ratio sLo sHi vLo vHi) (fun s =>
        let a := s.th.age
        ¬(s.sys.st = .reset ∨ s.sys.st = .boot ∨ s.time.loc < a.hourAt + 3600 * secTicks))
      (fun s =>
        let a := s.th.age
        { s with
          th.age.hours := a.hours + 1, th.age.hourAt := a.hourAt + 3600 * secTicks
          th.age.dMax := ratio.foldl max 0
          th.age.logic := a.logic ++ [(a.hours + 1) :: sLo :: sHi :: vLo :: vHi :: ratio] })) ∧
    steps .ageingSave (fun s => ¬(s.sys.st = .reset ∨ s.sys.st = .boot ∨ s.th.age.hours < s.th.age.savedAt + 24))
      (fun s => ageSave s) ∧
    steps .replanDue (fun s => ¬(s.sys.st = .reset ∨ s.sys.st = .boot ∨ capoHeld s 4 0))
      (fun s =>
        match s.th.pendReplan with
        | some r => runReplan s r
        | none =>
          if s.th.age.lastReplan + keyU s 0x0E07 0 2 ≤ s.th.age.hours then replan 0 false s else s)

/-- With the conditions named, calibration steps are due and end, quiet instants come or time out and the slicers' first step
runs. -/
def Obligations.CalibrationEventsComplete : Prop :=
    (∀ (d : Nat) (inst : Nat) (o : CalObs), steps (.calStepDone d inst o) (fun _ => True)
      (fun s =>
        match s.cal.steps.find? fun x => x.dom == d && x.inst == inst with
        | none => calGo s
        | some x => if x.dom = 1 ∧ x.service = false ∧ x.handed = false then s else calGo (calFinish x o s))) ∧
    (∀ (inst : Nat) (hits : List Nat) x, steps (.quietInstant inst hits) (fun s => delayWaits s inst = some x)
      (fun s =>
        let s1 := calTwin inst hits s
        let y := calLines s1 inst
        { s1 with
          cal.lines := tabSet DelayPair.cold s1.cal.lines inst { y with activeB := !y.activeB }
          cal.steps := s1.cal.steps.map fun t => if t = x then { t with handed := true } else t })) ∧
    (∀ (inst : Nat) (hits : List Nat) x, steps (.quietInstantTimeout inst hits) (fun s =>
        delayWaits s inst = some x ∧
          ¬(s.time.loc < x.start + secTicks))
      (fun s => calGo (calAbandon (calTwin inst hits s) 1 inst 3))) ∧
    (∀ (l : Nat), steps (.slicerFirstStep l) (fun s =>
        let t := tabGet 0 s.cal.lockAt l
        ¬(t = 0 ∨ calBackground s = false ∨ s.time.loc < t - 1 + secTicks ∨ calBusy s 2 l))
      (fun s =>
        let s1 := { s with cal.lockAt := tabSet 0 s.cal.lockAt l 0 }
        if calReady s 2 l false then calBegin s1 2 l false false else s1)) ∧
    (∀ (d i : Nat), steps (.calStepDue d) (fun s => calBackground (calGo s) = true ∧ d < 4 ∧ ((calGo s).cal.steps.any fun t => t.dom == d) = false ∧
        (calDom (calGo s) d).lastEnd + keyU (calGo s) (0x0F00 + d) 0 4 * secTicks ≤ (calGo s).time.loc ∧
        ((calRotation (calGo s) d).find? fun i => calReady (calGo s) d i false) = some i)
      (fun s => let x := calDom (calGo s) d
        let y := if x.prio.contains i then { x with prio := x.prio.erase i } else { x with next := i + 1 }
        calBegin (setCalDom (calGo s) d y) d i false false))

/-- With the conditions named, heartbeats are sent and heard by three ways, silence makes a take-over, start-up and
switch-back rules act, and records and saved state reach the standby. -/
def Obligations.PairEventsComplete : Prop :=
    (∀ (port src state flags : Nat), steps (.heartCell port src state flags) (fun s => ¬(portLocked s port = false))
      (fun s =>
        match s.sys.role with
        | .tile => if bit state 4 && bit state 5 then notice port s else s
        | .sender =>
          let s1 := learnPeer s port src
          if paired s ∧ portMode s port = 3 ∧ bundleFirst s port = linkPort s then peerHeart src state s1
          else if port < 8 ∧ returnPort s port ∧ bit flags 0 then ringTakeover port src s else s1
        | _ => if paired s ∧ port = 15 then peerHeart src state s else s)) ∧
    (∀ (port : Nat), steps (.takeoverNotice port) (fun s =>
        let a := s.link.tile.activeUp
        ¬(s.sys.role ≠ .tile ∨ 2 ≤ port ∨ portLocked s port = false ∨ port = a ∨ 2 ≤ a ∨ s.link.tile.suppressed.contains a))
      (fun s =>
        let a := s.link.tile.activeUp
        { s with link.tile.suppressed := s.link.tile.suppressed ++ [a] })) ∧
    steps .heartbeatSend (fun s =>
        let ms := s.time.loc / msTicks
        ¬(paired s = false ∨ s.pair.beating = false ∨ ms = s.pair.beatMs))
      (fun s =>
        let ms := s.time.loc / msTicks
        let s1 := emit { s with pair.beatMs := ms } (.peer 0 (two32 (ms * msTicks) ++ [w32 ((if s.pair.active then 100 else 300) * usTicks)]))
        let p := linkPort s
        let s2 := if portLocked s1 p then sendHeart s1 p false else s1
        pairHello s2 (pairLinkUp s2)) ∧
    steps .heartbeatSilence (fun s =>
        let s1 := goSilent 1 (goSilent 0 s)
        ¬(paired s = false ∨ s.pair.beating = false) ∧
          ¬(s1.pair.hb.silent = s.pair.hb.silent ∧ s1.pair.lk.silent = s.pair.lk.silent))
      (fun s =>
        let s1 := goSilent 1 (goSilent 0 s)
        if s1.pair.hb.silent && s1.pair.lk.silent then
            let s2 := fire s1 41 2 2
            if s2.pair.active = false ∧ s2.pair.heardAt.isSome then becomeActive 1 s2 else s2
          else fire s1 41 (if s1.pair.hb.silent then 0 else 1) 1) ∧
    steps .pairStartWaitExpiry (fun s =>
        (pairStandby s && s.pair.beating && s.sys.st == .standby && preferredStandby s && s.pair.heardAt.isNone &&
          unheard s none (keyU s 0x0F87 0 2)))
      (fun s => becomeActive 4 s) ∧
    (∀ safe, steps .autoSwitchback (fun s =>
        (pairActive s && preferredStandby s && peerSynced s && peerUp s && s.pair.hand.isNone && s.pair.peerUpAt != 0 &&
                decide (s.pair.peerUpAt - 1 + 10 * secTicks ≤ s.time.loc)) ∧
          switchBack s = some safe)
      (fun s => { s with pair.hand := some (0, 3, handTime s), pair.backDone := s.pair.backDone || safe })) ∧
    (∀ (cause : Nat), steps (.handoverInstant cause) (fun _ => True)
      (fun s =>
        match s.pair.hand with
        | some (_, c, t) => if s.pair.active && handDue s t then becomeStandby c s else s
        | none =>
          if pairStandby s && s.pair.beating && s.pair.synced && counted s.sys.st && (cause == 2 || cause == 3) then becomeActive cause s else s)) ∧
    steps .pairPrimaryStartExpiry (fun s => (pairStandby s && s.pair.beating && s.sys.st == .standby && !preferredStandby s && unheard s s.pair.activeAt 3))
      (fun s => becomeActive 4 s) ∧
    steps .takeoverNoticeRepeat (fun s => ¬(pairActive s = false ∨ s.sys.role ≠ .sender ∨ s.pair.noticeEnd < s.time.loc ∨ s.time.loc < s.pair.noticeAt + msTicks))
      (fun s => sendNotice { s with pair.noticeAt := s.pair.noticeAt + msTicks }) ∧
    steps .snapshotSend (fun s => ¬(pairActive s = false ∨ pairLinkUp s = false ∨ (s.pair.snapValid ∧ s.time.loc < s.pair.snapAt + secTicks)))
      (fun s =>
        let body := (pairItems s).flatMap itemBytes
        let same := peerSynced s && s.pair.acked == some body
        let s1 := pairSend s 1 0 (if same then 0 else body.length) (if same then [] else body)
        bump { s1 with
          pair.snapSeq := s1.pair.seq, pair.snapAt := s.time.loc, pair.snapSys := s.time.sys, pair.snapBody := body, pair.snapValid := true } 0x0F 4 2) ∧
    (∀ (r : List Byte) type flags seq arg body, steps (.peerRecord r) (fun s =>
        ¬(paired s = false ∨ pairLinkUp s = false) ∧
          recordFields r = some (type, flags, seq, arg, body))
      (fun s =>
        let s1 := noteSeq seq s
        match type with
        | 1 => if s1.pair.active then s1 else if arg = 0 then takeHeader seq s1 else takeSnapshot seq (body.take arg) s1
        | 2 => if s1.pair.active then s1 else
          bump { mirrorApply s1 arg body with pair.mirrorSeq := seq } 0x0F 4 3
        | 3 => if s1.pair.active then s1 else
          bump { s1 with
            pair.mirrorSeq := seq, pair.progress := tabSet (0, 0) s1.pair.progress (leAt body 0 4) (leAt body 4 4, leAt body 8 8) } 0x0F 4 3
        | 4 => { s1 with pair.peerFlags := flags + 1, pair.backDone := s1.pair.backDone && bit flags 3 }
        | 5 => if arg = s1.pair.snapSeq ∧ s1.pair.active then { s1 with pair.acked := some s1.pair.snapBody } else s1
        | _ => s1)) ∧
    steps .savedStateCopy (fun s =>
        let old := savedCopy s
        let b := savedBytes s
        ¬(pairStandby s = false ∨ s.pair.snapValid = false ∨ s.sys.st = .reset ∨ s.sys.st = .boot ∨
          (s.pair.savedAt ≠ 0 ∧ s.time.loc + 1 < s.pair.savedAt + 60 * secTicks) ∨ 16384 < b.length ∨
          (old.drop 0x14).take (old.length - 0x18) = savedItems s))
      (fun s =>
        let b := savedBytes s
        let i := s.nv.savedLast % 8
        emit { s with nv.saved := tabSet [] s.nv.saved i b, nv.savedLast := i + 1, pair.savedAt := s.time.loc + 1 } (.record 3 i b)) ∧
    (∀ (width : Nat), steps (.hbInEdge width) (fun s => paired s = true ∧ (∀ t, s.pair.hb.last = some t → t + 500 * usTicks ≤ s.time.loc) ∧ 50 * usTicks ≤ width ∧ width ≤ 200 * usTicks)
      (fun s => hearBeat 0 true s)) ∧
    (∀ (width : Nat), steps (.hbInEdge width) (fun s => paired s = true ∧ (∀ t, s.pair.hb.last = some t → t + 500 * usTicks ≤ s.time.loc) ∧ 250 * usTicks ≤ width ∧ width ≤ 400 * usTicks)
      (fun s => hearBeat 0 false s)) ∧
    (∀ (t : Nat), steps .pairYield (fun s => s.pair.activeAt = some t ∧ s.pair.changedAt ≤ t ∧ pairActive s = true ∧ s.pair.peerActive = true ∧ yields s = true)
      (fun s => becomeStandby 5 s))

/-- For every command, state and rest of the queue, a step of the state with the command in front and the rest behind it is
exec of the command on the state with the rest as its queue. -/
def Obligations.StepTakesTheFrontCommand : Prop :=
    ∀ (i : Instr) (rest : List Instr) (s : State), step { s with pending := i :: rest } = exec i { s with pending := rest }

/-- On an empty queue a step answers the state itself while PORST_N is low. Else LOCAL, SYSTEM and PROCESS time advance by 32
ticks; outside RESET one codeword leaves on each port that originates its codewords and whose next one is then due, on no
other port; and nothing else changes but the transmitters and what has been sent. That an empty queue means one cycle, and
that codewords leave in it, is the model's choice (logs 6 and 65). -/
def Obligations.EmptyQueueOnlyCountsTime : Prop :=
    ∀ s : State, s.pending = [] → (s.sys.porstLow = true → step s = .next s) ∧
    (s.sys.porstLow = false → ∃ t, step s = .next t ∧ t = { s with time := t.time, wire := t.wire, out := t.out } ∧ t.time.loc = (s.time.loc + 32) % 2 ^ 64 ∧
      t.time = { s.time with loc := t.time.loc, sys := t.time.sys, process := t.time.process } ∧
      (s.sys.st = .reset → t.wire = s.wire ∧ t.out = s.out) ∧
      (s.sys.st ≠ .reset → ∀ p, (txPort t p).index = (txPort s p).index + (if codewordDue { s with time := t.time } p then 1 else 0)))

/-- The manual does not specify the behaviour of a device strapped for factory test: every command except the two edges of
PORST_N answers the refusal factoryTest. -/
def Obligations.FactoryTestIsRefused : Prop :=
    ∀ (i : Instr) (s : State), s.sys.role = .factory → i ≠ .porstNAssert →
    (∀ role tileId emitA emitB o, i ≠ .porstNRelease role tileId emitA emitB o) → exec i s = .refused .factoryTest

/-- The release of PORST_N while it is low makes the role what the strap encodes, 00 TILE, 01 SENDER, 10 BED and 11 factory
test; no other command changes the role, so it lasts until PORST_N has been asserted and released again, and WRST_N does not
re-sample it. -/
def Obligations.RoleIsSampledAtPortRelease : Prop :=
    (∀ (role tileId : Nat) (emitA emitB : Bool) (o : BootObs) (s : State), s.sys.porstLow = true →
      ∃ t, exec (.porstNRelease role tileId emitA emitB o) s = .next t ∧
        (role % 4 = 0 → t.sys.role = .tile) ∧ (role % 4 = 1 → t.sys.role = .sender) ∧ (role % 4 = 2 → t.sys.role = .bed) ∧
        (role % 4 = 3 → t.sys.role = .factory)) ∧
    (∀ (i : Instr) (s t : State), exec i s = .next t →
      (∃ role tileId emitA emitB o, i = .porstNRelease role tileId emitA emitB o ∧ s.sys.porstLow = true) ∨ t.sys.role = s.sys.role)

/-- Whatever a step runs, the queue after it is the queue before it without its front; on an empty queue it stays empty. The
queue is the model's own. -/
def Obligations.QueueIsFirstInFirstOut : Prop :=
    ∀ s t : State, step s = .next t → t.pending = s.pending.tail

/-- From every state in which a low PORST_N means RESET with emission off, whatever a step runs, a low PORST_N means RESET
with emission off after it. -/
def Obligations.PortResetHoldsTheDevice : Prop :=
    ∀ s t : State, s.resetHeld → step s = .next t → t.resetHeld

/-- Right after the release of PORST_N of a device strapped 00 the role is TILE, the state BOOT, SEALED and CONFIG_GEN are 0,
the queue, the log, the fences and the commands in flight are empty, emission is off, every table is in canonical form and
the reset invariant holds. -/
def Obligations.ResetStateIsInOrder : Prop :=
    State.reset.sys.role = .tile ∧ State.reset.sys.st = .boot ∧ State.reset.sys.sealed = false ∧ State.reset.sys.configGen = 0 ∧
    State.reset.pending = [] ∧ State.reset.log.entries = [] ∧ State.reset.spill.fences = [] ∧ State.reset.spill.status = 0 ∧
    State.reset.cmds.inFlight = [] ∧ emissionOn State.reset = false ∧ State.reset.tablesWf ∧ State.reset.resetHeld

/-- After the release of a low PORST_N the host registers, the commands in flight, the Spillway, the configuration, the
policies' holds, the capture and the replay, the cascade links, the lanes, the emission timeline, lamp health, the Fretboard,
the trace, the composition, calibration, the loops, the build layer, the pair, the transmitters and DRAM are at their reset values, time starts
anew, SEALED is 0 and the queue is untouched. -/
def Obligations.PortReleaseStartsAfresh : Prop :=
    ∀ (role tileId : Nat) (emitA emitB : Bool) (o : BootObs) (s : State), s.sys.porstLow = true →
    ∃ t, exec (.porstNRelease role tileId emitA emitB o) s = .next t ∧ t.sys.porstLow = false ∧ t.sys.sealed = false ∧ t.sys.configGen = 0 ∧
      (strapRole role = .tile → t.sys.tileId = tileId % 65536) ∧ t.sys.emitEnA = emitA ∧ t.sys.emitEnB = emitB ∧ t.sys.notReady = true ∧
      t.regs = Regs.cold ∧ t.cmds = Cmds.cold ∧ t.spill = Spill.cold ∧ t.keys = Keys.cold ∧ t.capo = [] ∧ t.cap = Capture.cold ∧
      t.rep = Replay.cold ∧ t.time = Time.cold (strapRole role) ∧ t.link = Link.cold ∧ t.lanes = Lanes.cold ∧ t.tl = Timeline.cold ∧
      t.lamps = Lamps.cold ∧ t.fret = Fret.cold ∧ t.trace = Trace.cold ∧ t.send = Send.cold ∧ t.cal = Cal.cold ∧ t.loops = Loops.cold ∧
      t.bed = Bed.cold ∧ t.pair = Pair.cold ∧ t.wire = [] ∧ t.dram = [] ∧ t.pending = s.pending

/-- For every host command: before firmware is up it is answered NOT_READY by the hardware; then a LEN above 62 is
BAD_LENGTH; then a tag in flight is BAD_PARAM 0xFFFE with MAILBOX_PROTO recorded; then routing refuses with its status; then,
for a command that has arrived, an opcode of another role is ROLE_REJECT, one that the state does not allow is STATE_REJECT
and a LEN other than the opcode's is BAD_LENGTH. The first failure answers, and no COMMAND record of it enters a running
capture. -/
def Obligations.CommandsAreCheckedInOrder : Prop :=
    ∀ (i : Instr) (o : OpSpec) (c : Cmd) (s : State), hostCommand i = some (o, c) → s.acts →
    (s.sys.notReady = true → exec i s = .next (held s (hwNotReady s c))) ∧
    (s.sys.notReady = false → 62 < c.len → exec i s = .next (held s (answer s o.op c (rBad .badLength (lenNamed o)) false))) ∧
    (s.sys.notReady = false → c.len ≤ 62 → tagInFlight s c.tag = true → exec i s = .next (held s
      (answer (fire (bump s 0 0 2) 38 c.path (2 + c.tag % 4096 * 65536)) o.op c (rBad .badParam 0xFFFE) false))) ∧
    (∀ st d, s.sys.notReady = false → c.len ≤ 62 → tagInFlight s c.tag = false → (c.self && c.bcast) = false → route s c = .refuse st d →
      st ≠ .noCredit → exec i s = .next (held s (answer s o.op c (rBad st d) false))) ∧
    (arrives o c s → opInRole o s.sys.role = false → exec i s = .next (held s (finish o c (takeTag s o.op c, rBad .roleReject 0)))) ∧
    (arrives o c s → opInRole o s.sys.role = true → opInState o s.sys.st = false ∨ (pairStandby s && pairOpcode s.sys.role o.op) = true →
      exec i s = .next (held s (finish o c (takeTag s o.op c, rBad .stateReject (if 0x52 ≤ o.op ∧ o.op ≤ 0x56 then s.bed.build.st else 0))))) ∧
    (∀ n, arrives o c s → opInRole o s.sys.role = true → opInState o s.sys.st = true → (pairStandby s && pairOpcode s.sys.role o.op) = false →
      o.len = some n → c.len ≠ n → exec i s = .next (held s (finish o c (takeTag s o.op c, rBad .badLength n))))

/-- For every host command that is refused for a LEN above 62, for its role or for the device state, the next state differs
only in what reporting and the command's tag and response touch; a running capture and a pair's mirror take nothing. -/
def Obligations.RefusedCommandsChangeNothing : Prop :=
    ∀ (i : Instr) (o : OpSpec) (c : Cmd) (s : State), hostCommand i = some (o, c) →
    (s.acts ∧ s.sys.notReady = false ∧ 62 < c.len) ∨ (arrives o c s ∧ opInRole o s.sys.role = false) ∨
      (arrives o c s ∧ opInState o s.sys.st = false) →
    goes (exec i s) fun t => t = hostly s s t ∧ t.cap = s.cap ∧ t.dram = s.dram ∧ t.pair = s.pair

/-- For every host command that passes the checks, the last response waiting is the command's own: it carries its tag and
path and the status and words that the command's part answered, and it ends the tag unless that status is ACCEPTED. -/
def Obligations.AcceptedCommandsAreAnswered : Prop :=
    ∀ (i : Instr) (o : OpSpec) (c : Cmd) (s : State), hostCommand i = some (o, c) → Accepted o c s →
    ∃ (t : State) (r : Reply), exec i s = .next t ∧ t.cmds.responses.getLast? = some
      { path := c.path, origin := c.origin, notify := c.notify, tag := c.tag, ends := r.status != .accepted, hw := false
        words := w32 (statusCode r.status * 2 ^ 24 + c.tag % 4096 * 2 ^ 12 + flag (r.status == .accepted) 10 + flag false 9 + 2 ^ 8 + r.words.length % 256) ::
          w32 (r.detail % 65536 * 65536 + flag (degraded t) 4 + stateCode t.sys.st) :: r.words }

/-- A command that carries an opcode the table does not define answers BAD_OPCODE behind the other responses, keeps no tag,
and nothing else changes but what reporting touches; before firmware is up the hardware answers NOT_READY instead. -/
def Obligations.UndefinedOpcodeIsRefused : Prop :=
    ∀ (op : Nat) (c : Cmd) (s : State), s.acts → opcodes.contains (op % 256) = false → s.sys.notReady = false →
    goes (exec (.undefinedOpcode op c) s) fun t => t = hostly s s t ∧ t.cap = s.cap ∧ t.dram = s.dram ∧ t.pair = s.pair ∧
      t.cmds = { s.cmds with responses := s.cmds.responses ++
        [{ path := c.path, origin := c.origin, notify := c.notify, tag := c.tag, ends := false, hw := false
           words := respWords t c.tag ⟨.badOpcode, 0, []⟩ false }] }

/-- GET_INFO, GET_STATE, LINK_STATUS, TOPO_READ, CRC_RESULT_READ, FRETBOARD_READ, LAMP_HEALTH_READ, WEAR_READ, TIME_GET,
FAULT_READ, LOG_READ, LANE_STATUS, IMAGE_STATUS and CAL_STATUS: accepted, whatever they answer, the next state differs only
in what reporting, the tag and response and a running capture's ring touch. -/
def Obligations.ReadingCommandsChangeNothing : Prop :=
    ∀ (c : Cmd) (s : State),
    (Accepted opGetInfo c s → goes (exec (.getInfo c) s) fun t => t = hostly s s t) ∧
    (Accepted opGetState c s → goes (exec (.getState c) s) fun t => t = hostly s s t) ∧
    (Accepted opLinkStatus c s → goes (exec (.linkStatus c) s) fun t => t = hostly s s t) ∧
    (Accepted opTopoRead c s → goes (exec (.topoRead c) s) fun t => t = hostly s s t) ∧
    (Accepted opCrcResultRead c s → goes (exec (.crcResultRead c) s) fun t => t = hostly s s t) ∧
    (Accepted opFretboardRead c s → goes (exec (.fretboardRead c) s) fun t => t = hostly s s t) ∧
    (Accepted opLampHealthRead c s → goes (exec (.lampHealthRead c) s) fun t => t = hostly s s t) ∧
    (Accepted opWearRead c s → goes (exec (.wearRead c) s) fun t => t = hostly s s t) ∧
    (Accepted opTimeGet c s → goes (exec (.timeGet c) s) fun t => t = hostly s s t) ∧
    (Accepted opFaultRead c s → goes (exec (.faultRead c) s) fun t => t = hostly s s t) ∧
    (Accepted opLogRead c s → goes (exec (.logRead c) s) fun t => t = hostly s s t) ∧
    (Accepted opLaneStatus c s → goes (exec (.laneStatus c) s) fun t => t = hostly s s t) ∧
    (Accepted opImageStatus c s → goes (exec (.imageStatus c) s) fun t => t = hostly s s t) ∧
    (Accepted opCalStatus c s → goes (exec (.calStatus c) s) fun t => t = hostly s s t)

/-- CFG_WRITE of a value in range changes the staged value alone, LAYER_DEFINE the staged definition of its slot,
BUFFER_RELEASE of an idle buffer the buffer, PLUME_GUARD_SET in range the guard, SETPOINT_SET the override of its slot, and
TIME_SOURCE_SET with UPDATE_PATH the path delays that wait: beside that only reporting, the tag and response and a running
capture's ring change. -/
def Obligations.SettingCommandsChangeOneThing : Prop :=
    serves opCfgWrite .cfgWrite (fun c s => cfgFault true c s = none) (fun c s => rOk) (fun c s => { s with keys.staged := tabSet none s.keys.staged (cfgKey c) (some (maskKey (cfgKey c) (putBytes (keyStaged s (cfgKey c)) (cfgOffset c) ((bytesOf (c.payload.drop 2)).take (cfgBytes c))))) }) ∧
    serves opLayerDefine .layerDefine (fun c s => defBad ((List.range 25).map (pw c)) = none) (fun c s => rOk) (fun c s => setLayer s (bits (pw c 0) 24 6) { layer s (bits (pw c 0) 24 6) with staged := some ((List.range 25).map (pw c)) }) ∧
    serves opBufferRelease .bufferRelease (fun c s => (stillBuf s (bits (pw c 0) 0 10)).isSome = true ∧ bufState s (bits (pw c 0) 0 10) = 0) (fun c s => rOk) (fun c s => { s with send.bufs := tabSet none s.send.bufs (bits (pw c 0) 0 10) none }) ∧
    serves opPlumeGuardSet .plumeGuardSet (fun c s => s.bed.build.st ≠ 4 ∧ s.bed.build.st ≠ 5 ∧ pw c 1 ≤ 5000000 ∧ pw c 3 ≤ 100000000 ∧ pw c 4 ≤ 10000000) (fun c s => rOk) (fun c s => { s with bed.build.guard := (List.range 5).map (pw c) }) ∧
    serves opSetpointSet .setpointSet (fun c s => slotExists s (bits (pw c 0) 0 5) = true ∧ bit (pw c 0) 31 = true) (fun c s => rOk) (fun c s => setLoop s (bits (pw c 0) 0 5) { loopSlot s (bits (pw c 0) 0 5) with over_ := none, notify := false }) ∧
    serves opTimeSourceSet .timeSourceUpdatePath (fun c s => bit (pw c 0) 30 = true ∧ c.len = 7 ∧ s.sys.role = .tile) (fun c s => rOk) (fun c s => { s with time.pendPath := some (pw c 5, pw c 6) })

/-- A BAR2 write that reaches the device stores each of its bytes at its own address, but for an address of a protected area,
and every other byte of DRAM reads as before. -/
def Obligations.Bar2WritesReadBack : Prop :=
    ∀ (off : Nat) (data : List Byte) (s : State), s.acts → bar2Reaches s off data.length = true →
    goes (exec (.bar2Write off data) s) fun t => ∀ a : Nat,
      tabGet 0 t.dram a = if bar2Base s + off ≤ a ∧ a < bar2Base s + off + data.length ∧ (protectedAreas s).any (inArea a) = false
        then data.getD (a - (bar2Base s + off)) 0 else tabGet 0 s.dram a

/-- While 4096 commands or more are in flight a fetch of the command ring takes nothing: the state, the fetch index with it,
stays as it is and the entry stays in host memory. -/
def Obligations.RingFetchStopsAtFullFlight : Prop :=
    ∀ (e : List Word) (s : State), s.acts → 4096 ≤ s.cmds.inFlight.length → exec (.ringEntryFetch e) s = .next s

/-- An event whose code's high byte names a 0 bit of EVENT_ENABLE is not delivered: one that its chapter does not log changes
nothing and one that it logs only enters the log; with the bit at 1 its records are delivered, and to the log first where its
chapter logs it. -/
def Obligations.EventEnableGatesDelivery : Prop :=
    ∀ (s : State) (code : Nat) (l : List Byte),
    (bit (keyU s 0x0003 0 4) (code / 256) = false → raiseQuiet s code l = s ∧ raise s code l = logAdd s code l) ∧
    (bit (keyU s 0x0003 0 4) (code / 256) = true →
      raiseQuiet s code l = sendUpstream (deliver s (evRecords code s.sys.deviceId (timeForm s (sysTicks s)) l))
        (evRecords code s.sys.deviceId (timeForm s (sysTicks s)) l) ∧
      raise s code l = raiseQuiet (logAdd s code l) code l)

/-- With EXP in bits 15:11 and MAN in bits 10:0 of a pixel code, the value is MAN >> 5 for EXP 0, 16 777 215 for EXP 19 and
above, (2048 + MAN) << (EXP − 6) for EXP from 6 and (2048 + MAN) >> (6 − EXP) below; codes 0x0000 to 0x001F decode to 0 and
codes from 0x9800 to 16 777 215. -/
def Obligations.PixelCodesDecode : Prop :=
    ∀ e m : Nat, e < 32 → m < 2048 →
    pixelDecode (e * 2048 + m) =
      (if e = 0 then m >>> 5 else if 19 ≤ e then 16777215 else if 6 ≤ e then (2048 + m) <<< (e - 6) else (2048 + m) >>> (6 - e)) ∧
    (e * 2048 + m ≤ 0x001F → pixelDecode (e * 2048 + m) = 0) ∧ (0x9800 ≤ e * 2048 + m → pixelDecode (e * 2048 + m) = 16777215)

/-- For a lamp of colour c, with j and k the two other components, M_c is clamp((D_c X_c + 2 (O_cj X_j + O_ck X_k)) >> 13, 0,
16 777 215) with an arithmetic shift, whichever order j and k are taken in. -/
def Obligations.MatrixOfALamp : Prop :=
    ∀ (p c j k x0 x1 x2 : Nat), c < 3 → j < 3 → k < 3 → c ≠ j → c ≠ k → j ≠ k →
    (matrixApply p c [x0, x1, x2] : Int) = max (0 : Int) (min (16777215 : Int)
      (((entryDiag p c : Int) * ([x0, x1, x2].getD c 0 : Nat) + 2 * (entryOff p c j * ([x0, x1, x2].getD j 0 : Nat) + entryOff p c k * ([x0, x1, x2].getD k 0 : Nat))) >>> (13 : Nat)))

/-- The curve of a lamp at M, below 2²⁴, is interpolated between two entries of the active copy: below 2¹⁴ in 32 segments of
512, above in 32 segments for each octave, with the fraction and the arithmetic shift of the rule, clamped to 22 bits; entry
i of a default curve belongs to x_i. -/
def Obligations.CurveOfALamp : Prop :=
    ∀ (s : State) (curve m : Nat), m < 2 ^ 24 →
    (∀ i fb : Nat, (m < 2 ^ 14 → i = m >>> 9 ∧ fb = 9) →
      (2 ^ 14 ≤ m → i = 32 + (Nat.log2 m - 14) * 32 + ((m >>> (Nat.log2 m - 5)) &&& 31) ∧ fb = Nat.log2 m - 5) →
      (curveApply s curve m : Int) = max (0 : Int) (min (4194303 : Int) ((curveEntry s s.fret.active curve i : Int) +
        (((curveEntry s s.fret.active curve (i + 1) : Int) - curveEntry s s.fret.active curve i) * (m &&& (2 ^ fb - 1) : Nat)) >>> fb))) ∧
    (∀ i ≤ 32, curveX i = 512 * i) ∧ (∀ k n : Nat, n < 32 → curveX (32 + 32 * k + n) = 2 ^ (14 + k) + n * 2 ^ (9 + k))

/-- From SUSPECT with no run of failed short samples, n failed short samples in a row leave the lamp in SUSPECT with the run
counted while n is below SHORT_CONFIRM, and make it SHORT when n reaches it; one passed sample restarts the run. -/
def Obligations.ConfirmedShortLamp : Prop :=
    ∀ (confirm : Nat) (h : LampH), 1 ≤ confirm → h.health = 1 → h.shortRun = 0 →
    (∀ n, n < confirm → ((List.range n).foldl (fun x _ => shortObs confirm x true) h).health = 1 ∧
      ((List.range n).foldl (fun x _ => shortObs confirm x true) h).shortRun = n) ∧
    ((List.range confirm).foldl (fun x _ => shortObs confirm x true) h).health = 3 ∧
    (∀ n, n < confirm → (shortObs confirm ((List.range n).foldl (fun x _ => shortObs confirm x true) h) false).health = 1 ∧
      (shortObs confirm ((List.range n).foldl (fun x _ => shortObs confirm x true) h) false).shortRun = 0)

/-- A step of any number of ticks from a Weir that is still where it stands on its target leaves the value on the same side
of the target or on it, still there if it is on it, and leaves the target; a Weir that reaches its target has arrived. -/
def Obligations.WeirNeverPassesItsTarget : Prop :=
    ∀ (x : Weir) (p : WeirPar) (n : Nat), (x.y = x.t → x.v = 0) →
    (weirStep x p n).t = x.t ∧ (x.y ≤ x.t → (weirStep x p n).y ≤ x.t) ∧ (x.t ≤ x.y → x.t ≤ (weirStep x p n).y) ∧
    ((weirStep x p n).y = x.t → (weirStep x p n).v = 0 ∧ (weirStep x p n).arrived = true)

/-- In BED role, in every state, the sinks and shadow sinks are high-impedance and every scan control output is driven low.
-/
def Obligations.BedHoldsItsSinks : Prop :=
    ∀ s : State, s.sys.role = .bed → pinLevel s .sinks = .highZ ∧ pinLevel s .scanControl = .driven false
end

