-- ==== Sys2Proof/Laws/Keeps.lean ====
section
/-! SUPPORT. What each shared operation leaves unchanged: one lemma per operation, one equation per field of State. -/

namespace Sys2Proof.Machine

@[simp] theorem bumpN_keeps (s : State) (group inst ix n : Nat) :
    (bumpN s group inst ix n).sys = s.sys ∧ (bumpN s group inst ix n).regs = s.regs ∧ (bumpN s group inst ix n).cmds = s.cmds ∧
    (bumpN s group inst ix n).evs = s.evs ∧ (bumpN s group inst ix n).spill = s.spill ∧ (bumpN s group inst ix n).log = s.log ∧
    (bumpN s group inst ix n).keys = s.keys ∧ (bumpN s group inst ix n).capo = s.capo ∧ (bumpN s group inst ix n).cap = s.cap ∧
    (bumpN s group inst ix n).rep = s.rep ∧ (bumpN s group inst ix n).time = s.time ∧ (bumpN s group inst ix n).link = s.link ∧ (bumpN s group inst ix n).wire = s.wire ∧
    (bumpN s group inst ix n).lanes = s.lanes ∧ (bumpN s group inst ix n).tl = s.tl ∧ (bumpN s group inst ix n).lamps = s.lamps ∧
    (bumpN s group inst ix n).fret = s.fret ∧ (bumpN s group inst ix n).th = s.th ∧ (bumpN s group inst ix n).trace = s.trace ∧
    (bumpN s group inst ix n).send = s.send ∧ (bumpN s group inst ix n).img = s.img ∧ (bumpN s group inst ix n).cal = s.cal ∧
    (bumpN s group inst ix n).loops = s.loops ∧ (bumpN s group inst ix n).bed = s.bed ∧ (bumpN s group inst ix n).pair = s.pair ∧
    (bumpN s group inst ix n).nv = s.nv ∧ (bumpN s group inst ix n).dram = s.dram ∧ (bumpN s group inst ix n).out = s.out ∧
    (bumpN s group inst ix n).pending = s.pending := by unfold bumpN; simp

@[simp] theorem bump_keeps (s : State) (group inst ix : Nat) :
    (bump s group inst ix).sys = s.sys ∧ (bump s group inst ix).regs = s.regs ∧ (bump s group inst ix).cmds = s.cmds ∧
    (bump s group inst ix).evs = s.evs ∧ (bump s group inst ix).spill = s.spill ∧ (bump s group inst ix).log = s.log ∧
    (bump s group inst ix).keys = s.keys ∧ (bump s group inst ix).capo = s.capo ∧ (bump s group inst ix).cap = s.cap ∧
    (bump s group inst ix).rep = s.rep ∧ (bump s group inst ix).time = s.time ∧ (bump s group inst ix).link = s.link ∧ (bump s group inst ix).wire = s.wire ∧
    (bump s group inst ix).lanes = s.lanes ∧ (bump s group inst ix).tl = s.tl ∧ (bump s group inst ix).lamps = s.lamps ∧
    (bump s group inst ix).fret = s.fret ∧ (bump s group inst ix).th = s.th ∧ (bump s group inst ix).trace = s.trace ∧
    (bump s group inst ix).send = s.send ∧ (bump s group inst ix).img = s.img ∧ (bump s group inst ix).cal = s.cal ∧
    (bump s group inst ix).loops = s.loops ∧ (bump s group inst ix).bed = s.bed ∧ (bump s group inst ix).pair = s.pair ∧
    (bump s group inst ix).nv = s.nv ∧ (bump s group inst ix).dram = s.dram ∧ (bump s group inst ix).out = s.out ∧
    (bump s group inst ix).pending = s.pending := by unfold bump; simp

@[simp] theorem emit_keeps (s : State) (o : Out) :
    (emit s o).sys = s.sys ∧ (emit s o).regs = s.regs ∧ (emit s o).cmds = s.cmds ∧ (emit s o).evs = s.evs ∧ (emit s o).spill = s.spill ∧
    (emit s o).log = s.log ∧ (emit s o).keys = s.keys ∧ (emit s o).ctr = s.ctr ∧ (emit s o).capo = s.capo ∧ (emit s o).cap = s.cap ∧
    (emit s o).rep = s.rep ∧ (emit s o).time = s.time ∧ (emit s o).link = s.link ∧ (emit s o).wire = s.wire ∧ (emit s o).lanes = s.lanes ∧ (emit s o).tl = s.tl ∧
    (emit s o).lamps = s.lamps ∧ (emit s o).fret = s.fret ∧ (emit s o).th = s.th ∧ (emit s o).trace = s.trace ∧ (emit s o).send = s.send ∧
    (emit s o).img = s.img ∧ (emit s o).cal = s.cal ∧ (emit s o).loops = s.loops ∧ (emit s o).bed = s.bed ∧ (emit s o).pair = s.pair ∧
    (emit s o).nv = s.nv ∧ (emit s o).dram = s.dram ∧ (emit s o).pending = s.pending := by unfold emit; simp

/-- Sending several things puts them before what was sent, the last one first. -/
theorem emits_eq (os : List Out) : ∀ s : State, emits s os = { s with out := os.reverse ++ s.out } := by
  induction os with
  | nil => intro s; simp [emits]
  | cons a r ih => intro s; show emits (emit s a) r = _; rw [ih]; simp [emit]

@[simp] theorem emits_keeps (s : State) (os : List Out) :
    (emits s os).sys = s.sys ∧ (emits s os).regs = s.regs ∧ (emits s os).cmds = s.cmds ∧ (emits s os).evs = s.evs ∧
    (emits s os).spill = s.spill ∧ (emits s os).log = s.log ∧ (emits s os).keys = s.keys ∧ (emits s os).ctr = s.ctr ∧
    (emits s os).capo = s.capo ∧ (emits s os).cap = s.cap ∧ (emits s os).rep = s.rep ∧ (emits s os).time = s.time ∧
    (emits s os).link = s.link ∧ (emits s os).wire = s.wire ∧ (emits s os).lanes = s.lanes ∧ (emits s os).tl = s.tl ∧ (emits s os).lamps = s.lamps ∧
    (emits s os).fret = s.fret ∧ (emits s os).th = s.th ∧ (emits s os).trace = s.trace ∧ (emits s os).send = s.send ∧
    (emits s os).img = s.img ∧ (emits s os).cal = s.cal ∧ (emits s os).loops = s.loops ∧ (emits s os).bed = s.bed ∧
    (emits s os).pair = s.pair ∧ (emits s os).nv = s.nv ∧ (emits s os).dram = s.dram ∧ (emits s os).pending = s.pending := by rw [emits_eq]; simp

@[simp] theorem sendCells_keeps (s : State) (p : Nat) (l : List (List Byte)) :
    (sendCells s p l).sys = s.sys ∧ (sendCells s p l).regs = s.regs ∧ (sendCells s p l).cmds = s.cmds ∧
    (sendCells s p l).evs = s.evs ∧ (sendCells s p l).spill = s.spill ∧ (sendCells s p l).log = s.log ∧
    (sendCells s p l).keys = s.keys ∧ (sendCells s p l).ctr = s.ctr ∧ (sendCells s p l).capo = s.capo ∧
    (sendCells s p l).cap = s.cap ∧ (sendCells s p l).rep = s.rep ∧ (sendCells s p l).time = s.time ∧
    (sendCells s p l).link = s.link ∧ (sendCells s p l).lanes = s.lanes ∧ (sendCells s p l).tl = s.tl ∧
    (sendCells s p l).lamps = s.lamps ∧ (sendCells s p l).fret = s.fret ∧ (sendCells s p l).th = s.th ∧
    (sendCells s p l).trace = s.trace ∧ (sendCells s p l).send = s.send ∧ (sendCells s p l).img = s.img ∧
    (sendCells s p l).cal = s.cal ∧ (sendCells s p l).loops = s.loops ∧ (sendCells s p l).bed = s.bed ∧
    (sendCells s p l).pair = s.pair ∧ (sendCells s p l).nv = s.nv ∧ (sendCells s p l).dram = s.dram ∧
    (sendCells s p l).pending = s.pending := by unfold sendCells; dsimp only; split <;> simp

@[simp] theorem queueData_keeps (s : State) (p : Nat) (l : List (List Byte)) :
    (queueData s p l).sys = s.sys ∧ (queueData s p l).regs = s.regs ∧ (queueData s p l).cmds = s.cmds ∧
    (queueData s p l).evs = s.evs ∧ (queueData s p l).spill = s.spill ∧ (queueData s p l).log = s.log ∧
    (queueData s p l).keys = s.keys ∧ (queueData s p l).ctr = s.ctr ∧ (queueData s p l).capo = s.capo ∧
    (queueData s p l).cap = s.cap ∧ (queueData s p l).rep = s.rep ∧ (queueData s p l).time = s.time ∧
    (queueData s p l).link = s.link ∧ (queueData s p l).lanes = s.lanes ∧ (queueData s p l).tl = s.tl ∧
    (queueData s p l).lamps = s.lamps ∧ (queueData s p l).fret = s.fret ∧ (queueData s p l).th = s.th ∧
    (queueData s p l).trace = s.trace ∧ (queueData s p l).send = s.send ∧ (queueData s p l).img = s.img ∧
    (queueData s p l).cal = s.cal ∧ (queueData s p l).loops = s.loops ∧ (queueData s p l).bed = s.bed ∧
    (queueData s p l).pair = s.pair ∧ (queueData s p l).nv = s.nv ∧ (queueData s p l).dram = s.dram ∧
    (queueData s p l).pending = s.pending ∧ (queueData s p l).out = s.out := by unfold queueData; split <;> simp

@[simp] theorem nextFree_keeps (s : State) :
    (nextFree s).regs = s.regs ∧ (nextFree s).cmds = s.cmds ∧ (nextFree s).evs = s.evs ∧ (nextFree s).spill = s.spill ∧
    (nextFree s).log = s.log ∧ (nextFree s).keys = s.keys ∧ (nextFree s).ctr = s.ctr ∧ (nextFree s).capo = s.capo ∧ (nextFree s).cap = s.cap ∧
    (nextFree s).rep = s.rep ∧ (nextFree s).time = s.time ∧ (nextFree s).link = s.link ∧ (nextFree s).wire = s.wire ∧ (nextFree s).lanes = s.lanes ∧
    (nextFree s).tl = s.tl ∧ (nextFree s).lamps = s.lamps ∧ (nextFree s).fret = s.fret ∧ (nextFree s).th = s.th ∧
    (nextFree s).trace = s.trace ∧ (nextFree s).send = s.send ∧ (nextFree s).img = s.img ∧ (nextFree s).cal = s.cal ∧
    (nextFree s).loops = s.loops ∧ (nextFree s).bed = s.bed ∧ (nextFree s).pair = s.pair ∧ (nextFree s).nv = s.nv ∧
    (nextFree s).dram = s.dram ∧ (nextFree s).out = s.out ∧ (nextFree s).pending = s.pending := by unfold nextFree; simp

@[simp] theorem setMbox_keeps (s : State) (n : Nat) (m : Mailbox) :
    (setMbox s n m).sys = s.sys ∧ (setMbox s n m).cmds = s.cmds ∧ (setMbox s n m).evs = s.evs ∧ (setMbox s n m).spill = s.spill ∧
    (setMbox s n m).log = s.log ∧ (setMbox s n m).keys = s.keys ∧ (setMbox s n m).ctr = s.ctr ∧ (setMbox s n m).capo = s.capo ∧
    (setMbox s n m).cap = s.cap ∧ (setMbox s n m).rep = s.rep ∧ (setMbox s n m).time = s.time ∧ (setMbox s n m).link = s.link ∧ (setMbox s n m).wire = s.wire ∧
    (setMbox s n m).lanes = s.lanes ∧ (setMbox s n m).tl = s.tl ∧ (setMbox s n m).lamps = s.lamps ∧ (setMbox s n m).fret = s.fret ∧
    (setMbox s n m).th = s.th ∧ (setMbox s n m).trace = s.trace ∧ (setMbox s n m).send = s.send ∧ (setMbox s n m).img = s.img ∧
    (setMbox s n m).cal = s.cal ∧ (setMbox s n m).loops = s.loops ∧ (setMbox s n m).bed = s.bed ∧ (setMbox s n m).pair = s.pair ∧
    (setMbox s n m).nv = s.nv ∧ (setMbox s n m).dram = s.dram ∧ (setMbox s n m).out = s.out ∧ (setMbox s n m).pending = s.pending := by unfold setMbox; simp

@[simp] theorem irq_keeps (s : State) (mask : Nat) :
    (irq s mask).sys = s.sys ∧ (irq s mask).cmds = s.cmds ∧ (irq s mask).evs = s.evs ∧ (irq s mask).spill = s.spill ∧
    (irq s mask).log = s.log ∧ (irq s mask).keys = s.keys ∧ (irq s mask).ctr = s.ctr ∧ (irq s mask).capo = s.capo ∧ (irq s mask).cap = s.cap ∧
    (irq s mask).rep = s.rep ∧ (irq s mask).time = s.time ∧ (irq s mask).link = s.link ∧ (irq s mask).wire = s.wire ∧ (irq s mask).lanes = s.lanes ∧
    (irq s mask).tl = s.tl ∧ (irq s mask).lamps = s.lamps ∧ (irq s mask).fret = s.fret ∧ (irq s mask).th = s.th ∧
    (irq s mask).trace = s.trace ∧ (irq s mask).send = s.send ∧ (irq s mask).img = s.img ∧ (irq s mask).cal = s.cal ∧
    (irq s mask).loops = s.loops ∧ (irq s mask).bed = s.bed ∧ (irq s mask).pair = s.pair ∧ (irq s mask).nv = s.nv ∧
    (irq s mask).dram = s.dram ∧ (irq s mask).pending = s.pending := by unfold irq; (try dsimp only); (repeat' split) <;> simp

@[simp] theorem logPush_keeps (s : State) (e : List Word) :
    (logPush s e).sys = s.sys ∧ (logPush s e).regs = s.regs ∧ (logPush s e).cmds = s.cmds ∧ (logPush s e).evs = s.evs ∧
    (logPush s e).spill = s.spill ∧ (logPush s e).keys = s.keys ∧ (logPush s e).ctr = s.ctr ∧ (logPush s e).capo = s.capo ∧
    (logPush s e).cap = s.cap ∧ (logPush s e).rep = s.rep ∧ (logPush s e).time = s.time ∧ (logPush s e).link = s.link ∧ (logPush s e).wire = s.wire ∧
    (logPush s e).lanes = s.lanes ∧ (logPush s e).tl = s.tl ∧ (logPush s e).lamps = s.lamps ∧ (logPush s e).fret = s.fret ∧
    (logPush s e).th = s.th ∧ (logPush s e).trace = s.trace ∧ (logPush s e).send = s.send ∧ (logPush s e).img = s.img ∧
    (logPush s e).cal = s.cal ∧ (logPush s e).loops = s.loops ∧ (logPush s e).bed = s.bed ∧ (logPush s e).pair = s.pair ∧
    (logPush s e).nv = s.nv ∧ (logPush s e).dram = s.dram ∧ (logPush s e).out = s.out ∧ (logPush s e).pending = s.pending := by unfold logPush; simp

@[simp] theorem logCont_keeps (w0 n : Nat) (l : List Byte) (s : State) :
    (logCont w0 n l s).sys = s.sys ∧ (logCont w0 n l s).regs = s.regs ∧ (logCont w0 n l s).cmds = s.cmds ∧ (logCont w0 n l s).evs = s.evs ∧
    (logCont w0 n l s).spill = s.spill ∧ (logCont w0 n l s).keys = s.keys ∧ (logCont w0 n l s).ctr = s.ctr ∧ (logCont w0 n l s).capo = s.capo ∧
    (logCont w0 n l s).cap = s.cap ∧ (logCont w0 n l s).rep = s.rep ∧ (logCont w0 n l s).time = s.time ∧ (logCont w0 n l s).link = s.link ∧ (logCont w0 n l s).wire = s.wire ∧
    (logCont w0 n l s).lanes = s.lanes ∧ (logCont w0 n l s).tl = s.tl ∧ (logCont w0 n l s).lamps = s.lamps ∧ (logCont w0 n l s).fret = s.fret ∧
    (logCont w0 n l s).th = s.th ∧ (logCont w0 n l s).trace = s.trace ∧ (logCont w0 n l s).send = s.send ∧ (logCont w0 n l s).img = s.img ∧
    (logCont w0 n l s).cal = s.cal ∧ (logCont w0 n l s).loops = s.loops ∧ (logCont w0 n l s).bed = s.bed ∧ (logCont w0 n l s).pair = s.pair ∧
    (logCont w0 n l s).nv = s.nv ∧ (logCont w0 n l s).dram = s.dram ∧ (logCont w0 n l s).out = s.out ∧ (logCont w0 n l s).pending = s.pending := by
  induction n generalizing l s with
  | zero => simp [logCont]
  | succ k ih => unfold logCont; split <;> simp [ih]

@[simp] theorem logAdd_keeps (s : State) (w0 : Nat) (args : List Byte) :
    (logAdd s w0 args).sys = s.sys ∧ (logAdd s w0 args).regs = s.regs ∧ (logAdd s w0 args).cmds = s.cmds ∧ (logAdd s w0 args).evs = s.evs ∧
    (logAdd s w0 args).spill = s.spill ∧ (logAdd s w0 args).keys = s.keys ∧ (logAdd s w0 args).ctr = s.ctr ∧ (logAdd s w0 args).capo = s.capo ∧
    (logAdd s w0 args).cap = s.cap ∧ (logAdd s w0 args).rep = s.rep ∧ (logAdd s w0 args).time = s.time ∧ (logAdd s w0 args).link = s.link ∧ (logAdd s w0 args).wire = s.wire ∧
    (logAdd s w0 args).lanes = s.lanes ∧ (logAdd s w0 args).tl = s.tl ∧ (logAdd s w0 args).lamps = s.lamps ∧ (logAdd s w0 args).fret = s.fret ∧
    (logAdd s w0 args).th = s.th ∧ (logAdd s w0 args).trace = s.trace ∧ (logAdd s w0 args).send = s.send ∧ (logAdd s w0 args).img = s.img ∧
    (logAdd s w0 args).cal = s.cal ∧ (logAdd s w0 args).loops = s.loops ∧ (logAdd s w0 args).bed = s.bed ∧ (logAdd s w0 args).pair = s.pair ∧
    (logAdd s w0 args).nv = s.nv ∧ (logAdd s w0 args).dram = s.dram ∧ (logAdd s w0 args).out = s.out ∧ (logAdd s w0 args).pending = s.pending := by unfold logAdd; simp

@[simp] theorem deliver_keeps (s : State) (r : EvRec) :
    (deliver s r).sys = s.sys ∧ (deliver s r).cmds = s.cmds ∧ (deliver s r).spill = s.spill ∧ (deliver s r).keys = s.keys ∧
    (deliver s r).capo = s.capo ∧ (deliver s r).cap = s.cap ∧ (deliver s r).rep = s.rep ∧ (deliver s r).time = s.time ∧
    (deliver s r).link = s.link ∧ (deliver s r).wire = s.wire ∧ (deliver s r).lanes = s.lanes ∧ (deliver s r).tl = s.tl ∧ (deliver s r).lamps = s.lamps ∧
    (deliver s r).fret = s.fret ∧ (deliver s r).th = s.th ∧ (deliver s r).trace = s.trace ∧ (deliver s r).send = s.send ∧
    (deliver s r).img = s.img ∧ (deliver s r).cal = s.cal ∧ (deliver s r).loops = s.loops ∧ (deliver s r).bed = s.bed ∧
    (deliver s r).pair = s.pair ∧ (deliver s r).nv = s.nv ∧ (deliver s r).dram = s.dram ∧ (deliver s r).pending = s.pending := by unfold deliver; (try dsimp only); (repeat' split) <;> simp

@[simp] theorem sendUpstream_keeps (s : State) (r : EvRec) :
    (sendUpstream s r).sys = s.sys ∧ (sendUpstream s r).regs = s.regs ∧ (sendUpstream s r).cmds = s.cmds ∧ (sendUpstream s r).spill = s.spill ∧
    (sendUpstream s r).log = s.log ∧ (sendUpstream s r).keys = s.keys ∧ (sendUpstream s r).capo = s.capo ∧ (sendUpstream s r).cap = s.cap ∧
    (sendUpstream s r).rep = s.rep ∧ (sendUpstream s r).time = s.time ∧ (sendUpstream s r).link = s.link ∧ (sendUpstream s r).lanes = s.lanes ∧
    (sendUpstream s r).tl = s.tl ∧ (sendUpstream s r).lamps = s.lamps ∧ (sendUpstream s r).fret = s.fret ∧ (sendUpstream s r).th = s.th ∧
    (sendUpstream s r).trace = s.trace ∧ (sendUpstream s r).send = s.send ∧ (sendUpstream s r).img = s.img ∧ (sendUpstream s r).cal = s.cal ∧
    (sendUpstream s r).loops = s.loops ∧ (sendUpstream s r).bed = s.bed ∧ (sendUpstream s r).pair = s.pair ∧ (sendUpstream s r).nv = s.nv ∧
    (sendUpstream s r).dram = s.dram ∧ (sendUpstream s r).pending = s.pending := by unfold sendUpstream; (try dsimp only); (repeat' split) <;> simp

@[simp] theorem raiseQuiet_keeps (s : State) (code : Nat) (args : List Byte) :
    (raiseQuiet s code args).sys = s.sys ∧ (raiseQuiet s code args).cmds = s.cmds ∧ (raiseQuiet s code args).spill = s.spill ∧
    (raiseQuiet s code args).keys = s.keys ∧ (raiseQuiet s code args).capo = s.capo ∧ (raiseQuiet s code args).cap = s.cap ∧
    (raiseQuiet s code args).rep = s.rep ∧ (raiseQuiet s code args).time = s.time ∧ (raiseQuiet s code args).link = s.link ∧
    (raiseQuiet s code args).lanes = s.lanes ∧ (raiseQuiet s code args).tl = s.tl ∧ (raiseQuiet s code args).lamps = s.lamps ∧
    (raiseQuiet s code args).fret = s.fret ∧ (raiseQuiet s code args).th = s.th ∧ (raiseQuiet s code args).trace = s.trace ∧
    (raiseQuiet s code args).send = s.send ∧ (raiseQuiet s code args).img = s.img ∧ (raiseQuiet s code args).cal = s.cal ∧
    (raiseQuiet s code args).loops = s.loops ∧ (raiseQuiet s code args).bed = s.bed ∧ (raiseQuiet s code args).pair = s.pair ∧
    (raiseQuiet s code args).nv = s.nv ∧ (raiseQuiet s code args).dram = s.dram ∧ (raiseQuiet s code args).pending = s.pending := by unfold raiseQuiet; (try dsimp only); (repeat' split) <;> simp

@[simp] theorem raise_keeps (s : State) (code : Nat) (args : List Byte) :
    (raise s code args).sys = s.sys ∧ (raise s code args).cmds = s.cmds ∧ (raise s code args).spill = s.spill ∧
    (raise s code args).keys = s.keys ∧ (raise s code args).capo = s.capo ∧ (raise s code args).cap = s.cap ∧ (raise s code args).rep = s.rep ∧
    (raise s code args).time = s.time ∧ (raise s code args).link = s.link ∧ (raise s code args).lanes = s.lanes ∧
    (raise s code args).tl = s.tl ∧ (raise s code args).lamps = s.lamps ∧ (raise s code args).fret = s.fret ∧ (raise s code args).th = s.th ∧
    (raise s code args).trace = s.trace ∧ (raise s code args).send = s.send ∧ (raise s code args).img = s.img ∧
    (raise s code args).cal = s.cal ∧ (raise s code args).loops = s.loops ∧ (raise s code args).bed = s.bed ∧
    (raise s code args).pair = s.pair ∧ (raise s code args).nv = s.nv ∧ (raise s code args).dram = s.dram ∧
    (raise s code args).pending = s.pending := by unfold raise; simp

@[simp] theorem dropTag_keeps (s : State) (tag : Nat) :
    (dropTag s tag).sys = s.sys ∧ (dropTag s tag).regs = s.regs ∧ (dropTag s tag).evs = s.evs ∧ (dropTag s tag).spill = s.spill ∧
    (dropTag s tag).log = s.log ∧ (dropTag s tag).keys = s.keys ∧ (dropTag s tag).ctr = s.ctr ∧ (dropTag s tag).capo = s.capo ∧
    (dropTag s tag).cap = s.cap ∧ (dropTag s tag).rep = s.rep ∧ (dropTag s tag).time = s.time ∧ (dropTag s tag).link = s.link ∧ (dropTag s tag).wire = s.wire ∧
    (dropTag s tag).lanes = s.lanes ∧ (dropTag s tag).tl = s.tl ∧ (dropTag s tag).lamps = s.lamps ∧ (dropTag s tag).fret = s.fret ∧
    (dropTag s tag).th = s.th ∧ (dropTag s tag).trace = s.trace ∧ (dropTag s tag).send = s.send ∧ (dropTag s tag).img = s.img ∧
    (dropTag s tag).cal = s.cal ∧ (dropTag s tag).loops = s.loops ∧ (dropTag s tag).bed = s.bed ∧ (dropTag s tag).pair = s.pair ∧
    (dropTag s tag).nv = s.nv ∧ (dropTag s tag).dram = s.dram ∧ (dropTag s tag).out = s.out ∧ (dropTag s tag).pending = s.pending := by unfold dropTag; simp

@[simp] theorem cmdEnds_keeps (s : State) (tag op code : Nat) :
    (cmdEnds s tag op code).sys = s.sys ∧ (cmdEnds s tag op code).spill = s.spill ∧ (cmdEnds s tag op code).keys = s.keys ∧
    (cmdEnds s tag op code).capo = s.capo ∧ (cmdEnds s tag op code).cap = s.cap ∧ (cmdEnds s tag op code).rep = s.rep ∧
    (cmdEnds s tag op code).time = s.time ∧ (cmdEnds s tag op code).link = s.link ∧ (cmdEnds s tag op code).lanes = s.lanes ∧
    (cmdEnds s tag op code).tl = s.tl ∧ (cmdEnds s tag op code).lamps = s.lamps ∧ (cmdEnds s tag op code).fret = s.fret ∧
    (cmdEnds s tag op code).th = s.th ∧ (cmdEnds s tag op code).trace = s.trace ∧ (cmdEnds s tag op code).send = s.send ∧
    (cmdEnds s tag op code).img = s.img ∧ (cmdEnds s tag op code).cal = s.cal ∧ (cmdEnds s tag op code).loops = s.loops ∧
    (cmdEnds s tag op code).bed = s.bed ∧ (cmdEnds s tag op code).pair = s.pair ∧ (cmdEnds s tag op code).nv = s.nv ∧
    (cmdEnds s tag op code).dram = s.dram ∧ (cmdEnds s tag op code).pending = s.pending := by unfold cmdEnds; (try dsimp only); (repeat' split) <;> simp

@[simp] theorem cmdDone_keeps (s : State) (tag op : Nat) (st : Status) :
    (cmdDone s tag op st).sys = s.sys ∧ (cmdDone s tag op st).spill = s.spill ∧ (cmdDone s tag op st).keys = s.keys ∧
    (cmdDone s tag op st).capo = s.capo ∧ (cmdDone s tag op st).cap = s.cap ∧ (cmdDone s tag op st).rep = s.rep ∧
    (cmdDone s tag op st).time = s.time ∧ (cmdDone s tag op st).link = s.link ∧ (cmdDone s tag op st).lanes = s.lanes ∧
    (cmdDone s tag op st).tl = s.tl ∧ (cmdDone s tag op st).lamps = s.lamps ∧ (cmdDone s tag op st).fret = s.fret ∧
    (cmdDone s tag op st).th = s.th ∧ (cmdDone s tag op st).trace = s.trace ∧ (cmdDone s tag op st).send = s.send ∧
    (cmdDone s tag op st).img = s.img ∧ (cmdDone s tag op st).cal = s.cal ∧ (cmdDone s tag op st).loops = s.loops ∧
    (cmdDone s tag op st).bed = s.bed ∧ (cmdDone s tag op st).pair = s.pair ∧ (cmdDone s tag op st).nv = s.nv ∧
    (cmdDone s tag op st).dram = s.dram ∧ (cmdDone s tag op st).pending = s.pending := by unfold cmdDone; simp

@[simp] theorem setImgSlot_keeps (s : State) (k : Nat) (x : ImgSlot) :
    (setImgSlot s k x).sys = s.sys ∧ (setImgSlot s k x).regs = s.regs ∧ (setImgSlot s k x).cmds = s.cmds ∧ (setImgSlot s k x).evs = s.evs ∧
    (setImgSlot s k x).spill = s.spill ∧ (setImgSlot s k x).log = s.log ∧ (setImgSlot s k x).keys = s.keys ∧ (setImgSlot s k x).ctr = s.ctr ∧
    (setImgSlot s k x).capo = s.capo ∧ (setImgSlot s k x).cap = s.cap ∧ (setImgSlot s k x).rep = s.rep ∧ (setImgSlot s k x).time = s.time ∧
    (setImgSlot s k x).link = s.link ∧ (setImgSlot s k x).wire = s.wire ∧ (setImgSlot s k x).lanes = s.lanes ∧ (setImgSlot s k x).tl = s.tl ∧ (setImgSlot s k x).lamps = s.lamps ∧
    (setImgSlot s k x).fret = s.fret ∧ (setImgSlot s k x).th = s.th ∧ (setImgSlot s k x).trace = s.trace ∧ (setImgSlot s k x).send = s.send ∧
    (setImgSlot s k x).cal = s.cal ∧ (setImgSlot s k x).loops = s.loops ∧ (setImgSlot s k x).bed = s.bed ∧ (setImgSlot s k x).pair = s.pair ∧
    (setImgSlot s k x).nv = s.nv ∧ (setImgSlot s k x).dram = s.dram ∧ (setImgSlot s k x).out = s.out ∧ (setImgSlot s k x).pending = s.pending := by unfold setImgSlot; (try dsimp only); (repeat' split) <;> simp

@[simp] theorem wrBytes_keeps (s : State) (a : Nat) (l : List Byte) :
    (wrBytes s a l).sys = s.sys ∧ (wrBytes s a l).regs = s.regs ∧ (wrBytes s a l).cmds = s.cmds ∧ (wrBytes s a l).evs = s.evs ∧
    (wrBytes s a l).spill = s.spill ∧ (wrBytes s a l).log = s.log ∧ (wrBytes s a l).keys = s.keys ∧ (wrBytes s a l).ctr = s.ctr ∧
    (wrBytes s a l).capo = s.capo ∧ (wrBytes s a l).rep = s.rep ∧ (wrBytes s a l).time = s.time ∧ (wrBytes s a l).link = s.link ∧ (wrBytes s a l).wire = s.wire ∧
    (wrBytes s a l).lanes = s.lanes ∧ (wrBytes s a l).tl = s.tl ∧ (wrBytes s a l).lamps = s.lamps ∧ (wrBytes s a l).fret = s.fret ∧
    (wrBytes s a l).th = s.th ∧ (wrBytes s a l).trace = s.trace ∧ (wrBytes s a l).send = s.send ∧ (wrBytes s a l).img = s.img ∧
    (wrBytes s a l).cal = s.cal ∧ (wrBytes s a l).loops = s.loops ∧ (wrBytes s a l).bed = s.bed ∧ (wrBytes s a l).pair = s.pair ∧
    (wrBytes s a l).nv = s.nv ∧ (wrBytes s a l).out = s.out ∧ (wrBytes s a l).pending = s.pending := by unfold wrBytes; simp

@[simp] theorem setState_keeps (s : State) (new : DevState) (cause : Nat) :
    (setState s new cause).cmds = s.cmds ∧ (setState s new cause).spill = s.spill ∧ (setState s new cause).keys = s.keys ∧
    (setState s new cause).capo = s.capo ∧ (setState s new cause).cap = s.cap ∧ (setState s new cause).rep = s.rep ∧
    (setState s new cause).link = s.link ∧ (setState s new cause).lanes = s.lanes ∧ (setState s new cause).tl = s.tl ∧
    (setState s new cause).lamps = s.lamps ∧ (setState s new cause).fret = s.fret ∧ (setState s new cause).th = s.th ∧
    (setState s new cause).trace = s.trace ∧ (setState s new cause).send = s.send ∧ (setState s new cause).img = s.img ∧
    (setState s new cause).cal = s.cal ∧ (setState s new cause).bed = s.bed ∧ (setState s new cause).pair = s.pair ∧
    (setState s new cause).nv = s.nv ∧ (setState s new cause).dram = s.dram ∧ (setState s new cause).pending = s.pending := by unfold setState; (try dsimp only); (repeat' split) <;> simp

@[simp] theorem capPut_keeps (s : State) (off : Nat) (l : List Byte) :
    (capPut s off l).sys = s.sys ∧ (capPut s off l).regs = s.regs ∧ (capPut s off l).cmds = s.cmds ∧ (capPut s off l).evs = s.evs ∧
    (capPut s off l).spill = s.spill ∧ (capPut s off l).log = s.log ∧ (capPut s off l).keys = s.keys ∧ (capPut s off l).ctr = s.ctr ∧
    (capPut s off l).capo = s.capo ∧ (capPut s off l).rep = s.rep ∧ (capPut s off l).time = s.time ∧ (capPut s off l).link = s.link ∧ (capPut s off l).wire = s.wire ∧
    (capPut s off l).lanes = s.lanes ∧ (capPut s off l).tl = s.tl ∧ (capPut s off l).lamps = s.lamps ∧ (capPut s off l).fret = s.fret ∧
    (capPut s off l).th = s.th ∧ (capPut s off l).trace = s.trace ∧ (capPut s off l).send = s.send ∧ (capPut s off l).img = s.img ∧
    (capPut s off l).cal = s.cal ∧ (capPut s off l).loops = s.loops ∧ (capPut s off l).bed = s.bed ∧ (capPut s off l).pair = s.pair ∧
    (capPut s off l).nv = s.nv ∧ (capPut s off l).out = s.out ∧ (capPut s off l).pending = s.pending := by
  induction l generalizing s off with
  | nil => simp [capPut]
  | cons b r ih => unfold capPut; simp only [ih]; split <;> simp

@[simp] theorem capAppend_keeps (s : State) (l : List Byte) :
    (capAppend s l).sys = s.sys ∧ (capAppend s l).regs = s.regs ∧ (capAppend s l).cmds = s.cmds ∧ (capAppend s l).evs = s.evs ∧
    (capAppend s l).spill = s.spill ∧ (capAppend s l).log = s.log ∧ (capAppend s l).keys = s.keys ∧ (capAppend s l).ctr = s.ctr ∧
    (capAppend s l).capo = s.capo ∧ (capAppend s l).rep = s.rep ∧ (capAppend s l).time = s.time ∧ (capAppend s l).link = s.link ∧ (capAppend s l).wire = s.wire ∧
    (capAppend s l).lanes = s.lanes ∧ (capAppend s l).tl = s.tl ∧ (capAppend s l).lamps = s.lamps ∧ (capAppend s l).fret = s.fret ∧
    (capAppend s l).th = s.th ∧ (capAppend s l).trace = s.trace ∧ (capAppend s l).send = s.send ∧ (capAppend s l).img = s.img ∧
    (capAppend s l).cal = s.cal ∧ (capAppend s l).loops = s.loops ∧ (capAppend s l).bed = s.bed ∧ (capAppend s l).pair = s.pair ∧
    (capAppend s l).nv = s.nv ∧ (capAppend s l).out = s.out ∧ (capAppend s l).pending = s.pending := by unfold capAppend; simp

@[simp] theorem capRec_keeps (s : State) (type inst flags : Nat) (body : List Byte) :
    (capRec s type inst flags body).sys = s.sys ∧ (capRec s type inst flags body).regs = s.regs ∧
    (capRec s type inst flags body).cmds = s.cmds ∧ (capRec s type inst flags body).evs = s.evs ∧
    (capRec s type inst flags body).spill = s.spill ∧ (capRec s type inst flags body).log = s.log ∧
    (capRec s type inst flags body).keys = s.keys ∧ (capRec s type inst flags body).ctr = s.ctr ∧
    (capRec s type inst flags body).capo = s.capo ∧ (capRec s type inst flags body).rep = s.rep ∧
    (capRec s type inst flags body).time = s.time ∧ (capRec s type inst flags body).link = s.link ∧ (capRec s type inst flags body).wire = s.wire ∧
    (capRec s type inst flags body).lanes = s.lanes ∧ (capRec s type inst flags body).tl = s.tl ∧
    (capRec s type inst flags body).lamps = s.lamps ∧ (capRec s type inst flags body).fret = s.fret ∧
    (capRec s type inst flags body).th = s.th ∧ (capRec s type inst flags body).trace = s.trace ∧
    (capRec s type inst flags body).send = s.send ∧ (capRec s type inst flags body).img = s.img ∧ (capRec s type inst flags body).cal = s.cal ∧
    (capRec s type inst flags body).loops = s.loops ∧ (capRec s type inst flags body).bed = s.bed ∧
    (capRec s type inst flags body).pair = s.pair ∧ (capRec s type inst flags body).nv = s.nv ∧ (capRec s type inst flags body).out = s.out ∧
    (capRec s type inst flags body).pending = s.pending := by unfold capRec; (try dsimp only); (repeat' split) <;> simp

@[simp] theorem capSignature_keeps (s : State) (kind inst index crc : Nat) :
    (capSignature s kind inst index crc).sys = s.sys ∧ (capSignature s kind inst index crc).regs = s.regs ∧
    (capSignature s kind inst index crc).cmds = s.cmds ∧ (capSignature s kind inst index crc).evs = s.evs ∧
    (capSignature s kind inst index crc).spill = s.spill ∧ (capSignature s kind inst index crc).log = s.log ∧
    (capSignature s kind inst index crc).keys = s.keys ∧ (capSignature s kind inst index crc).ctr = s.ctr ∧
    (capSignature s kind inst index crc).capo = s.capo ∧ (capSignature s kind inst index crc).rep = s.rep ∧
    (capSignature s kind inst index crc).time = s.time ∧ (capSignature s kind inst index crc).link = s.link ∧ (capSignature s kind inst index crc).wire = s.wire ∧
    (capSignature s kind inst index crc).lanes = s.lanes ∧ (capSignature s kind inst index crc).tl = s.tl ∧
    (capSignature s kind inst index crc).lamps = s.lamps ∧ (capSignature s kind inst index crc).fret = s.fret ∧
    (capSignature s kind inst index crc).th = s.th ∧ (capSignature s kind inst index crc).trace = s.trace ∧
    (capSignature s kind inst index crc).send = s.send ∧ (capSignature s kind inst index crc).img = s.img ∧
    (capSignature s kind inst index crc).cal = s.cal ∧ (capSignature s kind inst index crc).loops = s.loops ∧
    (capSignature s kind inst index crc).bed = s.bed ∧ (capSignature s kind inst index crc).pair = s.pair ∧
    (capSignature s kind inst index crc).nv = s.nv ∧ (capSignature s kind inst index crc).out = s.out ∧
    (capSignature s kind inst index crc).pending = s.pending := by unfold capSignature; (try dsimp only); (repeat' split) <;> simp

@[simp] theorem capCell_keeps (s : State) (port stamp : Nat) (cell : List Byte) :
    (capCell s port stamp cell).sys = s.sys ∧ (capCell s port stamp cell).regs = s.regs ∧ (capCell s port stamp cell).cmds = s.cmds ∧
    (capCell s port stamp cell).evs = s.evs ∧ (capCell s port stamp cell).spill = s.spill ∧ (capCell s port stamp cell).log = s.log ∧
    (capCell s port stamp cell).keys = s.keys ∧ (capCell s port stamp cell).ctr = s.ctr ∧ (capCell s port stamp cell).capo = s.capo ∧
    (capCell s port stamp cell).rep = s.rep ∧ (capCell s port stamp cell).time = s.time ∧ (capCell s port stamp cell).link = s.link ∧ (capCell s port stamp cell).wire = s.wire ∧
    (capCell s port stamp cell).lanes = s.lanes ∧ (capCell s port stamp cell).tl = s.tl ∧ (capCell s port stamp cell).lamps = s.lamps ∧
    (capCell s port stamp cell).fret = s.fret ∧ (capCell s port stamp cell).th = s.th ∧ (capCell s port stamp cell).trace = s.trace ∧
    (capCell s port stamp cell).send = s.send ∧ (capCell s port stamp cell).img = s.img ∧ (capCell s port stamp cell).cal = s.cal ∧
    (capCell s port stamp cell).loops = s.loops ∧ (capCell s port stamp cell).bed = s.bed ∧ (capCell s port stamp cell).pair = s.pair ∧
    (capCell s port stamp cell).nv = s.nv ∧ (capCell s port stamp cell).out = s.out ∧ (capCell s port stamp cell).pending = s.pending := by unfold capCell; (try dsimp only); (repeat' split) <;> simp

@[simp] theorem capHead_keeps (s : State) (h flags : Nat) (body : List Byte) :
    (capHead s h flags body).sys = s.sys ∧ (capHead s h flags body).regs = s.regs ∧ (capHead s h flags body).cmds = s.cmds ∧
    (capHead s h flags body).evs = s.evs ∧ (capHead s h flags body).spill = s.spill ∧ (capHead s h flags body).log = s.log ∧
    (capHead s h flags body).keys = s.keys ∧ (capHead s h flags body).ctr = s.ctr ∧ (capHead s h flags body).capo = s.capo ∧
    (capHead s h flags body).rep = s.rep ∧ (capHead s h flags body).time = s.time ∧ (capHead s h flags body).link = s.link ∧ (capHead s h flags body).wire = s.wire ∧
    (capHead s h flags body).lanes = s.lanes ∧ (capHead s h flags body).tl = s.tl ∧ (capHead s h flags body).lamps = s.lamps ∧
    (capHead s h flags body).fret = s.fret ∧ (capHead s h flags body).th = s.th ∧ (capHead s h flags body).trace = s.trace ∧
    (capHead s h flags body).send = s.send ∧ (capHead s h flags body).img = s.img ∧ (capHead s h flags body).cal = s.cal ∧
    (capHead s h flags body).loops = s.loops ∧ (capHead s h flags body).bed = s.bed ∧ (capHead s h flags body).pair = s.pair ∧
    (capHead s h flags body).nv = s.nv ∧ (capHead s h flags body).out = s.out ∧ (capHead s h flags body).pending = s.pending := by unfold capHead; (try dsimp only); (repeat' split) <;> simp

@[simp] theorem capMark_keeps (s : State) (window : Nat) :
    (capMark s window).sys = s.sys ∧ (capMark s window).regs = s.regs ∧ (capMark s window).cmds = s.cmds ∧ (capMark s window).evs = s.evs ∧
    (capMark s window).spill = s.spill ∧ (capMark s window).log = s.log ∧ (capMark s window).keys = s.keys ∧ (capMark s window).ctr = s.ctr ∧
    (capMark s window).capo = s.capo ∧ (capMark s window).rep = s.rep ∧ (capMark s window).time = s.time ∧ (capMark s window).link = s.link ∧ (capMark s window).wire = s.wire ∧
    (capMark s window).lanes = s.lanes ∧ (capMark s window).tl = s.tl ∧ (capMark s window).lamps = s.lamps ∧ (capMark s window).fret = s.fret ∧
    (capMark s window).th = s.th ∧ (capMark s window).trace = s.trace ∧ (capMark s window).send = s.send ∧ (capMark s window).img = s.img ∧
    (capMark s window).cal = s.cal ∧ (capMark s window).loops = s.loops ∧ (capMark s window).bed = s.bed ∧ (capMark s window).pair = s.pair ∧
    (capMark s window).nv = s.nv ∧ (capMark s window).out = s.out ∧ (capMark s window).pending = s.pending := by unfold capMark; (try dsimp only); (repeat' split) <;> simp

@[simp] theorem pairSend_keeps (s : State) (type flags arg : Nat) (body : List Byte) :
    (pairSend s type flags arg body).sys = s.sys ∧ (pairSend s type flags arg body).regs = s.regs ∧
    (pairSend s type flags arg body).cmds = s.cmds ∧ (pairSend s type flags arg body).evs = s.evs ∧
    (pairSend s type flags arg body).spill = s.spill ∧ (pairSend s type flags arg body).log = s.log ∧
    (pairSend s type flags arg body).keys = s.keys ∧ (pairSend s type flags arg body).ctr = s.ctr ∧
    (pairSend s type flags arg body).capo = s.capo ∧ (pairSend s type flags arg body).cap = s.cap ∧
    (pairSend s type flags arg body).rep = s.rep ∧ (pairSend s type flags arg body).time = s.time ∧
    (pairSend s type flags arg body).link = s.link ∧ (pairSend s type flags arg body).lanes = s.lanes ∧
    (pairSend s type flags arg body).tl = s.tl ∧ (pairSend s type flags arg body).lamps = s.lamps ∧
    (pairSend s type flags arg body).fret = s.fret ∧ (pairSend s type flags arg body).th = s.th ∧
    (pairSend s type flags arg body).trace = s.trace ∧ (pairSend s type flags arg body).send = s.send ∧
    (pairSend s type flags arg body).img = s.img ∧ (pairSend s type flags arg body).cal = s.cal ∧
    (pairSend s type flags arg body).loops = s.loops ∧ (pairSend s type flags arg body).bed = s.bed ∧
    (pairSend s type flags arg body).nv = s.nv ∧ (pairSend s type flags arg body).dram = s.dram ∧
    (pairSend s type flags arg body).pending = s.pending := by unfold pairSend; dsimp only; split <;> simp

@[simp] theorem pairMirror_keeps (s : State) (arg : Nat) (words : List Word) :
    (pairMirror s arg words).sys = s.sys ∧ (pairMirror s arg words).regs = s.regs ∧ (pairMirror s arg words).cmds = s.cmds ∧
    (pairMirror s arg words).evs = s.evs ∧ (pairMirror s arg words).spill = s.spill ∧ (pairMirror s arg words).log = s.log ∧
    (pairMirror s arg words).keys = s.keys ∧ (pairMirror s arg words).capo = s.capo ∧ (pairMirror s arg words).cap = s.cap ∧
    (pairMirror s arg words).rep = s.rep ∧ (pairMirror s arg words).time = s.time ∧ (pairMirror s arg words).link = s.link ∧
    (pairMirror s arg words).lanes = s.lanes ∧ (pairMirror s arg words).tl = s.tl ∧ (pairMirror s arg words).lamps = s.lamps ∧
    (pairMirror s arg words).fret = s.fret ∧ (pairMirror s arg words).th = s.th ∧ (pairMirror s arg words).trace = s.trace ∧
    (pairMirror s arg words).send = s.send ∧ (pairMirror s arg words).img = s.img ∧ (pairMirror s arg words).cal = s.cal ∧
    (pairMirror s arg words).loops = s.loops ∧ (pairMirror s arg words).bed = s.bed ∧ (pairMirror s arg words).nv = s.nv ∧
    (pairMirror s arg words).dram = s.dram ∧ (pairMirror s arg words).pending = s.pending := by unfold pairMirror; (try dsimp only); (repeat' split) <;> simp

@[simp] theorem pairProgress_keeps (s : State) (h next process : Nat) :
    (pairProgress s h next process).sys = s.sys ∧ (pairProgress s h next process).regs = s.regs ∧
    (pairProgress s h next process).cmds = s.cmds ∧ (pairProgress s h next process).evs = s.evs ∧
    (pairProgress s h next process).spill = s.spill ∧ (pairProgress s h next process).log = s.log ∧
    (pairProgress s h next process).keys = s.keys ∧ (pairProgress s h next process).capo = s.capo ∧
    (pairProgress s h next process).cap = s.cap ∧ (pairProgress s h next process).rep = s.rep ∧ (pairProgress s h next process).time = s.time ∧
    (pairProgress s h next process).link = s.link ∧ (pairProgress s h next process).lanes = s.lanes ∧
    (pairProgress s h next process).tl = s.tl ∧ (pairProgress s h next process).lamps = s.lamps ∧
    (pairProgress s h next process).fret = s.fret ∧ (pairProgress s h next process).th = s.th ∧
    (pairProgress s h next process).trace = s.trace ∧ (pairProgress s h next process).send = s.send ∧
    (pairProgress s h next process).img = s.img ∧ (pairProgress s h next process).cal = s.cal ∧
    (pairProgress s h next process).loops = s.loops ∧ (pairProgress s h next process).bed = s.bed ∧ (pairProgress s h next process).nv = s.nv ∧
    (pairProgress s h next process).dram = s.dram ∧ (pairProgress s h next process).pending = s.pending := by unfold pairProgress; (try dsimp only); (repeat' split) <;> simp

@[simp] theorem pairHello_keeps (s : State) (up : Bool) :
    (pairHello s up).sys = s.sys ∧ (pairHello s up).regs = s.regs ∧ (pairHello s up).cmds = s.cmds ∧ (pairHello s up).evs = s.evs ∧
    (pairHello s up).spill = s.spill ∧ (pairHello s up).log = s.log ∧ (pairHello s up).keys = s.keys ∧ (pairHello s up).ctr = s.ctr ∧
    (pairHello s up).capo = s.capo ∧ (pairHello s up).cap = s.cap ∧ (pairHello s up).rep = s.rep ∧ (pairHello s up).time = s.time ∧
    (pairHello s up).link = s.link ∧ (pairHello s up).lanes = s.lanes ∧ (pairHello s up).tl = s.tl ∧ (pairHello s up).lamps = s.lamps ∧
    (pairHello s up).fret = s.fret ∧ (pairHello s up).th = s.th ∧ (pairHello s up).trace = s.trace ∧ (pairHello s up).send = s.send ∧
    (pairHello s up).img = s.img ∧ (pairHello s up).cal = s.cal ∧ (pairHello s up).loops = s.loops ∧ (pairHello s up).bed = s.bed ∧
    (pairHello s up).nv = s.nv ∧ (pairHello s up).dram = s.dram ∧ (pairHello s up).pending = s.pending := by unfold pairHello; (try dsimp only); (repeat' split) <;> simp

@[simp] theorem pairFlags_keeps (s : State) :
    (pairFlags s).sys = s.sys ∧ (pairFlags s).regs = s.regs ∧ (pairFlags s).cmds = s.cmds ∧ (pairFlags s).evs = s.evs ∧
    (pairFlags s).spill = s.spill ∧ (pairFlags s).log = s.log ∧ (pairFlags s).keys = s.keys ∧ (pairFlags s).ctr = s.ctr ∧
    (pairFlags s).capo = s.capo ∧ (pairFlags s).cap = s.cap ∧ (pairFlags s).rep = s.rep ∧ (pairFlags s).time = s.time ∧
    (pairFlags s).link = s.link ∧ (pairFlags s).lanes = s.lanes ∧ (pairFlags s).tl = s.tl ∧ (pairFlags s).lamps = s.lamps ∧
    (pairFlags s).fret = s.fret ∧ (pairFlags s).th = s.th ∧ (pairFlags s).trace = s.trace ∧ (pairFlags s).send = s.send ∧
    (pairFlags s).img = s.img ∧ (pairFlags s).cal = s.cal ∧ (pairFlags s).loops = s.loops ∧ (pairFlags s).bed = s.bed ∧
    (pairFlags s).nv = s.nv ∧ (pairFlags s).dram = s.dram ∧ (pairFlags s).pending = s.pending := by unfold pairFlags; (try dsimp only); (repeat' split) <;> simp

@[simp] theorem pairQuiet_keeps (s : State) :
    (pairQuiet s).sys = s.sys ∧ (pairQuiet s).regs = s.regs ∧ (pairQuiet s).cmds = s.cmds ∧ (pairQuiet s).evs = s.evs ∧
    (pairQuiet s).spill = s.spill ∧ (pairQuiet s).log = s.log ∧ (pairQuiet s).keys = s.keys ∧ (pairQuiet s).ctr = s.ctr ∧
    (pairQuiet s).capo = s.capo ∧ (pairQuiet s).cap = s.cap ∧ (pairQuiet s).rep = s.rep ∧ (pairQuiet s).time = s.time ∧
    (pairQuiet s).link = s.link ∧ (pairQuiet s).wire = s.wire ∧ (pairQuiet s).lanes = s.lanes ∧ (pairQuiet s).tl = s.tl ∧ (pairQuiet s).lamps = s.lamps ∧
    (pairQuiet s).fret = s.fret ∧ (pairQuiet s).th = s.th ∧ (pairQuiet s).trace = s.trace ∧ (pairQuiet s).send = s.send ∧
    (pairQuiet s).img = s.img ∧ (pairQuiet s).cal = s.cal ∧ (pairQuiet s).loops = s.loops ∧ (pairQuiet s).bed = s.bed ∧
    (pairQuiet s).nv = s.nv ∧ (pairQuiet s).dram = s.dram ∧ (pairQuiet s).pending = s.pending := by unfold pairQuiet; (try dsimp only); (repeat' split) <;> simp

@[simp] theorem queueResp_keeps (s : State) (c : Cmd) (ends hw : Bool) (words : List Word) :
    (queueResp s c ends hw words).sys = s.sys ∧ (queueResp s c ends hw words).regs = s.regs ∧ (queueResp s c ends hw words).evs = s.evs ∧
    (queueResp s c ends hw words).spill = s.spill ∧ (queueResp s c ends hw words).log = s.log ∧ (queueResp s c ends hw words).keys = s.keys ∧
    (queueResp s c ends hw words).ctr = s.ctr ∧ (queueResp s c ends hw words).capo = s.capo ∧ (queueResp s c ends hw words).cap = s.cap ∧
    (queueResp s c ends hw words).rep = s.rep ∧ (queueResp s c ends hw words).time = s.time ∧ (queueResp s c ends hw words).link = s.link ∧ (queueResp s c ends hw words).wire = s.wire ∧
    (queueResp s c ends hw words).lanes = s.lanes ∧ (queueResp s c ends hw words).tl = s.tl ∧ (queueResp s c ends hw words).lamps = s.lamps ∧
    (queueResp s c ends hw words).fret = s.fret ∧ (queueResp s c ends hw words).th = s.th ∧ (queueResp s c ends hw words).trace = s.trace ∧
    (queueResp s c ends hw words).send = s.send ∧ (queueResp s c ends hw words).img = s.img ∧ (queueResp s c ends hw words).cal = s.cal ∧
    (queueResp s c ends hw words).loops = s.loops ∧ (queueResp s c ends hw words).bed = s.bed ∧ (queueResp s c ends hw words).pair = s.pair ∧
    (queueResp s c ends hw words).nv = s.nv ∧ (queueResp s c ends hw words).dram = s.dram ∧ (queueResp s c ends hw words).out = s.out ∧
    (queueResp s c ends hw words).pending = s.pending := by unfold queueResp; simp

@[simp] theorem answer_keeps (s : State) (op : Nat) (c : Cmd) (r : Reply) (ends : Bool) :
    (answer s op c r ends).sys = s.sys ∧ (answer s op c r ends).regs = s.regs ∧ (answer s op c r ends).evs = s.evs ∧
    (answer s op c r ends).spill = s.spill ∧ (answer s op c r ends).keys = s.keys ∧ (answer s op c r ends).capo = s.capo ∧
    (answer s op c r ends).cap = s.cap ∧ (answer s op c r ends).rep = s.rep ∧ (answer s op c r ends).time = s.time ∧
    (answer s op c r ends).link = s.link ∧ (answer s op c r ends).wire = s.wire ∧ (answer s op c r ends).lanes = s.lanes ∧ (answer s op c r ends).tl = s.tl ∧
    (answer s op c r ends).lamps = s.lamps ∧ (answer s op c r ends).fret = s.fret ∧ (answer s op c r ends).th = s.th ∧
    (answer s op c r ends).trace = s.trace ∧ (answer s op c r ends).send = s.send ∧ (answer s op c r ends).img = s.img ∧
    (answer s op c r ends).cal = s.cal ∧ (answer s op c r ends).loops = s.loops ∧ (answer s op c r ends).bed = s.bed ∧
    (answer s op c r ends).pair = s.pair ∧ (answer s op c r ends).nv = s.nv ∧ (answer s op c r ends).dram = s.dram ∧
    (answer s op c r ends).out = s.out ∧ (answer s op c r ends).pending = s.pending := by unfold answer; (try dsimp only); (repeat' split) <;> simp

@[simp] theorem takeTag_keeps (s : State) (op : Nat) (c : Cmd) :
    (takeTag s op c).sys = s.sys ∧ (takeTag s op c).regs = s.regs ∧ (takeTag s op c).evs = s.evs ∧ (takeTag s op c).spill = s.spill ∧
    (takeTag s op c).log = s.log ∧ (takeTag s op c).keys = s.keys ∧ (takeTag s op c).ctr = s.ctr ∧ (takeTag s op c).capo = s.capo ∧
    (takeTag s op c).cap = s.cap ∧ (takeTag s op c).rep = s.rep ∧ (takeTag s op c).time = s.time ∧ (takeTag s op c).link = s.link ∧ (takeTag s op c).wire = s.wire ∧
    (takeTag s op c).lanes = s.lanes ∧ (takeTag s op c).tl = s.tl ∧ (takeTag s op c).lamps = s.lamps ∧ (takeTag s op c).fret = s.fret ∧
    (takeTag s op c).th = s.th ∧ (takeTag s op c).trace = s.trace ∧ (takeTag s op c).send = s.send ∧ (takeTag s op c).img = s.img ∧
    (takeTag s op c).cal = s.cal ∧ (takeTag s op c).loops = s.loops ∧ (takeTag s op c).bed = s.bed ∧ (takeTag s op c).pair = s.pair ∧
    (takeTag s op c).nv = s.nv ∧ (takeTag s op c).dram = s.dram ∧ (takeTag s op c).out = s.out ∧ (takeTag s op c).pending = s.pending := by unfold takeTag; simp

@[simp] theorem hwNotReady_keeps (s : State) (c : Cmd) :
    (hwNotReady s c).sys = s.sys ∧ (hwNotReady s c).regs = s.regs ∧ (hwNotReady s c).evs = s.evs ∧ (hwNotReady s c).spill = s.spill ∧
    (hwNotReady s c).log = s.log ∧ (hwNotReady s c).keys = s.keys ∧ (hwNotReady s c).capo = s.capo ∧ (hwNotReady s c).cap = s.cap ∧
    (hwNotReady s c).rep = s.rep ∧ (hwNotReady s c).time = s.time ∧ (hwNotReady s c).link = s.link ∧ (hwNotReady s c).wire = s.wire ∧ (hwNotReady s c).lanes = s.lanes ∧
    (hwNotReady s c).tl = s.tl ∧ (hwNotReady s c).lamps = s.lamps ∧ (hwNotReady s c).fret = s.fret ∧ (hwNotReady s c).th = s.th ∧
    (hwNotReady s c).trace = s.trace ∧ (hwNotReady s c).send = s.send ∧ (hwNotReady s c).img = s.img ∧ (hwNotReady s c).cal = s.cal ∧
    (hwNotReady s c).loops = s.loops ∧ (hwNotReady s c).bed = s.bed ∧ (hwNotReady s c).pair = s.pair ∧ (hwNotReady s c).nv = s.nv ∧
    (hwNotReady s c).dram = s.dram ∧ (hwNotReady s c).out = s.out ∧ (hwNotReady s c).pending = s.pending := by unfold hwNotReady; simp

@[simp] theorem mirrorCmd_keeps (s : State) (op : Nat) (c : Cmd) (r : Reply) :
    (mirrorCmd s op c r).sys = s.sys ∧ (mirrorCmd s op c r).regs = s.regs ∧ (mirrorCmd s op c r).cmds = s.cmds ∧
    (mirrorCmd s op c r).evs = s.evs ∧ (mirrorCmd s op c r).spill = s.spill ∧ (mirrorCmd s op c r).log = s.log ∧
    (mirrorCmd s op c r).keys = s.keys ∧ (mirrorCmd s op c r).capo = s.capo ∧ (mirrorCmd s op c r).cap = s.cap ∧
    (mirrorCmd s op c r).rep = s.rep ∧ (mirrorCmd s op c r).time = s.time ∧ (mirrorCmd s op c r).link = s.link ∧
    (mirrorCmd s op c r).lanes = s.lanes ∧ (mirrorCmd s op c r).tl = s.tl ∧ (mirrorCmd s op c r).lamps = s.lamps ∧
    (mirrorCmd s op c r).fret = s.fret ∧ (mirrorCmd s op c r).th = s.th ∧ (mirrorCmd s op c r).trace = s.trace ∧
    (mirrorCmd s op c r).send = s.send ∧ (mirrorCmd s op c r).img = s.img ∧ (mirrorCmd s op c r).cal = s.cal ∧
    (mirrorCmd s op c r).loops = s.loops ∧ (mirrorCmd s op c r).bed = s.bed ∧ (mirrorCmd s op c r).nv = s.nv ∧
    (mirrorCmd s op c r).dram = s.dram ∧ (mirrorCmd s op c r).pending = s.pending := by unfold mirrorCmd; (try dsimp only); (repeat' split) <;> simp

end Sys2Proof.Machine
end

