-- ==== Sys2Proof/Laws/Command.lean ====
section
/-! SUPPORT. What an accepted host command does, said once: its body runs with the tag taken and the capture's COMMAND
record written, and its answer is queued. -/

namespace Sys2Proof.Machine

theorem live_acts {s : State} (h : s.acts) (f : State → State) : live s f = .next (held s (f s)) := by
  unfold live; rw [if_neg h.1, if_neg h.2]

theorem liveAny_acts {s : State} (h : s.acts) (f : State → State) : liveAny s f = .next (held s (f s)) := by
  unfold liveAny; rw [if_neg h.1]

theorem runCmd_accepted {o : OpSpec} {c : Cmd} {s : State} (h : Accepted o c s) (bs : State → Nat) (body : Body)
    (hs : refuses (body c (taken o c s)).2.status = false) :
    runCmd o bs body c s = finish o c (body c (taken o c s)) := by
  obtain ⟨⟨-, h1, h2, h3, h4, h5, h6, h7⟩, h8, h9, h10, h11⟩ := h
  have hr : runCmd o bs body c s = runHere o (bs s) body c s := by
    unfold runCmd
    rw [h1, if_neg (by simp), if_neg (by omega), h3, if_neg (by simp), h4, if_neg (by simp), h5]
    dsimp only
    rw [if_neg (by simp only [Bool.and_eq_true, Bool.not_eq_true', not_and, Bool.not_eq_false]; exact h6), if_neg h7]
  rw [hr]
  unfold runHere finish
  have he : execHere o (bs s) body c (taken o c s) = body c (taken o c s) := by
    have hs : (taken o c s).sys = s.sys := by simp [taken]
    have hp : pairStandby (taken o c s) = pairStandby s := by simp [pairStandby, paired, keyU, keyEff, taken]
    unfold execHere
    rw [hs, hp, h8, h9, h10]
    simp only [Bool.true_eq_false, Bool.false_eq_true, or_self, if_false]
    split
    · next n hn => rw [if_neg (by rcases h11 with a | a <;> rw [hn] at a <;> simp_all)]
    · rfl
  dsimp only
  rw [← taken, he, hs]
  simp only [Bool.false_eq_true, if_false]

/-- A completion statement from what the body answers. -/
theorem runs_of {o : OpSpec} {i : Cmd → Instr} {pre : Cmd → State → Prop} {eff : Cmd → State → State}
    {r : Cmd → State → Reply} (bs : State → Nat) (body : Body)
    (hx : ∀ c s, exec (i c) s = live s (runCmd o bs body c))
    (hr : ∀ c s, pre c s → refuses (r c s).status = false) (hb : ∀ c s, pre c s → body c s = (eff c s, r c s)) :
    runs o i pre eff r := by
  intro c s h hp
  rw [hx, live_acts h.1.1, runCmd_accepted h bs body (by rw [hb c _ hp]; exact hr c _ hp), hb c _ hp]

/-- The same for an event. -/
theorem steps_of {i : Instr} {pre : State → Prop} {eff : State → State} (f : State → State)
    (hx : ∀ s, exec i s = live s f) (hb : ∀ s, pre s → f s = eff s) : steps i pre eff := by
  intro s h hp
  rw [hx, live_acts h, hb s hp]

theorem steps_ofAny {i : Instr} {pre : State → Prop} {eff : State → State} (f : State → State)
    (hx : ∀ s, exec i s = liveAny s f) (hb : ∀ s, pre s → f s = eff s) : steps i pre eff := by
  intro s h hp
  rw [hx, liveAny_acts h, hb s hp]

/-- `u` is `a` but for what a command's body may touch beside its own effect: reports, the capture's ring, the tag. -/
def bodyMade (o : OpSpec) (c : Cmd) (s a u : State) : Prop :=
  u = { a with
    cmds := (taken o c s).cmds, cap := if capRuns s then u.cap else a.cap, dram := if capRuns s then u.dram else a.dram
    log := u.log, evs := u.evs, ctr := u.ctr, out := u.out, wire := u.wire
    regs := { a.regs with eqDropped := u.regs.eqDropped, irqStatus := u.regs.irqStatus } }

@[simp] theorem mirrorCmd_pair {s : State} {op : Nat} {c : Cmd} {r : Reply} (h : pairActive s = false) : mirrorCmd s op c r = s := by
  simp [mirrorCmd, h]

theorem respWords_congr {s t : State} (h1 : s.sys.st = t.sys.st) (h2 : s.spill = t.spill) (tag : Nat) (r : Reply) (b : Bool) :
    respWords s tag r b = respWords t tag r b := by
  simp [respWords, degraded, h1, h2]

theorem answer_cmds (s : State) (op : Nat) (c : Cmd) (r : Reply) (e : Bool) :
    (answer s op c r e).cmds = { s.cmds with responses := s.cmds.responses ++
      [{ path := c.path, origin := c.origin, notify := c.notify, tag := c.tag, ends := e, hw := false
         words := respWords s c.tag r false }] } := by
  unfold answer queueResp
  dsimp only
  split
  · rw [respWords_congr (t := s) (by simp) (by simp)]; simp
  · rw [respWords_congr (t := s) (by simp) (by simp)]; simp

/-- A command's statement from what its body answers in the state it sees. -/
theorem serves_of {o : OpSpec} {i : Cmd → Instr} {pre : Cmd → State → Prop} {r : Cmd → State → Reply}
    {eff : Cmd → State → State} (bs : State → Nat) (body : Body)
    (hx : ∀ c s, exec (i c) s = live s (runCmd o bs body c))
    (hb : ∀ c s, Accepted o c s → pre c s → (body c (taken o c s)).2 = r c s ∧ bodyMade o c s (eff c s) (body c (taken o c s)).1)
    (hs : ∀ c s, Accepted o c s → pre c s → refuses (r c s).status = false)
    (hk : ∀ c s, (eff c s).sys.role = s.sys.role ∧ (eff c s).sys.tileId = s.sys.tileId ∧
      (eff c s).sys.porstLow = s.sys.porstLow ∧ (eff c s).pending = s.pending) :
    serves o i pre r eff := by
  intro c s h hp
  obtain ⟨hr, hu⟩ := hb c s h hp
  obtain ⟨k1, k2, k3, k4⟩ := hk c s
  refine ⟨_, by rw [hx, live_acts h.1.1, runCmd_accepted h bs body (by rw [hr]; exact hs c s h hp)], ?_⟩
  generalize hB : body c (taken o c s) = B at hr hu
  obtain ⟨u, rr⟩ := B
  simp only at hr hu
  rw [← hr]
  clear hr
  unfold bodyMade at hu
  have ha : pairActive u = pairActive (eff c s) := by
    rw [hu]; simp [pairActive, paired, keyU, keyEff]
  have hc : u.cmds = (taken o c s).cmds := by rw [hu]
  have ht : (taken o c s).cmds = { s.cmds with inFlight := s.cmds.inFlight ++ [{ tag := c.tag, op := o.op, path := c.path }] } := by
    simp [taken, takeTag]
  constructor
  · have hw : (finish o c (u, rr)).cmds = _ := answer_cmds (mirrorCmd u o.op c rr) o.op c rr (rr.status != .accepted)
    unfold answered
    show (finish o c (u, rr)).cmds = _
    rw [hw]
    rw [respWords_congr (s := mirrorCmd u o.op c rr) (t := held s (finish o c (u, rr))) (by simp [held, finish]) (by simp [held, finish])]
    simp [hc, ht]
  · have e : ∀ {α : Type} (f : State → α), f u = f _ := fun f => congrArg f hu
    have hm : ∀ (h : pairActive (eff c s) = false), mirrorCmd u o.op c rr = u := fun h => by simp [ha, h]
    apply State.ext
    case sys =>
      have := e State.sys
      simp [held, hostly, reports, finish, this, ← k1, ← k2, ← k3]
    case pending => simp [held, hostly, reports, k4]
    case regs =>
      apply Regs.ext <;> simp [held, hostly, reports, finish] <;> rw [hu]
    case pair =>
      have := e State.pair
      by_cases h : pairActive (eff c s) = true
      · simp [held, hostly, reports, finish, h]
      · simp only [Bool.not_eq_true] at h
        simp only [held, hostly, reports, finish, h, answer_keeps, hm h]; rw [this]; simp
    case cap =>
      have := e State.cap
      by_cases h : capRuns s = true
      · simp [held, hostly, reports, finish, h]
      · simp only [Bool.not_eq_true] at h
        simp [held, hostly, reports, finish, h]; simp [this, h]
    case dram =>
      have := e State.dram
      by_cases h : capRuns s = true
      · simp [held, hostly, reports, finish, h]
      · simp only [Bool.not_eq_true] at h
        simp [held, hostly, reports, finish, h]; simp [this, h]
    all_goals simp [held, hostly, reports, finish]
    all_goals (rw [hu])

end Sys2Proof.Machine
end

