-- ==== Sys2Proof/Laws/Tab.lean ====
section
/-! SUPPORT. The laws of sparse tables and of DRAM: what is written is read back, every other key reads as before, and every
operation keeps the canonical form. -/

namespace Sys2Proof.Machine

variable {α : Type}

/-! ### Reading after writing -/

theorem tabGet_tabErase (d : α) (t : Tab α) (k j : Nat) : tabGet d (tabErase t k) j = if j = k then d else tabGet d t j := by
  induction t with
  | nil => simp [tabErase, tabGet]
  | cons p r ih =>
    obtain ⟨k', v⟩ := p
    by_cases h : k' = k
    · subst h; simp only [tabErase, if_true, ih, tabGet]
      by_cases e : j = k'
      · simp [e]
      · rw [if_neg e, if_neg e, if_neg (by omega)]
    · simp only [tabErase, if_neg h, tabGet, ih]
      by_cases e : k' = j
      · rw [if_pos e, if_pos e, if_neg (by omega)]
      · rw [if_neg e, if_neg e]

theorem tabGet_tabInsert (d : α) (t : Tab α) (k j : Nat) (v : α) : tabGet d (tabInsert k v t) j = if j = k then v else tabGet d t j := by
  induction t with
  | nil =>
    simp only [tabInsert, tabGet]
    by_cases e : k = j
    · rw [if_pos e, if_pos e.symm]
    · rw [if_neg e, if_neg (by omega)]
  | cons p r ih =>
    obtain ⟨k', v'⟩ := p
    simp only [tabInsert]
    split
    · simp only [tabGet]
      by_cases e : k = j
      · rw [if_pos e, if_pos e.symm]
      · rw [if_neg e, if_neg (show ¬j = k by omega)]
    · split
      · next h => subst h; simp only [tabGet]
                  by_cases e : k = j
                  · rw [if_pos e, if_pos e.symm]
                  · rw [if_neg e, if_neg (by omega), if_neg e]
      · next h => simp only [tabGet, ih]
                  by_cases e : k' = j
                  · rw [if_pos e, if_pos e, if_neg (by omega)]
                  · rw [if_neg e, if_neg e]

/-- What is written at a key is read back, and every other key reads as before. -/
theorem tabGet_tabSet [DecidableEq α] (d : α) (t : Tab α) (k j : Nat) (v : α) :
    tabGet d (tabSet d t k v) j = if j = k then v else tabGet d t j := by
  unfold tabSet; split
  · next h => rw [tabGet_tabErase, h]
  · exact tabGet_tabInsert d t k j v

@[simp] theorem tabGet_tabSet_same [DecidableEq α] (d : α) (t : Tab α) (k : Nat) (v : α) : tabGet d (tabSet d t k v) k = v := by
  rw [tabGet_tabSet, if_pos rfl]

theorem tabGet_tabSet_other [DecidableEq α] (d : α) (t : Tab α) {k j : Nat} (v : α) (h : j ≠ k) :
    tabGet d (tabSet d t k v) j = tabGet d t j := by
  rw [tabGet_tabSet, if_neg h]

/-- A run of values is read back, and every other key reads as before. -/
theorem tabGet_tabSetList [DecidableEq α] (d : α) (vs : List α) : ∀ (t : Tab α) (k j : Nat),
    tabGet d (tabSetList d t k vs) j = if k ≤ j ∧ j < k + vs.length then vs.getD (j - k) d else tabGet d t j := by
  induction vs with
  | nil => intro t k j; rw [if_neg (by simp only [List.length_nil]; omega)]; rfl
  | cons v r ih =>
    intro t k j
    show tabGet d (tabSetList d (tabSet d t k v) (k + 1) r) j = _
    rw [ih, tabGet_tabSet]
    by_cases e : j = k
    · subst e; rw [if_neg (by omega), if_pos rfl, if_pos (by simp)]; simp only [Nat.sub_self, List.getD_cons_zero]
    · by_cases h : k + 1 ≤ j ∧ j < k + 1 + r.length
      · rw [if_pos h, if_pos (by simp; omega)]
        have e2 : j - k = (j - (k + 1)) + 1 := by omega
        rw [e2]; simp
      · rw [if_neg h, if_neg e, if_neg (by simp; omega)]

/-! ### The canonical form -/

theorem tabRising_weaken [DecidableEq α] {d : α} {lo lo' : Nat} {t : Tab α} (h : lo' ≤ lo) (hr : tabRising d lo t = true) :
    tabRising d lo' t = true := by
  cases t with
  | nil => rfl
  | cons p r =>
    simp only [tabRising, Bool.and_eq_true, decide_eq_true_eq] at *
    exact ⟨⟨by omega, hr.1.2⟩, hr.2⟩

theorem tabRising_tabErase [DecidableEq α] {d : α} (k : Nat) (t : Tab α) : ∀ lo, tabRising d lo t = true → tabRising d lo (tabErase t k) = true := by
  induction t with
  | nil => intro lo h; exact h
  | cons p r ih =>
    intro lo h
    simp only [tabRising, Bool.and_eq_true, decide_eq_true_eq] at h
    simp only [tabErase]; split
    · exact tabRising_weaken (by omega) (ih _ h.2)
    · simp only [tabRising, Bool.and_eq_true, decide_eq_true_eq]; exact ⟨h.1, ih _ h.2⟩

theorem tabRising_tabInsert [DecidableEq α] {d : α} {k : Nat} {v : α} (hv : v ≠ d) (t : Tab α) :
    ∀ lo, lo ≤ k → tabRising d lo t = true → tabRising d lo (tabInsert k v t) = true := by
  induction t with
  | nil => intro lo hk _; simp [tabInsert, tabRising, hk, hv]
  | cons p r ih =>
    intro lo hk h
    simp only [tabRising, Bool.and_eq_true, decide_eq_true_eq] at h
    simp only [tabInsert]; split
    · simp only [tabRising, Bool.and_eq_true, decide_eq_true_eq]; exact ⟨⟨hk, hv⟩, ⟨by omega, h.1.2⟩, h.2⟩
    · split
      · next e => simp only [tabRising, Bool.and_eq_true, decide_eq_true_eq]; rw [e]; exact ⟨⟨h.1.1, hv⟩, h.2⟩
      · simp only [tabRising, Bool.and_eq_true, decide_eq_true_eq]; exact ⟨h.1, ih _ (by omega) h.2⟩

/-- A write keeps the canonical form. -/
theorem tabWf_tabSet [DecidableEq α] {d : α} {t : Tab α} (k : Nat) (v : α) (h : tabWf d t = true) : tabWf d (tabSet d t k v) = true := by
  unfold tabSet; split
  · exact tabRising_tabErase k t 0 h
  · next e => exact tabRising_tabInsert e t 0 (Nat.zero_le _) h

theorem tabWf_tabUpd [DecidableEq α] {d : α} {t : Tab α} (k : Nat) (f : α → α) (h : tabWf d t = true) : tabWf d (tabUpd d t k f) = true :=
  tabWf_tabSet k _ h

theorem tabWf_tabSetList [DecidableEq α] {d : α} (vs : List α) : ∀ {t : Tab α} (k : Nat), tabWf d t = true → tabWf d (tabSetList d t k vs) = true := by
  induction vs with
  | nil => intro t k h; exact h
  | cons v r ih => intro t k h; exact ih (k + 1) (tabWf_tabSet k v h)

/-- Every read of a key in canonical form that is not the default is listed: equal reads are equal tables. -/
theorem tabGet_below [DecidableEq α] {d : α} {t : Tab α} : ∀ {lo k}, tabRising d lo t = true → k < lo → tabGet d t k = d := by
  induction t with
  | nil => intros; rfl
  | cons p r ih =>
    intro lo k h hk
    simp only [tabRising, Bool.and_eq_true, decide_eq_true_eq] at h
    simp only [tabGet]; rw [if_neg (by omega)]; exact ih h.2 (by omega)

/-! ### DRAM -/

/-- Reset memory is in canonical form. -/
theorem reset_memory_wf : Memory.wf State.reset.dram := rfl

/-- Writing bytes keeps DRAM in canonical form. -/
theorem wrBytes_memory_wf {s : State} (a : Nat) (l : List Byte) (h : Memory.wf s.dram) : Memory.wf (wrBytes s a l).dram :=
  tabWf_tabSetList l a h

/-- Reading DRAM after a write: the bytes written, and every other byte as before. -/
theorem wrBytes_reads (s : State) (a : Nat) (l : List Byte) (j : Nat) :
    tabGet 0 (wrBytes s a l).dram j = if a ≤ j ∧ j < a + l.length then l.getD (j - a) 0 else tabGet 0 s.dram j :=
  tabGet_tabSetList 0 l s.dram a j

/-- The bytes of a run, one by one. -/
theorem tabGetList_eq (d : α) (t : Tab α) : ∀ (n k : Nat), tabGetList d t k n = (List.range n).map fun i => tabGet d t (k + i) := by
  intro n
  induction n with
  | zero => intro k; rfl
  | succ n ih =>
    intro k
    rw [List.range_succ_eq_map]
    simp only [tabGetList, ih, List.map_cons, List.map_map]
    congr 1
    apply List.map_congr_left
    intro i _
    show tabGet d t (k + 1 + i) = tabGet d t (k + (i + 1))
    congr 1; omega

end Sys2Proof.Machine
end

