-- ==== Sys2Proof/Tests/Slice0.lean ====
section
/-! SUPPORT. Witnesses: for every statement with hypotheses, a state and operands that meet them, clause by clause. Tests:
ill-formed operands, the spec's worked examples, single steps. -/

namespace Sys2Proof.Machine.Tests

set_option Elab.async false

/-- A device in a role and state: firmware up, DIE framed, EMIT_EN asserted, running the image of slot A. -/
def dev (r : Role) (d : DevState) : State :=
  { State.reset with
    sys.role := r, sys.st := d, sys.notReady := false, sys.dieFramed := true, sys.emitEnA := true, sys.emitEnB := true
    sys.emitEnabled := true, img.running := some 0 }

/-- A command to this device through mailbox 0 with these payload words. -/
def cmd (ws : List Nat) : Cmd :=
  { path := 0, tag := 1, notify := false, len := ws.length, self := true, bcast := false, target := 0, origin := 0
    payload := ws.map (BitVec.ofNat 32) }

/-- The hypotheses of a `steps` clause hold of a state. -/
abbrev meets (_ : Instr) (pre : State → Prop) (s : State) : Prop := s.acts ∧ pre s

/-- The hypotheses of a `runs` clause hold of a command and a state. -/
abbrev meetsRun (o : OpSpec) (_ : Cmd → Instr) (pre : Cmd → State → Prop) (c : Cmd) (s : State) : Prop :=
  Accepted o c s ∧ pre c (taken o c s)

/-- The line bits of a MARK cell at position 19, its flag and the 58 bits before it (08 R298). -/
def markLine : List Bool := List.replicate 58 false ++ (cellLine 0 (markCell 0 1 1 0)).1

/-! ### Witnesses of the statements -/

/-- A state and operands that meet the hypotheses of each clause of `Obligations.InformationCommandsComplete`. -/
theorem witness_InformationCommandsComplete :
    meetsRun opGetInfo .getInfo (fun c s => True)
      (cmd []) (dev .tile .ready) ∧
    meetsRun opGetState .getState (fun c s => True)
      (cmd []) (dev .tile .ready) ∧
    meetsRun opGetCounters .getCounters (fun c s => 1 ≤ bits (pw c 0) 1 7 ∧ bits (pw c 0) 1 7 ≤ 60 ∧ ∀ i < bits (pw c 0) 1 7, ctrInstance s (bits (pw c 0) 24 8) (bits (pw c 0) 16 8) (bits (pw c 0) 8 8 + i) = true)
      (cmd [2]) (dev .tile .ready) ∧
    meetsRun opEventRead .eventRead (fun c s => pw c 0 % 16 ≠ 0 ∧ eqEnabled s = false)
      (cmd [1]) (dev .tile .ready) ∧
    meetsRun opEventRead .eventRead (fun c s => pw c 0 % 16 ≠ 0 ∧ eqEnabled s = true)
      (cmd [1]) { dev .tile .ready with regs.eq.ctrl := 1 } ∧
    meetsRun opLinkStatus .linkStatus (fun c s => portExists s (pw c 0 % 16) = true ∧ ¬(pw c 0 % 16 = 15 ∧ peerLane s = false))
      (cmd [0]) (dev .tile .ready) ∧
    meetsRun opResetWarm .resetWarm (fun c s => True)
      (cmd []) (dev .tile .ready) := by
  and_intros <;> decide +kernel

/-- A state and operands that meet the hypotheses of each clause of `Obligations.ConfigurationCommandsComplete`. -/
theorem witness_ConfigurationCommandsComplete :
    meetsRun opCfgWrite .cfgWrite (fun c s => cfgFault true c s = none)
      (cmd [0, 1, 0]) (dev .tile .ready) ∧
    meetsRun opCfgRead .cfgRead (fun c s => cfgFault false c s = none)
      (cmd [0, 1]) (dev .tile .ready) ∧
    meetsRun opCfgCommit .cfgCommit (fun c s => bit (pw c 0) 0 = false ∧ (stagedIds s).isEmpty = false ∧ keyFault s false = none)
      (cmd [0]) { dev .tile .ready with keys.staged := [(0x0002, some [1, 0, 0, 0])] } ∧
    meetsRun opCfgCommit .cfgCommit (fun c s => bit (pw c 0) 0 = false ∧ (stagedIds s).isEmpty = true)
      (cmd [0]) (dev .tile .ready) ∧
    meetsRun opCfgCommit .cfgCommitDiscard (fun c s => bit (pw c 0) 0 = true)
      (cmd [1]) (dev .tile .ready) ∧
    meetsRun opSealConfig .sealConfig (fun c s => s.sys.sealed = false ∧ (s.sys.role = .sender → s.sys.dramTrained = true) ∧ sealFault s = none)
      (cmd []) (dev .bed .standby) ∧
    meetsRun opSealConfig .sealConfig (fun c s => s.sys.sealed = true)
      (cmd []) { dev .tile .standby with sys.sealed := true } ∧
    meetsRun opDriveSet .driveSet (fun c s => keyFault { s with keys := { s.keys with staged := ((List.range 3).map fun k => (0x0502 + k, leBytes 1 (bits (pw c 0) (8 * k) 8))).foldl (fun t p => tabSet none t p.1 (some p.2)) [] } } false = none)
      (cmd [8355711]) (dev .tile .ready) ∧
    meetsRun opBrightnessSet .brightnessSet (fun c s => keyFault { s with keys := { s.keys with staged := tabSet none [] 0x0539 (some (leBytes 2 (pw c 0 % 65536))) } } false = none)
      (cmd [100]) (dev .tile .ready) := by
  and_intros <;> decide +kernel

/-- A state and operands that meet the hypotheses of each clause of `Obligations.StateCommandsComplete`. -/
theorem witness_StateCommandsComplete :
    meetsRun opSetState .setState ((fun (n : DevState) => fun c s => targetState (pw c 0 % 16) = some n ∧ s.sys.st ≠ n ∧ mayChange s n = true ∧ (n = .run → s.sys.role = .sender → ∀ o < 8, guardsHold s o = true)) .run)
      (cmd [4]) (dev .tile .ready) ∧
    meetsRun opResume .resume (fun c s => fatalLatched s = none ∧ (s.sys.role = .bed → s.sys.emitEnA = true ∧ s.sys.emitEnB = true))
      (cmd []) (dev .tile .safe) ∧
    meetsRun opCapoSet .capoSet (fun c s => bits (pw c 0) 8 4 ≤ 5 ∧ bits (pw c 0) 8 4 ≠ 4 ∧ pw c 0 % 256 ≠ 255 ∧ ∃ l, capoInstances s (bits (pw c 0) 8 4) = some l ∧ l.contains (pw c 0 % 256) = true)
      (cmd [0]) (dev .tile .ready) := by
  and_intros <;> decide +kernel

/-- A state and operands that meet the hypotheses of each clause of `Obligations.CascadeAndPairCommandsComplete`. -/
theorem witness_CascadeAndPairCommandsComplete :
    meetsRun opEnumerate .enumerate (fun c s => (bit (pw c 0) 8 = true → s.sys.st = .standby) ∧ ((List.range 8).filter fun n => bit (pw c 0) n && portMode s n == 1 && !(pairPort s n && !s.pair.active)) ≠ [] ∧ (∀ n ∈ (List.range 8).filter fun n => bit (pw c 0) n && portMode s n == 1 && !(pairPort s n && !s.pair.active), (casc s n).running = false))
      (cmd [1]) { dev .sender .ready with keys.eff := [(0x0201, some [1])] } ∧
    meetsRun opTopoRead .topoRead (fun c s => bits (pw c 0) 16 8 ≠ 0 ∧ bits (pw c 0) 16 8 ≤ 15)
      (cmd [65536]) (dev .sender .ready) ∧
    meetsRun opSwitch .redundancySwitchHandover (fun c s => paired s = true ∧ pw c 0 % 4 = 0 ∧ s.pair.active = true ∧ s.pair.hand = none ∧ peerSynced s = true ∧ peerUp s = true ∧ ¬(s.sys.role = .bed ∧ 2 ≤ s.bed.build.st ∧ s.bed.build.st ≤ 5))
      (cmd [0]) { dev .sender .ready with keys.eff := [(0x0F80, some [1])], pair.active := true, pair.peerFlags := 17, pair.peerState := 4 } ∧
    meetsRun opSwitch .redundancySwitchForce (fun c s => paired s = true ∧ pw c 0 % 4 = 1 ∧ s.pair.active = false)
      (cmd [1]) { dev .sender .ready with keys.eff := [(0x0F80, some [1])] } ∧
    meetsRun opStatus .redundancyStatus (fun c s => c.len = 0)
      (cmd []) (dev .sender .ready) ∧
    meetsRun opStatus .redundancyStatusSaved (fun c s => c.len = 1 ∧ savedCopy s ≠ [] ∧ bit (pw c 0) 31 = true ∧ 1 ≤ bits (pw c 0) 16 6 ∧ bits (pw c 0) 16 6 ≤ 60 ∧ pw c 0 % 65536 % 4 = 0 ∧ pw c 0 % 65536 + 4 * bits (pw c 0) 16 6 ≤ (savedCopy s).length)
      (cmd [2147549184]) { dev .sender .ready with nv.savedLast := 1, nv.saved := [(0, [0, 0, 0, 0])] } := by
  and_intros <;> decide +kernel

/-- A state and operands that meet the hypotheses of each clause of `Obligations.CompositionCommandsComplete`. -/
theorem witness_CompositionCommandsComplete :
    meetsRun opLayerDefine .layerDefine (fun c s => defBad ((List.range 25).map (pw c)) = none)
      (cmd [0, 0, 0, 65537, 0, 65537, 16777216, 0, 0, 0, 0, 0, 0, 0, 0, 0, 0, 0, 0, 0, 0, 0, 0, 0, 0]) (dev .sender .ready) ∧
    meetsRun opLayerCommit .layerCommit ((fun (k : Nat) (d : List Nat) => fun c s => (maskSlots c).head? = some k ∧ (layer s k).staged = some d ∧ commitBad (latchPointDue (dOutput d) s) (maskSlots c) (dOutput d) = none ∧ overBudget (latchPointDue (dOutput d) s) (planNow { latchPointDue (dOutput d) s with send := { (latchPointDue (dOutput d) s).send with layers := pendSlots (latchPointDue (dOutput d) s) (maskSlots c) } }) = none) 0 [2048, 0, 0, 0x10001, 0, 0x10001, 0x1000000])
      (cmd [1, 0]) { dev .sender .ready with send.layers := [(0, { LayerSlot.cold with staged := some [2048, 0, 0, 0x10001, 0, 0x10001, 0x1000000] })], send.outs := [(0, { Output.cold with enable := true, views := 1, width := 64, height := 64, num := 60, den := 1, vb := 5000000 })] } ∧
    meetsRun opBufferRegister .bufferRegister (fun c s => bufferBad s (bits (pw c 0) 0 10) { format := bits (pw c 0) 16 4, addr := pw c 1 + pw c 2 * 2 ^ 32, width := pw c 3 % 65536, height := pw c 3 / 65536, pitch := pw c 4 } = none)
      (cmd [0, 0, 0, 65537, 256]) { dev .sender .ready with sys.dramMib := 16384 } ∧
    meetsRun opBufferRelease .bufferRelease (fun c s => (stillBuf s (bits (pw c 0) 0 10)).isSome = true ∧ bufState s (bits (pw c 0) 0 10) = 0)
      (cmd [0]) { dev .sender .ready with send.bufs := [(0, some ⟨0, 0, 1, 1, 256⟩)] } ∧
    meetsRun opMapDefine .mapDefine (fun c s => 1 ≤ bits (pw c 0) 8 8 ∧ bits (pw c 0) 8 8 ≤ 30 ∧ 1 ≤ bits (pw c 0) 0 8 ∧ bits (pw c 0) 0 8 + bits (pw c 0) 8 8 ≤ 256 ∧ c.len = 1 + 2 * bits (pw c 0) 8 8 ∧ ∀ k < bits (pw c 0) 8 8, mapRectOk (outp s (bits (pw c 0) 16 3)) (mapRect c k) = true)
      (cmd [257, 0, 0]) (dev .sender .standby) ∧
    meetsRun opOutputTiming .outputTiming ((fun x : Output => fun c s => x = { outp s (bits (pw c 0) 0 3) with enable := bit (pw c 0) 31, views := bits (pw c 0) 16 2 + 1, width := pw c 1 % 65536, height := pw c 1 / 65536, num := pw c 2, den := pw c 3 % 65536, vb := pw c 4, phase := pw c 5, latency := pw c 6 } ∧ timingBad s (bits (pw c 0) 0 3) x = none ∧ overBudget (setOutp s (bits (pw c 0) 0 3) x) (planNow (setOutp s (bits (pw c 0) 0 3) x)) = none) { Output.cold with enable := true, views := 1, width := 64, height := 64, num := 60, den := 1, vb := 5000000, phase := 0, latency := 0 })
      (cmd [2147483648, 4194368, 60, 1, 5000000, 0, 0]) { dev .sender .standby with keys.eff := [(0x0201, some [1])] } ∧
    meetsRun opCrcRectSet .crcRectSet ((fun r : CrcRect => fun c s => r = { CrcRect.cold with enable := bit (pw c 0) 31, learn := bit (pw c 0) 30, view := bits (pw c 0) 20 2, x := pw c 1 % 65536, y := pw c 1 / 65536, w := pw c 2 % 65536, h := pw c 2 / 65536, expected := if bit (pw c 0) 30 then none else some (pw c 3), first := true } ∧ r.view < (outp s (bits (pw c 0) 16 3)).views ∧ r.w ≠ 0 ∧ r.h ≠ 0 ∧ r.x + r.w ≤ (outp s (bits (pw c 0) 16 3)).width ∧ r.y + r.h ≤ (outp s (bits (pw c 0) 16 3)).height) { CrcRect.cold with enable := true, w := 1, h := 1, expected := some 0, first := true })
      (cmd [2147483648, 0, 65537, 0]) { dev .sender .ready with send.outs := [(0, { Output.cold with views := 1, width := 16, height := 16 })] } ∧
    meetsRun opCrcResultRead .crcResultRead (fun c s => True)
      (cmd [0]) (dev .sender .ready) ∧
    meetsRun opStreamBind .streamBind (fun c s => bit (pw c 0) 8 = false ∧ bindBad (bindOf c) = none ∧ (s.send.layers.any fun p => namesStream p.2.pend (bits (pw c 0) 0 3) || namesStream p.2.active (bits (pw c 0) 0 3)) = false ∧ overBudget s { planNow (unbindStream s (bits (pw c 0) 0 3)) with binds := bindOf c :: (planNow (unbindStream s (bits (pw c 0) 0 3))).binds } = none ∧ ((ringsOf (unbindStream s (bits (pw c 0) 0 3))).map Prod.snd).sum + ringLen (bindOf c) ≤ areaLen s)
      (cmd [0, 0, 0, 0, 1048592, 60, 1, 1611137024]) { dev .sender .ready with sys.dramMib := 16384 } ∧
    meetsRun opStreamBind .streamBind (fun c s => bit (pw c 0) 8 = true ∧ (s.send.layers.any fun p => namesStream p.2.pend (bits (pw c 0) 0 3) || namesStream p.2.active (bits (pw c 0) 0 3)) = false)
      (cmd [256, 0, 0, 0, 0, 0, 0, 0]) (dev .sender .ready) := by
  and_intros <;> decide +kernel

/-- A state and operands that meet the hypotheses of each clause of `Obligations.TileCommandsComplete`. -/
theorem witness_TileCommandsComplete :
    meetsRun opFretboardLoad .fretboardLoad (fun c s => ¬(((fbHead (pw c 0)).table = 3 ∨ bit (fbHead (pw c 0)).flags 0 = true) ∧ s.sys.st ≠ .standby) ∧ (fbHead (pw c 0)).table ≤ 3 ∧ c.len = 1 + fbWords (fbHead (pw c 0)) ∧ fbRange (fbHead (pw c 0)) = true ∧ fbBusy s = false)
      (cmd [268566528, 0]) (dev .tile .ready) ∧
    meetsRun opFretboardRead .fretboardRead (fun c s => (fbHead (pw c 0)).table ≤ 2 ∧ fbRange (fbHead (pw c 0)) = true ∧ fbWords (fbHead (pw c 0)) ≤ 61 ∧ (bit (fbHead (pw c 0)).flags 0 = true → s.fret.copying = none))
      (cmd [268566528]) (dev .tile .ready) ∧
    meetsRun opFretboardCommit .fretboardCommit (fun c s => bit (fbHead (pw c 0)).flags 1 = false ∧ fbBusy s = false)
      (cmd [0]) (dev .tile .ready) ∧
    meetsRun opFretboardCommit .fretboardCommitDiscard (fun c s => bit (fbHead (pw c 0)).flags 1 = true ∧ fbBusy s = false)
      (cmd [33554432]) (dev .tile .ready) ∧
    meetsRun opLampHealthRead .lampHealthRead (fun c s => 1 ≤ bits (pw c 0) 26 6 ∧ bits (pw c 0) 26 6 ≤ 61 ∧ bits (pw c 0) 0 17 % 16 = 0 ∧ bits (pw c 0) 0 17 + 16 * bits (pw c 0) 26 6 ≤ 98304)
      (cmd [67108864]) (dev .tile .ready) ∧
    meetsRun opWearRead .wearRead (fun c s => (fbHead (pw c 0)).table = 3 ∧ fbRange (fbHead (pw c 0)) = true ∧ fbWords (fbHead (pw c 0)) ≤ 61)
      (cmd [805437440]) (dev .tile .ready) := by
  and_intros <;> decide +kernel

/-- A state and operands that meet the hypotheses of each clause of `Obligations.BuildCommandsComplete`. -/
theorem witness_BuildCommandsComplete :
    meetsRun opHeadDefine .headDefine (fun c s => inLayer s (pw c 0 % 16) = false ∧ c.len = 20 ∧ bit (pw c 0) 31 = false)
      (cmd [0, 0, 0, 0, 0, 0, 0, 0, 0, 0, 0, 0, 0, 0, 0, 0, 0, 0, 0, 0]) (dev .bed .ready) ∧
    meetsRun opHeadDefine .headDefine (fun c s =>
        let h := pw c 0 % 16
        let w := (List.range 20).map (pw c)
        inLayer s h = false ∧ c.len = 20 ∧ bit (pw c 0) 31 = true ∧ headFault s h w = none)
      (cmd [2147483648, 0, 0, 100000, 0, 0, 1, 1, 1, 1, 0, 0, 0, 0, 0, 0, 0, 256, 0, 0]) (dev .bed .ready) ∧
    meetsRun opFieldCorrLoad .fieldCorrLoad (fun c s =>
        let w := pw c 0
        let n := bits w 17 5
        let first := bits w 4 13
        let h := w % 16
        ¬(inLayer s h) ∧
          ¬(c.len ≠ 1 + 3 * n) ∧
          ¬(headDefined s h = false ∨ n = 0 ∨ 20 < n ∨ 4225 < first + n))
      (cmd [131072, 0, 0, 0]) { dev .bed .ready with bed.heads := [(0, { BHead.cold with defn := [1] })] } ∧
    meetsRun opHeadReference .headReference (fun c s =>
        let h := pw c 0 % 16
        ¬((s.bed.build.st = 4 ∨ s.bed.build.st = 5) ∧ bit s.bed.build.mask h) ∧
          ¬(fenced s 6 h) ∧
          ¬(headDefined s h = false ∨ gridValid (bhead s h) = false) ∧
          ¬((bhead s h).ref.isSome))
      (cmd [0]) { dev .bed .ready with bed.heads := [(0, { BHead.cold with defn := [1], written := (List.range 4225).map fun i => (i, true) })] } ∧
    meetsRun opPlumeGuardSet .plumeGuardSet (fun c s =>
        ¬(s.bed.build.st = 4 ∨ s.bed.build.st = 5) ∧
          ¬(5000000 < pw c 1) ∧
          ¬(100000000 < pw c 3) ∧
          ¬(10000000 < pw c 4))
      (cmd [0, 0, 0, 0, 0]) (dev .bed .ready) ∧
    meetsRun opBuildLoad .buildLoad (fun c s =>
        let a := pw c 0 + pw c 1 * 2 ^ 32
        let st := s.bed.build.st
        ¬(st ≠ 0 ∧ st ≠ 1 ∧ st ≠ 7 ∧ st ≠ 8) ∧
          ¬(c.len ≠ 2) ∧
          ¬(a % 256 ≠ 0 ∨ dramTop s < a + 528 ∨ descOk s a = false))
      (cmd [0, 0]) { dev .bed .ready with sys.dramMib := 1, bed.heads := [(0, { BHead.cold with defn := [1] })], dram := [(4, 1), (0x11, 4), (0x18, 1), (0x21, 8)] } ∧
    meetsRun opBuildArm .buildArm (fun c s =>
        let st := s.bed.build.st
        ¬(st ≠ 1) ∧
          ¬(c.len ≠ 0))
      (cmd []) { dev .bed .ready with bed.build.st := 1 } ∧
    meetsRun opBuildStart .buildStart (fun c s =>
        let relax := bit (pw c 0) 2
        let lead := buildNow s + keyU s 0x0A00 0 4
        let given := buildAt s (unshort (sysTicks s) (pw c 1 + pw c 2 % 65536 * 2 ^ 32))
        (s.bed.build.st = 3 ∨ s.bed.build.st = 6) ∧ c.len = 3 ∧ startFault s relax = none ∧ ¬(bit (pw c 0) 0 ∧ given < lead))
      (cmd [0, 0, 0]) { dev .bed .run with bed.build.st := 3 } ∧
    meetsRun opBuildPause .buildPause (fun c s => s.bed.build.st = 4 ∧ c.len = 0)
      (cmd []) { dev .bed .ready with bed.build.st := 4 } ∧
    meetsRun opBuildPause .buildPause (fun c s => (s.bed.build.st = 5 ∨ s.bed.build.st = 6) ∧ c.len = 0)
      (cmd []) { dev .bed .ready with bed.build.st := 5 } ∧
    meetsRun opBuildAbort .buildAbort (fun c s =>
        True)
      (cmd []) (dev .bed .ready) := by
  and_intros <;> decide +kernel

/-- A state and operands that meet the hypotheses of each clause of `Obligations.AxisCommandsComplete`. -/
theorem witness_AxisCommandsComplete :
    meetsRun opAxisMove .axisMoveAbsolute (fun c s =>
        let a := pw c 0 % 16
        let x := axis s a
        a < 8 ∧ bits (pw c 0) 4 3 = 0 ∧ fenced s 10 a = false ∧ x.st ≠ 0 ∧ axisMoves x = false ∧ moveFault s a 0 c = none)
      (cmd [0, 0, 1, 1, 0]) { dev .bed .ready with bed.axes := [(0, { Axis.cold with st := 1 })], keys.eff := [(0x0A10, some [1, 0, 0, 0])] } ∧
    meetsRun opAxisMove .axisMoveRelative (fun c s =>
        let a := pw c 0 % 16
        let x := axis s a
        a < 8 ∧ bits (pw c 0) 4 3 = 1 ∧ fenced s 10 a = false ∧ axisMoves x = false ∧ moveFault s a 1 c = none)
      (cmd [16, 0, 1, 1, 0]) { dev .bed .ready with keys.eff := [(0x0A10, some [1, 0, 0, 0])] } ∧
    meetsRun opAxisMove .axisDecelerate (fun c s =>
        let a := pw c 0 % 16
        let x := axis s a
        a < 8 ∧ bits (pw c 0) 4 3 = 2 ∧ fenced s 10 a = false ∧ moveFault s a 2 c = none ∧ x.decTag = 0)
      (cmd [32, 0, 1, 1, 0]) (dev .bed .ready) ∧
    meetsRun opAxisMove .axisFollow (fun c s =>
        let a := pw c 0 % 16
        let x := axis s a
        a < 8 ∧ bits (pw c 0) 4 3 = 3 ∧ fenced s 10 a = false ∧ axisMoves x = false ∧ moveFault s a 3 c = none)
      (cmd [48, 0, 0, 0, 0]) (dev .bed .ready) ∧
    meetsRun opAxisMove .axisEndFollowing (fun c s =>
        let a := pw c 0 % 16
        a < 8 ∧ bits (pw c 0) 4 3 = 4 ∧ fenced s 10 a = false ∧ moveFault s a 4 c = none)
      (cmd [64, 0, 0, 0, 0]) (dev .bed .ready) ∧
    meetsRun opAxisMove .axisQuickStop (fun c s =>
        let a := pw c 0 % 16
        a < 8 ∧ bits (pw c 0) 4 3 = 5 ∧ fenced s 10 a = false ∧ moveFault s a 5 c = none)
      (cmd [80, 0, 0, 0, 0]) (dev .bed .ready) ∧
    meetsRun opAxisHome .axisHomeSet (fun c s =>
        let a := pw c 0 % 16
        let x := axis s a
        a < 8 ∧ fenced s 10 a = false ∧ axisMoves x = false ∧ bits (pw c 0) 4 2 = 0)
      (cmd [0, 0, 0]) (dev .bed .ready) ∧
    meetsRun opAxisHome .axisHomeSearch (fun c s =>
        let a := pw c 0 % 16
        let x := axis s a
        a < 8 ∧ fenced s 10 a = false ∧ axisMoves x = false ∧ (bits (pw c 0) 4 2 = 1 ∨ bits (pw c 0) 4 2 = 2) ∧ pw c 2 ≠ 0 ∧ pw c 2 ≤ axisW s a 0)
      (cmd [16, 0, 1]) { dev .bed .ready with keys.eff := [(0x0A10, some [1, 0, 0, 0])] } := by
  and_intros <;> decide +kernel

/-- A state and operands that meet the hypotheses of each clause of `Obligations.LoopAndTraceCommandsComplete`. -/
theorem witness_LoopAndTraceCommandsComplete :
    meetsRun opLoopDefine .loopDefine (fun c s =>
        let k := bits (pw c 0) 24 5
        ¬(slotExists s k = false) ∧
          ¬(slotEnabled s k) ∧
          loopFault (slotKind s k) c = none)
      (cmd [0, 0, 0, 0, 0, 2048, 256, 0]) (dev .bed .ready) ∧
    meetsRun opLoopLutLoad .loopLutLoad (fun c s =>
        let h := pw c 0
        let n := bits h 0 6
        let first := bits h 16 6
        let k := bits h 24 5
        ¬(c.len ≠ 1 + n) ∧
          ¬(slotExists s k = false ∨ 64 < first + n ∨ 61 < n ∨ (n = 0 ∧ bit h 31 = false)))
      (cmd [1, 0]) (dev .tile .ready) ∧
    meetsRun opLoopEnable .loopEnable (fun c s =>
        let named := (List.range 32).filter fun k => bit (pw c 0) k
        ¬(named.any (fun k => !slotExists s k)))
      (cmd [0, 0]) (dev .tile .ready) ∧
    meetsRun opSetpointSet .setpointSet (fun c s =>
        let k := bits (pw c 0) 0 5
        slotExists s k = true ∧ bit (pw c 0) 31 = true)
      (cmd [2147483648, 0]) (dev .tile .ready) ∧
    meetsRun opSetpointSet .setpointSet (fun c s =>
        let k := bits (pw c 0) 0 5
        let v := sgn 32 (pw c 1)
        slotExists s k = true ∧ bit (pw c 0) 31 = false ∧ setpointOk (slotKind s k) v = true ∧ headroomTooLow s k v = false)
      (cmd [0, 300]) (dev .tile .ready) ∧
    meetsRun opTraceArm .traceArmArm (fun c s => bits (pw c 0) 30 2 = 0 ∧ traceArmBad s c = false)
      (cmd [0, 0, 2147483648, 0, 0, 0, 0, 0, 0, 0]) (dev .bed .ready) ∧
    meetsRun opTraceArm .traceArmTrigger (fun c s => bits (pw c 0) 30 2 = 1)
      (cmd [1073741824, 0, 0, 0, 0, 0, 0, 0, 0, 0]) (dev .bed .ready) ∧
    meetsRun opTraceArm .traceArmDisarm (fun c s => bits (pw c 0) 30 2 = 2)
      (cmd [2147483648, 0, 0, 0, 0, 0, 0, 0, 0, 0]) (dev .bed .ready) ∧
    meetsRun opTraceRead .traceRead (fun c s =>
        let w := pw c 0
        let n := bits w 16 6
        ¬(n = 0 ∨ 58 < n) ∧
          ¬(s.trace.st = 1 ∨ s.trace.st = 2))
      (cmd [65536]) (dev .bed .ready) := by
  and_intros <;> decide +kernel

/-- A state and operands that meet the hypotheses of each clause of `Obligations.TimeCommandsComplete`. -/
theorem witness_TimeCommandsComplete :
    meetsRun opTimeGet .timeGet (fun c s =>
        True)
      (cmd []) (dev .tile .ready) ∧
    meetsRun opTimeSourceSet .timeSourceSet (fun c s =>
        let w := pw c 0
        let src := w % 16
        bit w 30 = false ∧ c.len = 7 ∧ s.sys.st = .standby ∧ src ≤ 3 ∧ sourceInRole s.sys.role src = true ∧ ¬(bit w 31 ∧ src ≠ 0) ∧
        ¬(src = 2 ∧ peerPortOk s (bits w 8 3) = false) ∧ ¬(bit w 31 ∧ secTicks ≤ pw c 3 + pw c 4 % 4 * 2 ^ 32))
      (cmd [0, 0, 0, 0, 0, 0, 0]) (dev .sender .standby) ∧
    meetsRun opTimeSourceSet .timeSourceUpdatePath (fun c s => bit (pw c 0) 30 = true ∧ c.len = 7 ∧ s.sys.role = .tile)
      (cmd [1073741824, 0, 0, 0, 0, 0, 0]) (dev .tile .ready) ∧
    meetsRun opTsQueueRead .tsQueueRead (fun c s =>
        True)
      (cmd [1]) (dev .tile .ready) ∧
    meetsRun opWindowSet .windowSet (fun c s =>
        let w := pw c 0
        bits w 26 2 ≠ 3 ∧ ¬((bits w 26 2 = 2 ∧ s.sys.role ≠ .bed) ∨ (bit w 10 ∧ s.sys.role ≠ .sender) ∨ (bit w 11 ∧ s.sys.role ≠ .bed)) ∧ bit w 31 = false)
      (cmd [0, 0, 0, 0, 0, 0]) (dev .tile .ready) ∧
    meetsRun opWindowSet .windowSet (fun c s =>
        let w := pw c 0
        let d := bits w 26 2
        let start := pw c 1 + pw c 2 % 65536 * 2 ^ 32
        let stop := pw c 3 + pw c 4 % 65536 * 2 ^ 32
        let period := pw c 5
        let len := diff48 stop start
        let now := domainNow s d
        let rel := sgn 48 (uns 48 ((start : Int) - now))
        d ≠ 3 ∧ ¬((d = 2 ∧ s.sys.role ≠ .bed) ∨ (bit w 10 ∧ s.sys.role ≠ .sender) ∨ (bit w 11 ∧ s.sys.role ≠ .bed)) ∧ bit w 31 = true ∧ 1 ≤ len ∧
        ¬(period ≠ 0 ∧ (period : Int) < len) ∧ rel.natAbs ≤ 2 ^ 46 ∧ ¬(period = 0 ∧ now + rel + len ≤ now))
      (cmd [2147483648, 0, 0, 100, 0, 0]) (dev .tile .ready) := by
  and_intros <;> decide +kernel

/-- A state and operands that meet the hypotheses of each clause of `Obligations.SpillwayCommandsComplete`. -/
theorem witness_SpillwayCommandsComplete :
    meetsRun opFaultRead .faultRead (fun c s => True)
      (cmd [0]) (dev .tile .ready) ∧
    meetsRun opFaultClear .faultClear (fun c s => True)
      (cmd [0, 0, 0]) (dev .tile .ready) ∧
    meetsRun opFaultInject .faultInject (fun c s =>
        let src := pw c 0 % 64
        let inst := bits (pw c 0) 16 16
        src ≤ 45 ∧ injectInstance s.sys.role src inst = true ∧ 1 ≤ pw c 1 ∧ pw c 1 ≤ 1000000 ∧ s.spill.injection = none)
      (cmd [0, 1000]) (dev .tile .ready) ∧
    meetsRun opLogRead .logRead (fun c s => pw c 1 % 8 ≠ 0 ∧ pw c 0 < s.log.next)
      (cmd [0, 1]) { dev .tile .ready with log.next := 1 } ∧
    meetsRun opLogRead .logRead (fun c s => pw c 1 % 8 ≠ 0 ∧ s.log.next ≤ pw c 0)
      (cmd [0, 1]) (dev .tile .ready) ∧
    meetsRun opFenceRelease .fenceRelease (fun c s =>
        let kind := pw c 0 / 2 ^ 28
        let inst := pw c 0 % 65536
        fenceExists s.sys.role kind inst = true ∧ (s.spill.fences.find? fun f => f.kind == kind && f.inst == inst) = none)
      (cmd [268435456]) (dev .tile .ready) ∧
    meetsRun opFenceRelease .fenceRelease ((fun f => fun c s =>
        let kind := pw c 0 / 2 ^ 28
        let inst := pw c 0 % 65536
        fenceExists s.sys.role kind inst = true ∧ (s.spill.fences.find? fun f => f.kind == kind && f.inst == inst) = some f ∧ causeAsserted s f = false) ⟨1, 0, 0⟩)
      (cmd [268435456]) { dev .tile .ready with spill.fences := [⟨1, 0, 0⟩] } ∧
    meetsRun opCapture .captureStart (fun c s => 1 ≤ c.len ∧ c.len ≤ 10 ∧ bits (pw c 0) 30 2 = 0 ∧ ¬(1 ≤ s.cap.state ∧ s.cap.state ≤ 3) ∧ captureFault s c = none)
      (cmd [268435456, 0, 0, 0, 0]) (dev .tile .ready) ∧
    meetsRun opCapture .captureStop (fun c s => 1 ≤ c.len ∧ c.len ≤ 10 ∧ bits (pw c 0) 30 2 = 1)
      (cmd [1073741824]) (dev .tile .ready) ∧
    meetsRun opCapture .captureStatus (fun c s => 1 ≤ c.len ∧ c.len ≤ 10 ∧ bits (pw c 0) 30 2 = 2)
      (cmd [2147483648]) (dev .tile .ready) ∧
    meetsRun opCapture .captureRead (fun c s => 1 ≤ c.len ∧ c.len ≤ 10 ∧ bits (pw c 0) 30 2 = 3 ∧ 1 ≤ pw c 2 ∧ pw c 2 ≤ 240 ∧ pw c 1 + pw c 2 ≤ capSize s)
      (cmd [3221225472, 0, 1]) (dev .tile .ready) ∧
    meetsRun opReplay .replayLoad (fun c s => bits (pw c 0) 30 2 = 0 ∧ s.rep.st ≠ 3 ∧ s.rep.st ≠ 1 ∧ (s.sys.role ≠ .tile → pw c 1 + pw c 2 * 2 ^ 32 + pw c 3 ≤ dramTop s ∧ pw c 5 + pw c 6 * 2 ^ 32 + 16 * pw c 7 ≤ dramTop s))
      (cmd [0, 0, 0, 0, 0, 0, 0, 0]) (dev .tile .service) ∧
    meetsRun opReplay .replayRun (fun c s => bits (pw c 0) 30 2 = 1 ∧ s.rep.st = 2)
      (cmd [1073741824]) { dev .tile .service with rep.st := 2 } ∧
    meetsRun opReplay .replayFeed (fun c s =>
        let n := pw c 2 % 256
        bits (pw c 0) 30 2 = 2 ∧ s.sys.role = .tile ∧ s.rep.st ≠ 0 ∧ pw c 1 = s.rep.fed.length ∧ 1 ≤ n ∧ n ≤ 232 ∧ n ≤ (bytesOf (c.payload.drop 4)).length)
      (cmd [2147483648, 0, 4, 0, 0]) { dev .tile .service with rep.st := 2 } ∧
    meetsRun opReplay .replayAbort (fun c s => bits (pw c 0) 30 2 = 3)
      (cmd [3221225472]) (dev .tile .service) := by
  and_intros <;> decide +kernel

/-- A state and operands that meet the hypotheses of each clause of `Obligations.ThermalAndCalibrationCommandsComplete`. -/
theorem witness_ThermalAndCalibrationCommandsComplete :
    meetsRun opThermalRead .thermalRead (fun c s => True)
      (cmd [0]) (dev .tile .ready) ∧
    meetsRun opThermalLimitsSet .thermalLimitsSet (fun c s =>
        let warn := pw c 0 % 65536
        let thr := pw c 0 / 65536
        let shut := pw c 1 % 65536
        let rise := pw c 1 / 65536
        640 ≤ warn ∧ warn ≤ 1680 ∧ warn + 16 ≤ thr ∧ thr ≤ 1760 ∧ thr + 80 ≤ shut ∧ shut ≤ 1920 ∧ 16 ≤ rise ∧ rise ≤ 320)
      (cmd [42992256, 1049312]) (dev .tile .standby) ∧
    meetsRun opAgeingReport .ageingReport (fun c s =>
        True)
      (cmd []) (dev .tile .ready) ∧
    meetsRun opMarginReplan .marginReplan (fun c s =>
        let mask := pw c 0 % 32
        ¬(mask ≠ 0 ∧ ((List.range 5).any fun d => bit mask d && domainUsed s.sys.role d) = false) ∧
          ¬(s.th.pendReplan.isSome))
      (cmd [0]) (dev .tile .ready) ∧
    meetsRun opCalRun .calRun ((fun d u21 => fun c s =>
        let inst := pw c 0 / 65536
        let mask := pw c 0 % 16
        let ds := (List.range 4).filter fun d => bit mask d
        let here := ds.filter fun d => !(calInstances s.sys.role d).isEmpty
        ¬(ds.isEmpty ∨ (inst ≠ 0xFFFF ∧ ds.length ≠ 1)) ∧
          here = d :: u21 ∧
          ¬(inst ≠ 0xFFFF ∧ (calInstances s.sys.role d).contains inst = false) ∧
          ¬(s.cal.run.isSome ∨ s.rep.st ≠ 0)) 0 [])
      (cmd [4294901761]) (dev .tile .ready) ∧
    meetsRun opCalStatus .calStatus (fun c s =>
        True)
      (cmd []) (dev .tile .ready) := by
  and_intros <;> decide +kernel

/-- A state and operands that meet the hypotheses of each clause of `Obligations.ImageCommandsComplete`. -/
theorem witness_ImageCommandsComplete :
    meetsRun opImageBegin .imageBegin (fun c s =>
        let total := pw c 0
        let w := pw c 1
        total % 4 = 0 ∧ 516 ≤ total ∧ total ≤ 16773632 ∧ runningTrial s = false ∧ s.img.forward = none ∧ (s.img.session.isSome ∨ s.img.eraseOnly → bit w 16 = true))
      (cmd [516, 0]) (dev .tile .ready) ∧
    meetsRun opImageChunk .imageChunk ((fun x => fun c s =>
        let n := c.len - 2
        3 ≤ c.len ∧ s.img.session = some x ∧ x.id = pw c 1 % 65536 ∧ pw c 0 = x.got.length ∧ pw c 0 + 4 * n ≤ x.total ∧ slotOff (pw c 0 + 4 * n - 1) + 1 ≤ s.img.erased) ⟨0, 516, []⟩)
      (cmd [0, 0, 0]) { dev .tile .ready with img.session := some ⟨0, 516, []⟩, img.erased := 65536 } ∧
    meetsRun opImageChunk .imageChunk ((fun x => fun c s =>
        let n := c.len - 2
        3 ≤ c.len ∧ s.img.session = some x ∧ x.id = pw c 1 % 65536 ∧ pw c 0 + 4 * n ≤ x.got.length) ⟨0, 516, [0, 0, 0, 0]⟩)
      (cmd [0, 0, 0]) { dev .tile .ready with img.session := some ⟨0, 516, [0, 0, 0, 0]⟩ } ∧
    meetsRun opImageEnd .imageEnd ((fun x => fun c s =>
        s.img.session = some x ∧
          ¬(x.id ≠ pw c 0 % 65536 ∨ x.got.length < x.total) ∧
          ¬(s.img.verifying.isSome)) ⟨0, 0, []⟩)
      (cmd [0]) { dev .tile .ready with img.session := some ⟨0, 0, []⟩ } ∧
    meetsRun opImageActivate .imageActivate (fun c s =>
        let mode := pw c 0 % 4
        let timed := bit (pw c 0) 2
        let t := unshort (sysTicks s) (pw c 2 % 65536 * 2 ^ 32 + pw c 1)
        let now : Int := nowSys s
        ¬(s.sys.role = .bed ∧ s.sys.st ≠ .standby ∧ s.sys.st ≠ .hold) ∧
          ¬(c.len ≠ 3) ∧
          ¬((imgSlot s (idleSlot s)).st ≠ 2) ∧
          ¬(1 < mode ∨ (mode = 0 ∧ (imgSlot s (idleSlot s)).hdr.abi ≠ (runHdr s).abi)) ∧
          ¬(timed ∧ (t < now + msTicks ∨ now + 60 * secTicks < t)) ∧
          ¬(runningTrial s ∨ imgBusy s ∨ s.img.act.isSome ∨ othersInFlight s c.tag) ∧
          ¬(pairActive s))
      (cmd [1, 0, 0]) { dev .tile .ready with img.b.st := 2 } ∧
    meetsRun opImageConfirm .imageConfirm (fun c s => runningTrial s = false)
      (cmd []) (dev .tile .ready) ∧
    meetsRun opImageConfirm .imageConfirm (fun c s => runningTrial s = true ∧ s.img.selftest = 1)
      (cmd []) { dev .tile .ready with img.a.st := 3, img.selftest := 1 } ∧
    meetsRun opImageForward .imageForward ((fun d => fun c s =>
        let depth := pw c 0 % 256
        let runs := bit (pw c 0) 8
        let st := (imgSlot s (idleSlot s)).st
        let nb := neighbour s
        ¬(depth = 0 ∨ depth = 255 ∨ (runs = false ∧ st ≠ 2 ∧ st ≠ 4) ∨ (runs ∧ runningTrial s)) ∧
          ¬(imgBusy s) ∧
          nb.2 = some d ∧
          ¬(portLocked s nb.1 = false)) 1)
      (cmd [1]) { dev .tile .ready with sys.unassigned := false, img.b.st := 2, link.tile.activeUp := 0, link.tile.placed := true, link.ports := [(1, { WPort.cold with lockedAt := some 0 })] } ∧
    meetsRun opImageStatus .imageStatus (fun c s =>
        True)
      (cmd []) (dev .tile .ready) := by
  and_intros <;> decide +kernel

/-- A state and operands that meet the hypotheses of each clause of `Obligations.LaneCommandsComplete`. -/
theorem witness_LaneCommandsComplete :
    meetsRun opLaneStatus .laneStatus (fun c s =>
        let first := pw c 0 % 16
        let n := bits (pw c 0) 4 3
        ¬(n = 0 ∨ 16 < first + n))
      (cmd [16]) (dev .tile .ready) ∧
    meetsRun opLaneLoopback .laneLoopback (fun c s =>
        let w := pw c 0
        let l := w % 16
        bits w 4 3 ≤ 3 ∧ bits w 8 4 ≤ 4 ∧ fenced s 1 l = false ∧ ((pamPattern (bits w 8 4) && laneModeOf s l == 2) || (nrzPattern (bits w 8 4) && laneModeOf s l != 2)) = false ∧ bits w 4 3 ≠ 0)
      (cmd [16]) (dev .tile .standby) ∧
    meetsRun opLaneLoopback .laneLoopback (fun c s =>
        let w := pw c 0
        let l := w % 16
        bits w 4 3 = 0 ∧ bits w 8 4 ≤ 4 ∧ fenced s 1 l = false ∧ ((pamPattern (bits w 8 4) && laneModeOf s l == 2) || (nrzPattern (bits w 8 4) && laneModeOf s l != 2)) = false)
      (cmd [0]) (dev .tile .standby) ∧
    meetsRun opLaneBitslip .laneBitslipTest (fun c s =>
        let w := pw c 0
        let l := w % 16
        let x := lane s l
        isWotor s l = true ∧ x.st ≠ 2 ∧ fenced s 1 l = false ∧ bits w 8 2 = 0)
      (cmd [0]) (dev .tile .service) ∧
    meetsRun opLaneBitslip .laneBitslipSlip (fun c s =>
        let w := pw c 0
        let l := w % 16
        let x := lane s l
        isWotor s l = true ∧ x.st ≠ 2 ∧ fenced s 1 l = false ∧ (bits w 8 2 = 1 ∧ w / 65536 ≤ 5439 ∧ (x.mode = 2 ∨ w / 65536 % 2 = 0)))
      (cmd [256]) (dev .tile .service) ∧
    meetsRun opLaneBitslip .laneBitslipAuto (fun c s =>
        let w := pw c 0
        let l := w % 16
        isWotor s l = true ∧ (lane s l).st ≠ 2 ∧ fenced s 1 l = false ∧ bits w 8 2 = 2)
      (cmd [512]) (dev .tile .service) ∧
    meetsRun opLaneEyeScan .laneEyeScanStart (fun c s =>
        let w := pw c 0
        let l := w % 16
        let x := lane s l
        bit w 31 = false ∧ 6 ≤ bits w 16 4 ∧ bits w 16 4 ≤ 12 ∧ bits w 13 3 ≤ 4 ∧ bits w 10 3 ≤ 4 ∧ bits w 8 2 ≠ 3 ∧
        scanPoints (bits w 13 3) (bits w 10 3) ≤ 1024 ∧ ¬(bits w 8 2 ≠ 0 ∧ x.mode = 2) ∧ x.st = 5 ∧ quadScan s l = false)
      (cmd [430080, 0]) { dev .tile .ready with lanes.lane := [(0, { Lane.cold with st := 5 })] } ∧
    meetsRun opLaneEyeScan .laneEyeScanRead (fun c s => bit (pw c 0) 31 = true)
      (cmd [2147483648, 0]) (dev .tile .ready) := by
  and_intros <;> decide +kernel

/-- A state and operands that meet the hypotheses of each clause of `Obligations.HostRegistersComplete`. -/
theorem witness_HostRegistersComplete :
    meets (.mbxDoorbell 0) ((fun (n : Nat) => fun s => ¬(8 ≤ n ∨ s.sys.st = .reset)) 0)
      (dev .tile .ready) ∧
    meets .commandResponse ((fun r => fun s => findResp (fun r => r.path != 8) s.cmds.responses = some r) ⟨0, 0, false, 1, true, false, []⟩)
      { dev .tile .ready with cmds.responses := [⟨0, 0, false, 1, true, false, []⟩] } ∧
    meets (.crTailWrite 0) ((fun (v : Nat) => fun s => ringRole s = true) 0)
      (dev .sender .ready) ∧
    meets (.ringEntryFetch []) ((fun (e : List Word) => fun s => ¬(canFetch s = false)) [])
      { dev .tile .ready with regs.cr.running := true, regs.cr.effSize := 8, regs.cr.hostIx := 1 } ∧
    meets .ringResponseWrite ((fun r => fun s =>
        findResp (fun r => r.path == 8) s.cmds.responses = some r ∧
          ¬(s.regs.cr.dmaError)) ⟨8, 0, false, 1, true, false, []⟩)
      { dev .tile .ready with cmds.responses := [⟨8, 0, false, 1, true, false, []⟩] } ∧
    meets (.crCtrlWrite 0) ((fun (v : Nat) => fun s => ringRole s = true) 0)
      (dev .sender .ready) ∧
    meets (.eqCtrlWrite 0) ((fun (v : Nat) => fun s => ringRole s = true) 0)
      (dev .sender .ready) ∧
    meets (.eqHeadWrite 0) ((fun (v : Nat) => fun s => ringRole s = true) 0)
      (dev .sender .ready) ∧
    meets .eventRecordWrite ((fun r rest => fun s =>
        s.evs.held = r :: rest ∧
          ¬(eqRoom s = false ∨ s.sys.notReady)) [] [])
      { dev .tile .ready with evs.held := [[]], regs.eq.running := true, regs.eq.effSize := 4 } ∧
    meets .eventCoalesceExpiry ((fun t => fun s =>
        s.evs.coalesceUntil = some t ∧
          ¬(s.time.loc < t)) 0)
      { dev .tile .ready with evs.coalesceUntil := some 0 } ∧
    meets (.ringDmaError false) ((fun (queue : Bool) => fun _ => True) false)
      (dev .tile .ready) ∧
    meets .eqStatusRead (fun _ => True)
      (dev .tile .ready) ∧
    meets (.irqStatusWrite 0) ((fun (v : Nat) => fun _ => True) 0)
      (dev .tile .ready) ∧
    meets (.mbxStatusWrite 0 0) ((fun (n : Nat) (v : Nat) => fun s => ¬(8 ≤ n)) 0 0)
      (dev .tile .ready) ∧
    meets .timeLatch (fun _ => True)
      (dev .tile .ready) := by
  and_intros <;> decide +kernel

/-- A state and operands that meet the hypotheses of each clause of `Obligations.HostPathsComplete`. -/
theorem witness_HostPathsComplete :
    meets (.registerWrite 0 0 0) ((fun (off : Nat) (width : Nat) (v : Nat) => fun s => ¬(s.sys.st = .reset)) 0 0 0)
      (dev .tile .ready) ∧
    meets (.bar2Write 0 []) ((fun (off : Nat) (data : List Byte) => fun s => ¬(bar2Reaches s off data.length = false)) 0 [])
      (dev .sender .ready) ∧
    meets (.bar2Read 0 0) ((fun (off : Nat) (n : Nat) => fun s => ¬(bar2Reaches s off (4 * n) = false)) 0 0)
      (dev .sender .ready) ∧
    meets (.spiTransaction []) ((fun (l : List Byte) => fun s =>
        let off := (l.getD 1 0).toNat * 256 + (l.getD 2 0).toNat
        ¬(s.sys.role ≠ .tile ∨ s.sys.st = .reset) ∧
          ¬(off % 4 ≠ 0)) [])
      (dev .tile .ready) ∧
    meets (.serviceDatagram 0 1 0 0 []) ((fun (origin : Nat) (version : Nat) (kind : Nat) (seq : Nat) (words : List Word) => fun s => ¬(version ≠ 1 ∨ kind ≠ 0 ∨ s.sys.st = .reset)) 0 1 0 0 [])
      (dev .tile .ready) ∧
    meets (.serviceArp 1 2) ((fun (ip asker : Nat) => fun s => ¬(s.sys.notReady ∨ ip ≠ serviceIp s)) 1 2)
      { dev .tile .ready with keys.eff := [(0, some [1, 0, 0, 0])] } ∧
    meets .serviceEventDatagram (fun s => ¬(s.sys.notReady ∨ s.evs.svc.isEmpty ∨ eqEnabled s ∨ keyU s 0x0002 0 4 = 0))
      { dev .tile .ready with evs.svc := [[]], keys.eff := [(2, some [1, 0, 0, 0])] } ∧
    meets .pcieLinkLoss (fun s => ¬(s.sys.role = .tile))
      (dev .sender .ready) ∧
    meets .pcieHotReset (fun _ => True)
      (dev .tile .ready) ∧
    meets .pcieLinkUp (fun s => ¬(s.sys.role = .tile ∨ s.sys.st = .reset))
      (dev .sender .ready) := by
  and_intros <;> decide +kernel

/-- A state and operands that meet the hypotheses of each clause of `Obligations.ResetAndStartEventsComplete`. -/
theorem witness_ResetAndStartEventsComplete :
    meets (.warmResetDelayExpiry ⟨true, true, true, true, 0, true, true⟩) ((fun (o : BootObs) t => fun s =>
        s.sys.warmAt = some t ∧
          ¬(s.time.loc < t)) ⟨true, true, true, true, 0, true, true⟩ 0)
      { dev .tile .ready with sys.warmAt := some 0 } ∧
    meets .wrstNAssert (fun _ => True)
      (dev .tile .ready) ∧
    meets (.wrstNRelease ⟨true, true, true, true, 0, true, true⟩) ((fun (o : BootObs) => fun s => ¬(s.sys.wrstLow = false)) ⟨true, true, true, true, 0, true, true⟩)
      { dev .tile .ready with sys.wrstLow := true } ∧
    meets (.dramTrainingDone false false) ((fun (ok7500 : Bool) (ok6400 : Bool) => fun s => ¬(s.sys.role = .tile ∨ s.sys.st = .reset ∨ s.sys.st = .boot ∨ s.sys.dramTrained ∨ s.sys.dramFailed)) false false)
      (dev .sender .ready) ∧
    meets (.firmwareUp [] [] []) ((fun (bad : List (Nat × Bool)) (lines : List (Nat × List Nat × List Nat)) (ests : List (Nat × Int)) => fun s => ¬(s.sys.st ≠ .boot ∨ s.img.running = none ∨ s.sys.bootHold)) [] [] [])
      (dev .tile .boot) ∧
    meets (.selftestDone 0 ⟨true, true, true, true, 0, true, true⟩) ((fun (n : Nat) (o : BootObs) => fun s => ¬(runningTrial s = false ∨ s.img.selftest ≠ 0 ∨ s.sys.notReady)) 0 ⟨true, true, true, true, 0, true, true⟩)
      { dev .tile .ready with img.a.st := 3, img.selftest := 0 } ∧
    meets (.trialWatchdogExpiry ⟨true, true, true, true, 0, true, true⟩) ((fun (o : BootObs) t => fun s =>
        s.img.trialAt = some t ∧
          ¬(runningTrial s = false ∨ s.time.loc < t + 30 * secTicks)) ⟨true, true, true, true, 0, true, true⟩ 0)
      { dev .tile .ready with img.a.st := 3, img.trialAt := some 0, time.loc := 30 * secTicks } ∧
    meets (.activationInstant ⟨true, true, true, true, 0, true, true⟩) ((fun (o : BootObs) a => fun s =>
        s.img.act = some a ∧
          ¬(s.img.pauseAt.isSome ∨ s.sys.st = .boot ∨ activationCome s a = false)) ⟨true, true, true, true, 0, true, true⟩ ⟨1, 0, none⟩)
      { dev .tile .ready with img.act := some ⟨1, 0, none⟩ } ∧
    meets .readyAutomatic (fun s => ¬(pausing s))
      (dev .tile .ready) ∧
    meets .liveRestartEnd ((fun (t : Nat) (a : Activation) => fun s => s.img.pauseAt = some t ∧ s.img.act = some a ∧ s.img.running ≠ none) 0 ⟨1, 0, none⟩)
      { dev .tile .ready with img.act := some ⟨1, 0, none⟩, img.pauseAt := some 0 } := by
  and_intros <;> decide +kernel

/-- A state and operands that meet the hypotheses of each clause of `Obligations.ImageEventsComplete`. -/
theorem witness_ImageEventsComplete :
    meets (.imageVerified true true) ((fun (sigOk : Bool) (hashOk : Bool) tag x => fun s =>
        s.img.verifying = some tag ∧
          s.img.session = some x) true true 1 ⟨1, 516, []⟩)
      { dev .tile .ready with img.verifying := some 1, img.session := some ⟨1, 516, []⟩ } ∧
    meets (.forwardChunkResponse 1 0) ((fun (tag : Nat) (status : Nat) f => fun s => s.img.forward = some f) 1 0 ⟨0, 0, [], 0, 0, 0, [], 0⟩)
      { dev .tile .ready with img.forward := some ⟨0, 0, [], 0, 0, 0, [], 0⟩ } ∧
    meets (.forwardDone 0) ((fun (status : Nat) f => fun s => s.img.forward = some f) 0 ⟨0, 0, [], 0, 0, 0, [], 0⟩)
      { dev .tile .ready with img.forward := some ⟨0, 0, [], 0, 0, 0, [], 0⟩ } ∧
    meets (.flashEraseDone 4096) ((fun (n : Nat) => fun s => ¬(s.img.session.isNone ∧ s.img.eraseOnly = false)) 4096)
      { dev .tile .ready with img.eraseOnly := true } := by
  and_intros <;> decide +kernel

/-- A state and operands that meet the hypotheses of each clause of `Obligations.FaultEventsComplete`. -/
theorem witness_FaultEventsComplete :
    meets (.spillwayFiring 0 0 0 0) ((fun (src : Nat) (inst : Nat) (detail : Nat) (line : Nat) => fun s => ¬(45 < src ∨ s.sys.st = .reset)) 0 0 0 0)
      (dev .tile .ready) ∧
    meets .injectionWindowClose ((fun j => fun s =>
        s.spill.injection = some j ∧
          ¬(s.time.loc < j.endAt)) ⟨0, 0, false, 0, false⟩)
      { dev .tile .ready with spill.injection := some ⟨0, 0, false, 0, false⟩ } ∧
    meets .dieLinkFramingLoss (fun s => s.sys.dieFramed = true)
      (dev .tile .ready) ∧
    (dev .tile .reset).sys.role ≠ .factory ∧ (dev .tile .reset).sys.st = .reset ∧ (dev .tile .reset).sys.dieFramed = true ∧
    meets (.sramEccError false 0 0 0 0 0) ((fun (uncorr : Bool) (table : Nat) (i : Nat) (kind : Nat) (inst : Nat) (word : Nat) => fun s => ¬(s.sys.st = .reset)) false 0 0 0 0 0)
      (dev .tile .ready) ∧
    meets (.switchStageFault 0 1) ((fun (n : Nat) (cause : Nat) => fun s => ¬(12 ≤ n ∨ (stage s n).mode = 0 ∨ s.sys.role = .sender)) 0 1)
      { dev .tile .ready with lamps.stage := [(0, { Stage.cold with mode := 3 })] } ∧
    meets (.tapInstruction 0 false) ((fun (ir : Nat) (valid : Bool) => fun _ => True) 0 false)
      (dev .tile .ready) ∧
    meets (.clockRootLoss false) ((fun (refclk : Bool) => fun s => ¬(s.sys.st = .reset)) false)
      (dev .tile .ready) ∧
    meets (.clockDerivedFail 0) ((fun (clock : Nat) => fun s => ¬(s.sys.st = .reset ∨ 3 < clock)) 0)
      (dev .tile .ready) ∧
    meets (.supplyOutOfWindow ⟨9, 5351⟩) ((fun (supply : SupplyObs) => fun s =>
        ¬(s.sys.porstLow ∨ 9 < supply.supply ∨ outsideWindow s supply.supply supply.mv = false)) ⟨9, 5351⟩)
      (dev .tile .ready) ∧
    meets (.supervisorFault false) ((fun (watchdog : Bool) => fun s => ¬(s.sys.st = .reset)) false)
      (dev .tile .ready) ∧
    meets (.dramEccUncorr 0 0 64) ((fun (kind inst addr : Nat) => fun s => ¬(s.sys.st = .reset ∨ s.sys.role = .tile ∨ s.sys.dramTrained = false)) 0 0 64)
      { dev .sender .ready with sys.dramTrained := true } ∧
    meets .dieLinkFramed (fun s => ¬(s.sys.st = .reset))
      (dev .tile .ready) := by
  and_intros <;> decide +kernel

/-- A state and operands that meet the hypotheses of each clause of `Obligations.CaptureEventsComplete`. -/
theorem witness_CaptureEventsComplete :
    meets .captureOrigin (fun s => (s.cap.startMode = 3 ∧ s.cap.startTime ≤ sysTicks s))
      { dev .tile .ready with cap.startMode := 3 } ∧
    meets .captureCheckpoint (fun s =>
        ¬(capRuns s = false ∨ s.cap.wrap = false ∨ s.time.loc < s.cap.lastCkpt + keyU s 0x0D01 0 2 * msTicks ∨
          (s.sys.role = .bed ∧ frameNumber s (buildNow s) % 1024 ≠ 0)))
      { dev .tile .ready with cap.state := 2, cap.wrap := true, time.loc := 10 ^ 20 } ∧
    meets (.captureEnd 0) ((fun (lost : Nat) => fun s => ¬(capRuns s = false)) 0)
      { dev .tile .ready with cap.state := 2 } ∧
    meets .replayDone (fun s => (s.rep.st = 3 ∧ s.sys.role ≠ .tile))
      { dev .sender .ready with rep.st := 3 } := by
  and_intros <;> decide +kernel

/-- A state and operands that meet the hypotheses of each clause of `Obligations.TimeEventsComplete`. -/
theorem witness_TimeEventsComplete :
    meets (.ptpMessage 0 0 true false 0 1 0 0 0 0 0) ((fun (port : Nat) (kind : Nat) (credit : Bool) (twoStep : Bool) (domain : Nat) (clock : Nat) (rank : Nat) (seq : Nat) (stamp : Nat) (time : Nat) (corr : Int) => fun s => ¬(s.sys.st = .reset ∨ portOn s port = false ∨ (srcPort s port).up = false)) 0 0 true false 0 1 0 0 0 0 0)
      { dev .sender .ready with keys.eff := [(0x0100, some [1, 1, 1, 1])], lanes.src := [(0, { SrcPort.cold with up := true })] } ∧
    meets (.ptpAnnounceTimeout 0) ((fun (port : Nat) => fun s => ¬(portOn s port = false ∨ (ptp s port).valid = false)) 0)
      { dev .sender .ready with keys.eff := [(0x0100, some [1, 1, 1, 1])], time.ports := [(0, { PtpPort.cold with valid := true })] } ∧
    meets (.ptpDelayReqSend 0 0) ((fun (port stamp : Nat) => fun s =>
        let x := ptp s port
        ¬(portOn s port = false ∨ (srcPort s port).up = false ∨ x.valid = false)) 0 0)
      { dev .sender .ready with keys.eff := [(0x0100, some [1, 1, 1, 1])], lanes.src := [(0, { SrcPort.cold with up := true })], time.ports := [(0, { PtpPort.cold with valid := true })] } ∧
    meets (.syncTimeCell 0 0 0 0 0) ((fun (port : Nat) (at_ : Nat) (root : Nat) (flags : Nat) (stamp : Nat) => fun s => ¬(s.sys.st = .reset)) 0 0 0 0 0)
      (dev .tile .ready) ∧
    meets (.delayRequestCell 0 1 0 0 0 0 0) ((fun (port probe t1 src bitB arrival departure : Nat) => fun s => ¬(s.sys.st = .reset ∨ portLocked s port = false ∨ mayInsert s port = false)) 0 1 0 0 0 0 0)
      { dev .tile .ready with link.ports := [(0, { WPort.cold with lockedAt := some 0 })] } ∧
    meets (.delayResponseCell 0 0 0 0 0 0) ((fun (port probe t1 t2 t3 arrival : Nat) d1 deadline => fun s =>
        let x := delayOf s port
        x.sent = some (d1, deadline) ∧
          ¬(probe ≠ x.probe)) 0 0 0 0 0 0 0 0)
      { dev .tile .ready with time.delays := [(0, { DelayPort.cold with sent := some (0, 0) })] } ∧
    meets (.delayPeriodExpiry 0 0) ((fun (port stamp : Nat) => fun s =>
        let x := delayOf s port
        ¬(portLocked s port = false ∨ mayInsert s port = false ∨ (x.lastReq ≠ 0 ∧ s.time.loc < x.lastReq - 1 + keyU s 0x0302 0 4 * usTicks))) 0 0)
      { dev .tile .ready with link.ports := [(0, { WPort.cold with lockedAt := some 0 })] } ∧
    meets (.delayAnswerTimeout 0) ((fun (port : Nat) deadline u11 => fun s =>
        (delayOf s port).sent = some (u11, deadline) ∧
          (deadline ≤ s.time.loc)) 0 0 0)
      { dev .tile .ready with time.delays := [(0, { DelayPort.cold with sent := some (0, 0) })] } ∧
    meets .pathTableUpdate (fun s => ¬(s.sys.role ≠ .sender ∨ s.sys.st = .reset ∨ s.sys.st = .boot))
      (dev .sender .ready) ∧
    meets (.syncTimeSend 0 0) ((fun (port stamp : Nat) => fun s =>
        let last := tabGet 0 s.time.syncSent port
        let period := keyU s 0x0301 0 2 * codeword100 (wport s port).rate / 100
        ¬(originates s port = false ∨ s.sys.st = .boot ∨ s.sys.st = .reset ∨ (last ≠ 0 ∧ s.time.loc < last - 1 + period))) 0 0)
      (dev .sender .ready) ∧
    meets .timeSamplePort (fun s => ¬(s.time.source ≠ 1 ∨ s.sys.role ≠ .sender ∨ pausing s ∨ s.time.loc < s.time.portTick + msTicks))
      { dev .sender .ready with time.source := 1, time.loc := msTicks } ∧
    meets .holdoverEntry (fun s => ¬(s.sys.st = .reset ∨ s.time.loc < s.time.lastSample + 16 * samplePeriod s))
      { dev .tile .ready with time.loc := 10 ^ 20 } ∧
    meets .holdoverLimitExpiry (fun s => ¬(s.time.holdover = false ∨ s.time.limitFired ∨ holdTime s < keyU s 0x0307 0 2 * msTicks))
      { dev .tile .ready with time.holdover := true, time.holdCounted := 66 * secTicks } ∧
    meets .processTimeLimit (fun s => (s.sys.role = .bed ∧ s.time.process = 2 ^ 48 - 1 ∧ s.time.processFull = false))
      { dev .bed .ready with time.process := 2 ^ 48 - 1 } ∧
    meets .tileStepApply (fun s => ¬(s.time.pendStep.isNone))
      { dev .tile .ready with time.pendStep := some 0 } ∧
    meets .freeSourceLockDelay (fun s => (s.time.source = 0 ∧ s.sys.st ≠ .reset ∧ s.time.resetAt + msTicks ≤ s.time.loc))
      { dev .tile .ready with time.source := 0, time.loc := msTicks } ∧
    meets .hopDelay (fun s => let news := match s.time.hopLast with
          | none => bothKnown s && (portLocked s 0 || portLocked s 1)
          | some l => movedBy (keyU s 0x0309 0 1) (hopReport s) l
        s.sys.role = .tile ∧ news = true ∧ ¬(s.time.hopLast.isSome ∧ s.time.loc < s.time.hopAt + 100 * msTicks))
      { dev .tile .ready with time.hopLast := some [0, 0, 0, 0], time.loc := secTicks } := by
  and_intros <;> decide +kernel

/-- A state and operands that meet the hypotheses of each clause of `Obligations.WindowEventsComplete`. -/
theorem witness_WindowEventsComplete :
    meets .windowOpen (fun s => ((List.range 16).any (opensNow s)))
      { dev .tile .ready with time.windows := [(0, { Window.cold with enable := true, stop := 2 ^ 40 })] } ∧
    meets .windowClose (fun s => ((List.range 16).any (closesNow s)))
      { dev .tile .ready with time.windows := [(0, { Window.cold with enable := true, isOpen := true })] } ∧
    meets .fsyncInEdge (fun s => ¬(s.sys.role ≠ .sender ∨ s.sys.st = .reset))
      (dev .sender .ready) := by
  and_intros <;> decide +kernel

/-- A state and operands that meet the hypotheses of each clause of `Obligations.LaneEventsComplete`. -/
theorem witness_LaneEventsComplete :
    meets (.laneLossOfSignal 0) ((fun (l : Nat) => fun s =>
        let x := lane s l
        ¬(x.st = 0 ∨ x.los)) 0)
      { dev .tile .ready with lanes.lane := [(0, { Lane.cold with st := 2 })] } ∧
    meets (.laneSignalReturn 0) ((fun (l : Nat) => fun s =>
        let x := lane s l
        ¬(x.st = 0 ∨ x.los = false)) 0)
      { dev .tile .ready with lanes.lane := [(0, { Lane.cold with st := 2, los := true })] } ∧
    meets (.linkTrainingDone 0 100 0 0 [] [] 0 false false false) ((fun (l eye ctle : Nat) (vga : Int) (dfe txffe : List Int) (snr : Int) (tap1Over preAsked markAsked : Bool) => fun s =>
        let x := lane s l
        ¬(x.st ≠ 2 ∨ x.los ∨ eye < x.eqGoal)) 0 100 0 0 [] [] 0 false false false)
      { dev .tile .ready with lanes.lane := [(0, { Lane.cold with st := 2 })] } ∧
    meets (.trainingTimeout 0 0) ((fun (l cause : Nat) => fun s =>
        let x := lane s l
        ¬(x.st ≠ 2 ∨ s.time.loc < x.trainAt + 5 * msTicks)) 0 0)
      { dev .tile .ready with lanes.lane := [(0, { Lane.cold with st := 2 })], time.loc := 5 * msTicks } ∧
    meets .rateSearchDwellExpiry (fun s =>
        let x := lane s 0
        ¬(s.sys.role ≠ .tile ∨ x.st ≠ 2 ∨ s.time.loc < x.dwellAt + 4 * msTicks))
      { dev .tile .ready with lanes.lane := [(0, { Lane.cold with st := 2 })], time.loc := 4 * msTicks } ∧
    meets (.alignmentAttempt 0 0 [14]) ((fun (l at_ : Nat) (results : List Nat) => fun s =>
        let x := lane s l
        ¬(x.st ≠ 3 ∨ x.found ∨ isWotor s l = false ∨ x.position ≠ at_)) 0 0 [14])
      { dev .tile .ready with lanes.lane := [(0, { Lane.cold with st := 3 })] } ∧
    meets (.markerHit 0 ⟨0, markLine⟩) ((fun (l : Nat) (hit : HitObs) => fun s =>
        let x := lane s l
        ¬(x.st ≠ 4 ∨ x.found ∨ markFound hit.line = false)) 0 ⟨0, markLine⟩)
      { dev .tile .ready with lanes.lane := [(0, { Lane.cold with st := 4 })] } ∧
    meets (.markerHuntTimeout 0) ((fun (l : Nat) => fun s =>
        let x := lane s l
        ¬(x.st ≠ 4 ∨ x.found ∨ s.time.loc < x.huntAt + 8 * markerTicks x.mode)) 0)
      { dev .tile .ready with lanes.lane := [(0, { Lane.cold with st := 4 })], time.loc := 10 ^ 20 } ∧
    meets (.laneLock 0) ((fun (l : Nat) p => fun s =>
        let x := lane s l
        ¬(x.found = false ∨ x.cleanRun < 1024 ∨ (x.st ≠ 3 ∧ x.st ≠ 4)) ∧
          laneUse s l = .wotor p) 0 0)
      { dev .tile .ready with lanes.lane := [(0, { Lane.cold with st := 3, found := true, cleanRun := 1024 })] } ∧
    meets (.laneLockLoss 0) ((fun (l : Nat) => fun s =>
        let x := lane s l
        ¬(x.uncorrRun < 8 ∨ isWotor s l = false)) 0)
      { dev .tile .ready with lanes.lane := [(0, { Lane.cold with st := 5, uncorrRun := 8 })] } ∧
    meets (.densityWindowEnd 0 ⟨0, 0⟩) ((fun (l : Nat) (window : DensityObs) => fun s0 => (lane (countErrors s0 l window.errors) l).st ≠ 0) 0 ⟨0, 0⟩)
      { dev .tile .ready with lanes.lane := [(0, { Lane.cold with st := 5 })] } ∧
    meets (.adaptationStep 0 0 0 [] 0) ((fun (l : Nat) (dCtle : Int) (dVga : Int) (dDfe : List Int) (snr : Int) => fun s =>
        let x := lane s l
        ¬(x.st = 0)) 0 0 0 [] 0)
      { dev .tile .ready with lanes.lane := [(0, { Lane.cold with st := 5 })] } ∧
    meets (.snapshotPeriodExpiry 0) ((fun (l : Nat) => fun _ => True) 0)
      (dev .tile .ready) ∧
    meets (.driftCheck 0) ((fun (l : Nat) p => fun s =>
        let x := lane s l
        x.snap = some p ∧
          ¬(x.st ≠ 5 ∨ s.time.loc < x.driftAt + msTicks)) 0 ⟨0, 0, [], 0⟩)
      { dev .tile .ready with lanes.lane := [(0, { Lane.cold with st := 5, snap := some ⟨0, 0, [], 0⟩ })], time.loc := msTicks } ∧
    meets (.laneFault 0 0) ((fun (l : Nat) (cause : Nat) => fun _ => True) 0 0)
      (dev .tile .ready) ∧
    meets (.eyeScanDone 0 []) ((fun (l : Nat) (codes : List Nat) => fun s =>
        let e := tabGet EyeScan.cold s.lanes.scans l
        ¬(e.running = false)) 0 [])
      { dev .tile .ready with lanes.scans := [(0, { EyeScan.cold with running := true })] } ∧
    meets (.hourlyEyeScan 0 0) ((fun (l : Nat) (eye : Nat) => fun s =>
        let x := lane s l
        ¬(x.st ≠ 5 ∨ quadScan s l ∨ (x.eyeAt ≠ 0 ∧ s.time.loc < x.eyeAt - 1 + 3600 * secTicks))) 0 0)
      { dev .tile .ready with lanes.lane := [(0, { Lane.cold with st := 5 })] } := by
  and_intros <;> decide +kernel

/-- A state and operands that meet the hypotheses of each clause of `Obligations.SourcePortEventsComplete`. -/
theorem witness_SourcePortEventsComplete :
    meets (.sourcePortStart 0) ((fun (p : Nat) => fun s => ¬(portOn s p = false ∨ s.sys.st = .reset ∨ s.sys.st = .boot ∨ 4 ≤ p)) 0)
      { dev .sender .ready with keys.eff := [(0x0100, some [1, 1, 1, 1])] } ∧
    meets (.sourcePortChange 0 true 0 0) ((fun (p : Nat) (lock : Bool) (corrected : Nat) (uncorr : Nat) => fun s => ¬(portOn s p = false ∨ 4 ≤ p)) 0 true 0 0)
      { dev .sender .ready with keys.eff := [(0x0100, some [1, 1, 1, 1])] } ∧
    meets (.ethernetFrame 0 64 true 0 0 0) ((fun (p len : Nat) (fcs : Bool) (dst arpFor asker : Nat) => fun s => ¬(portOn s p = false ∨ (srcPort s p).up = false ∨ 4 ≤ p)) 0 64 true 0 0 0)
      { dev .sender .ready with keys.eff := [(0x0100, some [1, 1, 1, 1])], lanes.src := [(0, { SrcPort.cold with up := true })] } ∧
    meets (.streamPacket 0 0 0 0 0 96 0 false []) ((fun (port vid dst src udp pt ts : Nat) (marker : Bool) (rows : List SampleRow) => fun s => ¬(portOn s port = false ∨ (srcPort s port).up = false ∨ 4 ≤ port)) 0 0 0 0 0 96 0 false [])
      { dev .sender .ready with keys.eff := [(0x0100, some [1, 1, 1, 1])], lanes.src := [(0, { SrcPort.cold with up := true })] } ∧
    meets (.streamTimeout 0) ((fun (k : Nat) x => fun s =>
        stream s k = some x ∧
          ¬(x.lost ∨ s.time.loc < x.lastDone + keyU s 0x0703 0 2 * msTicks)) 0 ⟨⟨0, 0, 0, 0, 0, 16, 16, 60, 1, 96, 0, 8, 0, 0, 0, 0⟩, 0, none, none, 0, false, [], 0, none, false, 0, [], false, 0, false, 0, 0, false, 0, 0⟩)
      { dev .tile .ready with send.streams := [(0, some ⟨⟨0, 0, 0, 0, 0, 16, 16, 60, 1, 96, 0, 8, 0, 0, 0, 0⟩, 0, none, none, 0, false, [], 0, none, false, 0, [], false, 0, false, 0, 0, false, 0, 0⟩)], time.loc := 10 ^ 20 } := by
  and_intros <;> decide +kernel

/-- A state and operands that meet the hypotheses of each clause of `Obligations.SenderLinkEventsComplete`. -/
theorem witness_SenderLinkEventsComplete :
    meets (.replyCell 0 0 1 0 0) ((fun (port : Nat) (frame : Nat) (dev : Nat) (flags : Nat) (lates : Nat) => fun s => ¬(s.sys.role ≠ .sender ∨ 8 ≤ port ∨ portLocked s port = false)) 0 0 1 0 0)
      { dev .sender .ready with link.ports := [(0, { WPort.cold with lockedAt := some 0 })] } ∧
    meets (.mgmtCell 0 0 0 false false 0 0 0 []) ((fun (port kind frag : Nat) (last bc : Bool) (dest src tag : Nat) (data : List Byte) => fun _ => True) 0 0 0 false false 0 0 0 [])
      (dev .tile .ready) ∧
    meets .mgmtMessage ((fun r rest => fun s => s.link.done = r :: rest) ⟨0, 0, 0, 0, 0, []⟩ [])
      { dev .tile .ready with link.done := [⟨0, 0, 0, 0, 0, []⟩] } ∧
    meets (.enumReport 0 1 0 0 0 0 0 0 0) ((fun (port pos dev uid major minor flags straps epoch : Nat) => fun s => ¬(s.sys.role ≠ .sender ∨ 8 ≤ port ∨ portLocked s port = false)) 0 1 0 0 0 0 0 0 0)
      { dev .sender .ready with link.ports := [(0, { WPort.cold with lockedAt := some 0 })] } ∧
    meets (.enumEndTimeout 0) ((fun (n : Nat) => fun s =>
        ¬(s.sys.role ≠ .sender ∨ (casc s n).running = false ∨
          s.time.loc < (casc s n).lastReport + (keyU s 0x0204 0 2 + 1) * msTicks)) 0)
      { dev .sender .ready with link.casc := [(0, { Cascade.cold with running := true })], time.loc := 10 ^ 20 } ∧
    meets (.markCell 0 0 1) ((fun (port seq width : Nat) => fun s => ¬(s.sys.role ≠ .sender ∨ portMode s port ≠ 3 ∨ portLocked s port = false ∨ width ≠ bundleWidth s port)) 0 0 1)
      { dev .sender .ready with keys.eff := [(0x0201, some [3])], link.ports := [(0, { WPort.cold with lockedAt := some 0 })] } ∧
    meets (.bundleChange 0) ((fun (first : Nat) => fun s => ¬(s.sys.role ≠ .sender ∨ portMode s first ≠ 3 ∨ bundleFirst s first ≠ first)) 0)
      { dev .sender .ready with keys.eff := [(0x0201, some [3])] } ∧
    meets (.ringOpen 0) ((fun (port : Nat) => fun s =>
        let w := wport s port
        ¬(s.sys.role ≠ .sender ∨ returnPort s port = false ∨ portLocked s port ∨ w.lostSeen ∨ w.ringUp = false)) 0)
      { dev .sender .ready with keys.eff := [(0x0201, some [2])], link.ports := [(0, { WPort.cold with ringUp := true })] } ∧
    meets (.ringRestored 0) ((fun (port : Nat) t => fun s =>
        let w := wport s port
        w.allFedAt = some t ∧
          ¬(w.returnFeed = false ∨ s.time.loc < t + 2 * secTicks)) 0 0)
      { dev .tile .ready with link.ports := [(0, { WPort.cold with returnFeed := true, allFedAt := some 0 })], time.loc := 2 * secTicks } ∧
    meets .mgmtTimeout (fun _ => True)
      (dev .tile .ready) := by
  and_intros <;> decide +kernel

/-- A state and operands that meet the hypotheses of each clause of `Obligations.TileLinkEventsComplete`. -/
theorem witness_TileLinkEventsComplete :
    meets (.wotorCodeword 0 0 []) ((fun (port fec : Nat) (cells : List (List Byte)) => fun s0 =>
        portExists s0 port = true ∧ portLocked (laneCodeword s0 (portLane s0 port) fec) port = true) 0 0 [])
      { dev .tile .ready with link.ports := [(0, { WPort.cold with lockedAt := some 0 })] } ∧
    meets (.dataCell 0 0) ((fun (port payload : Nat) => fun s =>
        let t := s.link.tile
        ¬(s.sys.role ≠ .tile ∨ port ≠ t.activeUp ∨ portLocked s port = false) ∧ t.rxDone = false ∧ t.rxOn = true) 0 0)
      { dev .tile .ready with link.tile.activeUp := 0, link.tile.rxOn := true, link.ports := [(0, { WPort.cold with lockedAt := some 0 })] } ∧
    meets (.dataCell 0 0) ((fun (port payload : Nat) => fun s =>
        ¬(s.sys.role ≠ .tile ∨ port ≠ s.link.tile.activeUp ∨ portLocked s port = false) ∧ s.link.tile.rxDone = true) 0 0)
      { dev .tile .ready with link.tile.activeUp := 0, link.tile.rxDone := true, link.ports := [(0, { WPort.cold with lockedAt := some 0 })] } ∧
    meets (.frameStartCell 0 0 0 0 0) ((fun (port num w h vm1 : Nat) => fun s => ¬(s.sys.role ≠ .tile ∨ 2 ≤ port ∨ portLocked s port = false ∨ s.sys.st = .reset ∨ s.sys.st = .boot)) 0 0 0 0 0)
      { dev .tile .ready with link.ports := [(0, { WPort.cold with lockedAt := some 0 })] } ∧
    meets (.tileCrcCell 0 0 [(1, 0)]) ((fun (port : Nat) (num : Nat) (crcs : List (Nat × Nat)) p => fun s =>
        ¬(s.sys.role ≠ .tile ∨ port ≠ s.link.tile.activeUp ∨ timelineOn s = false) ∧
          crcs.find? fun p => p.1 == s.link.tile.position = some p ∧
          ¬(s.tl.rx.frame ≠ num % 65536 ∨ s.tl.rx.crc.isSome)) 0 0 [(1, 0)] ((1, 0)))
      { dev .tile .ready with link.tile.activeUp := 0, link.tile.position := 1 } ∧
    meets (.decisionCell 0 0 true) ((fun (port num : Nat) (rep : Bool) => fun s => ¬(s.sys.role ≠ .tile ∨ port ≠ s.link.tile.activeUp ∨ timelineOn s = false)) 0 0 true)
      { dev .tile .ready with link.tile.activeUp := 0 } ∧
    meets (.enumToken 0 1 0 0 false 0) ((fun (port pos sender cascade : Nat) (full : Bool) (epoch : Nat) => fun s => ¬(s.sys.st = .reset ∨ s.sys.st = .boot ∨ portLocked s port = false)) 0 1 0 0 false 0)
      { dev .tile .ready with link.ports := [(0, { WPort.cold with lockedAt := some 0 })] } ∧
    meets (.enumGeometry 0 1 0 0 0 0 0 0 0 0) ((fun (port : Nat) (dest : Nat) (x : Nat) (y : Nat) (rw : Nat) (rh : Nat) (wc : Nat) (hc : Nat) (vm1 : Nat) (epoch : Nat) => fun s => ¬(s.sys.role ≠ .tile ∨ 2 ≤ port ∨ s.link.tile.placed = false ∨ dest ≠ s.sys.deviceId ∨ s.sys.st = .reset ∨ s.sys.st = .boot)) 0 1 0 0 0 0 0 0 0 0)
      { dev .tile .ready with link.tile.placed := true, sys.deviceId := 1 } ∧
    meets (.enumHopTimeout true) ((fun (signal : Bool) => fun s =>
        let t := s.link.tile
        ¬(s.sys.role ≠ .tile ∨ t.placed = false ∨ t.portBOn = false ∨ portLocked s 1 ∨ t.tailReported ∨
          s.time.loc < t.portBSince + 20 * msTicks)) true)
      { dev .tile .ready with link.tile.placed := true, link.tile.portBOn := true, time.loc := 20 * msTicks } ∧
    meets .portBLocked (fun s => ¬(s.sys.role ≠ .tile ∨ s.link.tile.placed = false ∨ s.link.tile.portBOn = false ∨ portLocked s 1 = false ∨ s.link.tile.tokenSentB))
      { dev .tile .ready with link.tile.placed := true, link.tile.portBOn := true, link.ports := [(1, { WPort.cold with lockedAt := some 0 })] } ∧
    meets .upstreamLost (fun s =>
        let a := s.link.tile.activeUp
        ¬(s.sys.role ≠ .tile ∨ s.sys.st = .reset ∨ 2 ≤ a ∨ s.link.tile.fed = false ∨ feeding s a))
      { dev .tile .ready with link.tile.activeUp := 0, link.tile.fed := true } ∧
    meets (.upstreamSwitched 0) ((fun (port : Nat) => fun s =>
        s.sys.role = .tile ∧ port < 2 ∧ port ≠ s.link.tile.activeUp ∧ chooseUp s = port ∧ (wport s port).lastStart = some s.time.loc) 0)
      { dev .tile .ready with link.tile.activeUp := 2, link.ports := [(0, { WPort.cold with lockedAt := some 0, lastStart := some 0 })] } ∧
    meets .holdLimitExpiry (fun s =>
        ¬(s.sys.role ≠ .tile ∨ s.link.tile.holding = false ∨ s.link.tile.expired ∨ feeding s 0 ∨ feeding s 1 ∨
          s.time.loc < s.link.tile.heldSince + keyU s 0x0207 0 2 * msTicks))
      { dev .tile .ready with link.tile.holding := true, time.loc := 10 ^ 20 } ∧
    meets .upstreamLostHeartRepeat (fun s =>
        ¬(s.sys.role ≠ .tile ∨ s.link.tile.holding = false ∨ feeding s 0 ∨ feeding s 1 ∨
          s.time.loc < s.link.tile.lossBeat + msTicks))
      { dev .tile .ready with link.tile.holding := true, time.loc := msTicks } := by
  and_intros <;> decide +kernel

/-- A slot that runs beyond a flip at its tick 45. -/
def cutSlotHere : Slot :=
  { k := 0, frame := 0, line := 0, sub := 0, start := -50, len := 100, recs := [⟨0, false, false, 1, 80⟩], dark := false, stop := none
    cuts := [], held := [], scanStop := none, emitted := true }

/-- The flip that cuts a slot ends it and its pulse (02 R52). -/
theorem test_flip_cuts_slot :
    let s := { dev .tile .run with tl.active := true, tl.nextSlot := 1, tl.flips := [⟨1, -5⟩], tl.start := -50, tl.len := 1000000 }
    (cutSlot s cutSlotHere).len = 45 ∧ (cutSlot s cutSlotHere).recs = [⟨0, false, false, 1, 45⟩] := by
  decide +kernel

/-- A state and operands that meet the hypotheses of each clause of `Obligations.FlipAndEmissionEventsComplete`. -/
theorem witness_FlipAndEmissionEventsComplete :
    meets (.flipCell 0 0 0) ((fun (port : Nat) (num : Nat) (at_ : Nat) => fun s => (port = s.link.tile.activeUp ∧ s.sys.role = .tile)) 0 0 0)
      { dev .tile .ready with link.tile.activeUp := 0 } ∧
    meets .decisionInstant ((fun f => fun s =>
        ¬(timelineOn s = false ∨ s.tl.decided.isSome) ∧
          nextFlip s = some f ∧
          ¬(nowSys s < f.at_ - 50000)) ⟨1, 0⟩)
      { dev .tile .ready with tl.flips := [⟨1, 0⟩] } ∧
    meets .readinessCheck ((fun f => fun s =>
        ¬(timelineOn s = false) ∧
          nextFlip s = some f ∧
          ¬(nowSys s < f.at_ - keyU s 0x0421 0 4 ∨ s.link.tile.activeUp = 2 ∨ fenced s 2 s.link.tile.activeUp ∨ s.link.tile.replied = some f.num)) ⟨1, 0⟩)
      { dev .tile .ready with link.tile.activeUp := 0, tl.flips := [⟨1, 0⟩] } ∧
    meets .flipTime ((fun f => fun s =>
        ¬(timelineOn s = false ∨ s.tl.decided.isNone ∨ s.tl.slot.isSome) ∧
          heldNext s = some f ∧
          (f.at_ ≤ nowSys s)) ⟨1, 0⟩)
      { dev .tile .ready with tl.flips := [⟨1, 0⟩], tl.decided := some true } ∧
    meets .nominalFrameEnd (fun s =>
        ¬(timelineOn s = false ∨ s.tl.active = false ∨ s.tl.nominal = false ∨ s.tl.waiting ∨ s.tl.slot.isSome ∨
          nowSys s < s.tl.start + s.tl.len))
      { dev .tile .ready with tl.active := true, tl.nominal := true } ∧
    meets (.slotBoundary ⟨[], [], [], [], [], []⟩) ((fun (obs : SlotObs) => fun s =>
        let b := s.tl.start + slotAt s.tl.len (slotCount s) s.tl.nextSlot
        timelineOn s = true ∧ s.tl.active = true ∧ s.tl.waiting = false ∧ s.tl.nextSlot < slotCount s ∧ b ≤ nowSys s ∧
          ((heldNext s).all fun f => decide (b < f.at_)) = true) ⟨[], [], [], [], [], []⟩)
      { dev .tile .ready with tl.active := true } ∧
    meets (.slotBoundary ⟨[], [], [], [], [], []⟩) ((fun (obs : SlotObs) sl => fun s => slotDue s = false ∧ s.tl.slot = some sl) ⟨[], [], [], [], [], []⟩ cutSlotHere)
      { dev .tile .run with tl.active := true, tl.nextSlot := 1, tl.flips := [⟨1, -5⟩], tl.start := -50, tl.len := 1000000, tl.slot := some cutSlotHere } ∧
    meets (.slotBoundary ⟨[], [], [], [], [], []⟩) ((fun (obs : SlotObs) => fun s => slotDue s = false ∧ s.tl.slot = none) ⟨[], [], [], [], [], []⟩)
      (dev .tile .ready) ∧
    meets (.slotCompute true) ((fun (inTime : Bool) => fun s => ¬(timelineOn s = false ∨ s.tl.active = false ∨ s.tl.ready.isSome ∨ slotCount s ≤ s.tl.nextSlot)) true)
      { dev .tile .ready with tl.active := true } ∧
    meets (.railLimit 0) ((fun (n : Nat) t => fun s =>
        let x := stage s n
        x.limAt = some t ∧
          (s.sys.role = .tile ∧ x.limRaised = false ∧ t + secTicks ≤ s.time.loc)) 0 0)
      { dev .tile .ready with lamps.stage := [(0, { Stage.cold with limAt := some 0 })], time.loc := secTicks } := by
  and_intros <;> decide +kernel

/-- A state and operands that meet the hypotheses of each clause of `Obligations.ScanOutEventsComplete`. -/
theorem witness_ScanOutEventsComplete :
    meets (.latchPoint 0) ((fun (o : Nat) => fun s => latchDue (sendRest o s) o = true) 0)
      { dev .sender .ready with send.outs := [(0, { Output.cold with started := true })] } ∧
    meets (.outputLine 0 none) ((fun (o : Nat) (under : Option (Nat × Nat)) => fun s =>
        let x := outp s o
        ¬(outputsRun s = false ∨ x.inFrame = false ∨ x.height ≤ x.line ∨ nowSys s < lineStart x x.line)) 0 none)
      { dev .sender .ready with send.outs := [(0, { Output.cold with inFrame := true, height := 1 })] } ∧
    meets (.lineMatch 0) ((fun (o : Nat) => fun s =>
        let x := outp s o
        let j := leAt (keyOut s o (0x0901 + o)) 0 2
        ¬(outputsRun s = false ∨ x.inFrame = false ∨ x.matched ∨ x.height ≤ j ∨ outEventOn s o 1 = false ∨ pairMuted s o ∨ nowSys s < lineStart x j)) 0)
      { dev .sender .ready with send.outs := [(0, { Output.cold with inFrame := true, height := 100 })], keys.eff := [(0x10900, some [2]), (0x10901, some [10, 0])] } ∧
    meets (.frameStartSend 0) ((fun (o : Nat) => fun s =>
        let x := outp s o
        ¬(outputsRun s = false ∨ x.started = false ∨ x.latched = false ∨ x.inFrame ∨ x.resync ∨ nowSys s < x.next - codewordTicks s o)) 0)
      { dev .sender .ready with send.outs := [(0, { Output.cold with started := true, latched := true })] } ∧
    meets (.flipCellSend 0) ((fun (o : Nat) => fun s =>
        let x := outp s o
        ¬(outputsRun s = false ∨ x.started = false)) 0)
      { dev .sender .ready with send.outs := [(0, { Output.cold with started := true })], time.loc := 10 ^ 20 } ∧
    meets (.frameDone 0) ((fun (o : Nat) => fun s =>
        outputsRun (latchPointDue o s) = true ∧ (outp (latchPointDue o s) o).inFrame = true ∧
          activeOver (latchPointDue o s) (outp (latchPointDue o s) o) = true) 0)
      { dev .sender .ready with send.outs := [(0, { Output.cold with started := true, latched := true, inFrame := true })] } ∧
    meets .flipGuardCheck (fun s => ¬(s.sys.role ≠ .sender))
      (dev .sender .ready) ∧
    meets (.frameResync 0) ((fun (o : Nat) => fun s =>
        let x := outp s o
        ¬(outputsRun s = false ∨ x.started = false ∨ x.resync = false ∨ activeOver s x = false)) 0)
      { dev .sender .ready with send.outs := [(0, { Output.cold with started := true, resync := true })] } ∧
    meets .groupDecision ((fun o rest n f later => fun s =>
        ((groupOuts s).filter fun o => (outp s o).started && !pairMuted s o) = o :: rest ∧ outputsRun s = true ∧
          s.send.group.due = (n, f) :: later ∧ f * 256 + groupLag s ≤ nowSys s * 256) 0 [] 1 0 [])
      { dev .sender .ready with keys.eff := [(0x0911, some [1])], send.outs := [(0, { Output.cold with enable := true, started := true })], send.group.due := [(1, 0)], time.sys := 2 ^ 90 } := by
  and_intros <;> decide +kernel

/-- A state and operands that meet the hypotheses of each clause of `Obligations.FretboardEventsComplete`. -/
theorem witness_FretboardEventsComplete :
    meets .wearTransfer ((fun t => fun s =>
        s.fret.lastTransfer = some t ∧
          (timelineOn s ∧ s.tl.active ∧ t + secTicks ≤ s.tl.start)) 0)
      { dev .tile .ready with fret.lastTransfer := some 0, tl.active := true, tl.start := secTicks } ∧
    meets .wearStep (fun s => ¬(s.sys.role ≠ .tile ∨ s.fret.transfers < 60 ∨ capRuns s))
      { dev .tile .ready with fret.transfers := 60 } ∧
    meets .wearSave (fun s => ¬(s.sys.role ≠ .tile ∨ s.sys.st = .boot ∨ s.time.loc < s.fret.lastSave + keyU s 0x0608 0 2 * 60 * secTicks))
      { dev .tile .ready with time.loc := 10 ^ 20 } ∧
    meets .fretboardExchange ((fun k => fun s =>
        s.fret.commit = some k ∧
          (timelineOn s ∧ s.tl.decided.isSome ∧ k.discard = false ∧ s.fret.copying.isNone ∧ k.earliest ≤ s.time.loc)) ⟨false, false, 1, 0⟩)
      { dev .tile .ready with fret.commit := some ⟨false, false, 1, 0⟩, tl.decided := some true } ∧
    meets .fretboardCopyDone ((fun frame k => fun s => s.fret.copying = some frame ∧ s.fret.commit = some k) 0 ⟨false, false, 1, 0⟩)
      { dev .tile .ready with fret.commit := some ⟨false, false, 1, 0⟩, fret.copying := some 0 } ∧
    meets .fretboardPersistDone ((fun img tag rest => fun s => s.fret.persist = (img, tag) :: rest) FbArea.cold 1 [])
      { dev .tile .ready with fret.persist := [(FbArea.cold, 1)] } := by
  and_intros <;> decide +kernel

/-- A state and operands that meet the hypotheses of each clause of `Obligations.JetEventsComplete`. -/
theorem witness_JetEventsComplete :
    meets .buildArmDone (fun s =>
        let b := s.bed.build
        ¬(s.sys.role ≠ .bed ∨ b.st ≠ 2 ∨ (layerStrings s).any (fun n => (stage s n).mode != 3)))
      { dev .bed .ready with bed.build.st := 2 } ∧
    meets .startTick ((fun t => fun s =>
        let b := s.bed.build
        b.startAt = some t ∧
          ¬(buildNow s < t ∨ (b.st ≠ 3 ∧ b.st ≠ 6))) 0)
      { dev .tile .ready with bed.build.st := 3, bed.build.startAt := some 0 } ∧
    meets (.jetBoundary 0) ((fun (h : Nat) => fun s => ¬(s.sys.role ≠ .bed ∨ (s.bed.build.st ≠ 4 ∧ s.bed.build.st ≠ 5) ∨ (layerHeads s).contains h = false ∨ (bhead s h).frozen)) 0)
      { dev .bed .ready with bed.build.st := 4, bed.build.mask := 1, bed.heads := [(0, { BHead.cold with defn := [1] })] } ∧
    meets .runDecision ((fun t h hd bn jets => fun s =>
        let b := s.bed.build
        ¬(s.sys.role ≠ .bed ∨ (b.st ≠ 4 ∧ b.st ≠ 5 ∧ b.startAt.isNone)) ∧
          firstCandidate s = some (t, h) ∧
          ¬(buildNow s < t - 4096) ∧
          candidate s h = some (hd, bn, jets)) 0 0 { BHead.cold with defn := [1] } { BList.cold with count := 1, queue := [(0, [0, 0, 0, 0, 16777216, 0, 0, 0])], relax := true } [(0, [0, 0, 0, 0, 16777216, 0, 0, 0])])
      { dev .bed .ready with bed.build.st := 4, bed.build.mask := 1, bed.heads := [(0, { BHead.cold with defn := [1] })], bed.build.lists := [(0, { BList.cold with count := 1, queue := [(0, [0, 0, 0, 0, 16777216, 0, 0, 0])], relax := true })] } ∧
    meets (.jetQueueRefill 0) ((fun (h : Nat) => fun s =>
        let b := blist s h
        ¬(s.sys.role ≠ .bed ∨ (s.bed.build.st ≠ 4 ∧ s.bed.build.st ≠ 5) ∨ (layerHeads s).contains h = false ∨ b.bad.isSome ∨
          2048 < b.queue.length + 256 ∨ b.count ≤ b.fetched)) 0)
      { dev .bed .ready with bed.build.st := 4, bed.build.mask := 1, bed.heads := [(0, { BHead.cold with defn := [1] })], bed.build.lists := [(0, { BList.cold with count := 1 })] } ∧
    meets (.anchorWaitEnd 0) ((fun (h : Nat) r => fun s =>
        (blist s h).runNext = some r ∧
          (bit r.flags 4 ∧ (blist s h).span.isNone)) 0 ⟨[], none, 16, 0⟩)
      { dev .tile .ready with bed.build.lists := [(0, { BList.cold with runNext := some ⟨[], none, 16, 0⟩ })] } ∧
    meets (.summaryWrite 0) ((fun (h : Nat) a l r => fun s => (blist s h).summaries = (a, l) :: r) 0 0 [] [])
      { dev .tile .ready with bed.build.lists := [(0, { BList.cold with summaries := [(0, [])] })] } ∧
    meets .buildPaused (fun s =>
        let b := s.bed.build
        ¬(s.sys.role ≠ .bed ∨ b.st ≠ 5 ∨ !(layerHeads s).all (fun h => (bhead s h).frozen || (blist s h).stopped)))
      { dev .bed .ready with bed.build.st := 5 } ∧
    meets .buildDone (fun s =>
        let b := s.bed.build
        ¬(s.sys.role ≠ .bed ∨ b.st ≠ 4 ∨ !(layerHeads s).all (fun h => (blist s h).done && (blist s h).stopped)))
      { dev .bed .ready with bed.build.st := 4 } ∧
    meets .thermalStop ((fun t => fun s =>
        s.th.stopSince = some t ∧
          ¬(s.sys.role ≠ .bed ∨ s.th.stopMade ∨ s.time.loc < t + keyU s 0x0E03 0 2 * msTicks)) 0)
      { dev .bed .ready with th.stopSince := some 0, time.loc := 10 ^ 20 } ∧
    meets (.headReferenceDone 0) ((fun (h : Nat) tag n bad => fun s =>
        let x := bhead s h
        x.ref = some (tag, n, bad) ∧
          ¬(n < 64)) 0 1 64 0)
      { dev .tile .ready with bed.heads := [(0, { BHead.cold with ref := some (1, 64, 0) })] } := by
  and_intros <;> decide +kernel

/-- A state and operands that meet the hypotheses of each clause of `Obligations.AxisEventsComplete`. -/
theorem witness_AxisEventsComplete :
    meets (.axisStep 0) ((fun (a : Nat) t fwd => fun s =>
        nextStep (axis s a) = some (t, fwd) ∧ ¬(s.sys.role ≠ .bed ∨ 8 ≤ a ∨ nowLocal s < stepTick s a t)) 0 1 true)
      { dev .bed .ready with bed.axes := [(0, { Axis.cold with st := 3, plan := some (0, 4, 4, 0), forward := true })], time.loc := 10 ^ 20 } ∧
    meets (.axisDone 0) ((fun (a : Nat) t => fun s =>
        let x := axis s a
        ¬(x.st ≠ 2 ∨ (motionNext x).isSome) ∧
          motionEnds x = some t ∧
          ¬(nowLocal s < t)) 0 0)
      { dev .tile .ready with bed.axes := [(0, { Axis.cold with st := 2 })] } ∧
    meets (.stepInEdge 0 false) ((fun (input : Nat) (fwd : Bool) => fun s => ¬(s.sys.role ≠ .bed)) 0 false)
      (dev .bed .ready) ∧
    meets (.encoderZEdge 0) ((fun (a : Nat) => fun s =>
        let x := axis s a
        ¬(x.st ≠ 4 ∨ x.zSeen)) 0)
      { dev .tile .ready with bed.axes := [(0, { Axis.cold with st := 4 })] } ∧
    meets (.homingDone 0) ((fun (a : Nat) t => fun s =>
        let x := axis s a
        ¬(x.st ≠ 4 ∨ x.zSeen = false ∨ (motionNext x).isSome) ∧
          motionEnds x = some t ∧
          ¬(nowLocal s < t)) 0 0)
      { dev .tile .ready with bed.axes := [(0, { Axis.cold with st := 4, zSeen := true })] } ∧
    meets (.homingTimeout 0) ((fun (a : Nat) => fun s =>
        let x := axis s a
        ¬(x.st ≠ 4 ∨ x.zSeen ∨ x.emitted < 2 ^ 31)) 0)
      { dev .tile .ready with bed.axes := [(0, { Axis.cold with st := 4, emitted := 2 ^ 31 })] } := by
  and_intros <;> decide +kernel

/-- A state and operands that meet the hypotheses of each clause of `Obligations.HeadEventsComplete`. -/
theorem witness_HeadEventsComplete :
    meets (.emitEnFall false false) ((fun (a : Bool) (b : Bool) => fun _ => True) false false)
      (dev .tile .ready) ∧
    meets (.emitEnRise false false) ((fun (a : Bool) (b : Bool) => fun _ => True) false false)
      (dev .tile .ready) ∧
    meets .emitEnDiscrepancy ((fun t => fun s =>
        s.sys.emitDiffer = some t ∧
          ¬(s.sys.st = .reset ∨ s.time.loc < t + keyU s 0x0B38 0 2 * msTicks)) 0)
      { dev .tile .ready with sys.emitDiffer := some 0, time.loc := 10 ^ 20 } ∧
    meets (.headFrameInstant []) ((fun (enc : List Int) => fun s =>
        let f := buildAt s (nowSys s / 2048 * 2048)
        ¬(s.sys.role ≠ .bed ∨ s.sys.st = .reset ∨ s.sys.st = .boot) ∧
          ¬(frameSent s f)) [])
      (dev .bed .ready) ∧
    meets (.headUpstreamFrame 0 true 0 0 false 0 0 0 0 [] [] 0) ((fun (h : Nat) (crcOk : Bool) (seq laser : Nat) (fault : Bool) (ex ey ez : Int) (mon : Nat) (mp : List Nat) (cam : List Byte)
    (stamp : Nat) => fun s => ¬(s.sys.role ≠ .bed ∨ (h = 15 ∧ peerLane s))) 0 true 0 0 false 0 0 0 0 [] [] 0)
      { dev .bed .ready with lanes.lane := [(0, { Lane.cold with st := 5 })] } ∧
    meets (.headFrameMissing 0) ((fun (h : Nat) seq f r => fun s =>
        let x := bhead s h
        x.waiting = (seq, f) :: r ∧
          ¬(buildNow s < f + keyU s 0x0B02 0 2)) 0 0 0 [])
      { dev .tile .ready with bed.heads := [(0, { BHead.cold with waiting := [(0, 0)] })], time.sys := 2 ^ 90 } ∧
    meets (.headLinkChange 0) ((fun (h : Nat) => fun s =>
        let x := bhead s h
        ¬(s.sys.role ≠ .bed ∨ x.defn.isEmpty)) 0)
      { dev .bed .ready with bed.heads := [(0, { BHead.cold with defn := [1] })] } ∧
    meets (.headLinkFault 0) ((fun (h : Nat) => fun s =>
        let x := bhead s h
        ¬(x.defn.isEmpty ∨ x.up ∨ x.linkRecorded ∨ counted s.sys.st = false ∨ s.time.loc < x.downAt + msTicks)) 0)
      { dev .tile .ready with bed.heads := [(0, { BHead.cold with defn := [1] })], time.loc := msTicks } ∧
    meets (.haltBlock 0 0 []) ((fun (h header : Nat) (block : List Byte) => fun s => ¬(s.sys.role ≠ .bed ∨ 16 ≤ h ∨ (h = 15 ∧ peerLane s))) 0 0 [])
      (dev .bed .ready) ∧
    meets (.haltReleased 0) ((fun (h : Nat) a b => fun s =>
        let x := bhead s h
        x.halt = some (a, b) ∧
          ¬(s.time.loc < b + 64 * 2048)) 0 0 0)
      { dev .tile .ready with bed.heads := [(0, { BHead.cold with halt := some (0, 0) })], time.loc := 10 ^ 20 } ∧
    meets (.gateEdge 0) ((fun (h : Nat) t on r => fun s =>
        let x := bhead s h
        x.toPlace = (t, on) :: r ∧
          ¬(buildNow s < t)) 0 0 true [])
      { dev .tile .ready with bed.heads := [(0, { BHead.cold with toPlace := [(0, true)] })] } ∧
    meets (.setpointSignature 0) ((fun (h : Nat) => fun s =>
        let x := bhead s h
        ¬(x.sigN ≠ 1024)) 0)
      { dev .tile .ready with bed.heads := [(0, { BHead.cold with sigN := 1024 })] } ∧
    meets .stringFactorLatch (fun s => ¬(s.sys.role ≠ .bed ∨ s.time.loc / msTicks ≤ s.bed.latchAt))
      { dev .bed .ready with time.loc := msTicks } ∧
    meets (.headLoopUpdate 0) ((fun (h : Nat) => fun s =>
        let f := buildAt s (nowSys s / 2048 * 2048)
        ¬(s.sys.role ≠ .bed ∨ s.sys.st = .reset ∨ s.sys.st = .boot ∨ headDefined s h = false ∨ frameSent s f)) 0)
      { dev .bed .ready with bed.heads := [(0, { BHead.cold with defn := [1] })] } ∧
    meets (.loopDelaySet 0) ((fun (h : Nat) el => fun s =>
        let x := bhead s h
        x.echo = some el ∧
          ¬(x.leadUsed = keyU s 0x0B00 (2 * h) 2)) 0 0)
      { dev .tile .ready with bed.heads := [(0, { BHead.cold with echo := some 0, leadUsed := 99999 })] } := by
  and_intros <;> decide +kernel

/-- A state and operands that meet the hypotheses of each clause of `Obligations.LoopEventsComplete`. -/
theorem witness_LoopEventsComplete :
    meets (.stageSoftstartDone 0 true) ((fun (n : Nat) (ok : Bool) => fun s =>
        let g := stage s n
        ¬(g.mode ≠ 1)) 0 true)
      { dev .tile .ready with lamps.stage := [(0, { Stage.cold with mode := 1 })] } ∧
    meets (.stringLoopUpdate 0 none) ((fun (n : Nat) (sample : Option Int) => fun s =>
        let g := stage s n
        let k := 16 + n
        ¬(s.sys.role ≠ .bed ∨ 12 ≤ n ∨ g.mode = 0 ∨ s.time.loc / 8000 ≤ (loopSlot s k).seen)) 0 none)
      { dev .bed .ready with lamps.stage := [(0, { Stage.cold with mode := 3 })], time.loc := 8000 } ∧
    meets (.headroomLoopUpdate 0) ((fun (n : Nat) => fun s =>
        let l := { loopSlot s n with out := (stage s n).code, held := (stage s n).code }
        ¬(s.sys.role ≠ .tile ∨ slotExists s n = false ∨ displayed s = false ∨ (stage s n).mode ≠ 3 ∨ l.seen = s.loops.ended)) 0)
      { dev .tile .run with lamps.stage := [(0, { Stage.cold with mode := 3 })], loops.ended := 1 } ∧
    meets .traceDone (fun s => (s.trace.st = 2 ∧ (List.range 8).all (fun c => !(tchan s c).enable || decide (16384 - s.trace.pre ≤ (tchan s c).after))))
      { dev .tile .ready with trace.st := 2 } ∧
    meets (.traceTrigger 0 0) ((fun (src arg : Nat) => fun s => s.trace.trigSrc = src ∧ traceArgOk src s.trace.trigArg arg = true) 0 0)
      (dev .tile .ready) := by
  and_intros <;> decide +kernel

/-- A state and operands that meet the hypotheses of each clause of `Obligations.ThermalEventsComplete`. -/
theorem witness_ThermalEventsComplete :
    meets (.tempConversion []) ((fun (v : List Int) => fun s => ¬(s.sys.porstLow ∨ s.time.loc % msTicks ≠ 0 ∨ s.th.lastConv = some s.time.loc)) [])
      (dev .tile .ready) ∧
    meets .throttleStep (fun s => ¬(s.sys.porstLow ∨ s.time.loc < s.th.nextStep))
      (dev .tile .ready) ∧
    meets (.avsTick 0 0 0 false) ((fun (slack mv ma10 : Nat) (ok : Bool) => fun s => ¬(s.sys.porstLow ∨ s.th.busStopped)) 0 0 0 false)
      (dev .tile .ready) ∧
    meets (.avsbusRetry true) ((fun (ok : Bool) => fun s => ¬(s.sys.porstLow ∨ s.th.busStopped = false ∨ s.time.loc < s.th.retryAt)) true)
      { dev .tile .ready with th.busStopped := true, time.loc := 10 ^ 20 } ∧
    meets .slackBelowOneTap (fun s => ¬(s.th.busStopped))
      (dev .tile .ready) ∧
    meets (.ageingSample [] 0 0 0 0) ((fun (ratio : List Nat) (sLo : Nat) (sHi : Nat) (vLo : Nat) (vHi : Nat) => fun s =>
        let a := s.th.age
        ¬(s.sys.st = .reset ∨ s.sys.st = .boot ∨ s.time.loc < a.hourAt + 3600 * secTicks)) [] 0 0 0 0)
      { dev .tile .ready with time.loc := 10 ^ 20 } ∧
    meets .ageingSave (fun s => ¬(s.sys.st = .reset ∨ s.sys.st = .boot ∨ s.th.age.hours < s.th.age.savedAt + 24))
      { dev .tile .ready with th.age.hours := 24 } ∧
    meets .replanDue (fun s => ¬(s.sys.st = .reset ∨ s.sys.st = .boot ∨ capoHeld s 4 0))
      (dev .tile .ready) := by
  and_intros <;> decide +kernel

/-- A state and operands that meet the hypotheses of each clause of `Obligations.CalibrationEventsComplete`. -/
theorem witness_CalibrationEventsComplete :
    meets (.calStepDone 0 0 ⟨[], [], [], [], [], 0⟩) ((fun (d : Nat) (inst : Nat) (o : CalObs) => fun _ => True) 0 0 ⟨[], [], [], [], [], 0⟩)
      (dev .tile .ready) ∧
    meets (.quietInstant 0 []) ((fun (inst : Nat) (hits : List Nat) x => fun s => delayWaits s inst = some x) 0 [] ⟨1, 0, false, false, false, 0⟩)
      { dev .tile .ready with cal.steps := [⟨1, 0, false, false, false, 0⟩] } ∧
    meets (.quietInstantTimeout 0 []) ((fun (inst : Nat) (hits : List Nat) x => fun s =>
        delayWaits s inst = some x ∧
          ¬(s.time.loc < x.start + secTicks)) 0 [] ⟨1, 0, false, false, false, 0⟩)
      { dev .tile .ready with cal.steps := [⟨1, 0, false, false, false, 0⟩], time.loc := 10 ^ 20 } ∧
    meets (.slicerFirstStep 0) ((fun (l : Nat) => fun s =>
        let t := tabGet 0 s.cal.lockAt l
        ¬(t = 0 ∨ calBackground s = false ∨ s.time.loc < t - 1 + secTicks ∨ calBusy s 2 l)) 0)
      { dev .tile .ready with cal.lockAt := [(0, 1)], time.loc := secTicks } ∧
    meets (.calStepDue 2) ((fun (d i : Nat) => fun s => calBackground (calGo s) = true ∧ d < 4 ∧ ((calGo s).cal.steps.any fun t => t.dom == d) = false ∧
        (calDom (calGo s) d).lastEnd + keyU (calGo s) (0x0F00 + d) 0 4 * secTicks ≤ (calGo s).time.loc ∧
        ((calRotation (calGo s) d).find? fun i => calReady (calGo s) d i false) = some i) 2 0)
      { dev .tile .ready with time.loc := 10 ^ 20, lanes.lane := [(0, { Lane.cold with st := 5 })], cal.lockAt := [(0, 1)] } := by
  and_intros <;> decide +kernel

/-- A state and operands that meet the hypotheses of each clause of `Obligations.PairEventsComplete`. -/
theorem witness_PairEventsComplete :
    meets (.heartCell 0 0 0 0) ((fun (port src state flags : Nat) => fun s => ¬(portLocked s port = false)) 0 0 0 0)
      { dev .tile .ready with link.ports := [(0, { WPort.cold with lockedAt := some 0 })] } ∧
    meets (.takeoverNotice 0) ((fun (port : Nat) => fun s =>
        let a := s.link.tile.activeUp
        ¬(s.sys.role ≠ .tile ∨ 2 ≤ port ∨ portLocked s port = false ∨ port = a ∨ 2 ≤ a ∨ s.link.tile.suppressed.contains a)) 0)
      { dev .tile .ready with link.ports := [(0, { WPort.cold with lockedAt := some 0 })], link.tile.activeUp := 1 } ∧
    meets .heartbeatSend (fun s =>
        let ms := s.time.loc / msTicks
        ¬(paired s = false ∨ s.pair.beating = false ∨ ms = s.pair.beatMs))
      { dev .sender .ready with keys.eff := [(0x0F80, some [1])], pair.beating := true, time.loc := 10 ^ 20 } ∧
    meets .heartbeatSilence (fun s =>
        let s1 := goSilent 1 (goSilent 0 s)
        ¬(paired s = false ∨ s.pair.beating = false) ∧
          ¬(s1.pair.hb.silent = s.pair.hb.silent ∧ s1.pair.lk.silent = s.pair.lk.silent))
      { dev .sender .ready with keys.eff := [(0x0F80, some [1])], pair.beating := true, pair.hb.last := some 0, time.loc := 10 ^ 20 } ∧
    meets .pairStartWaitExpiry (fun s =>
        (pairStandby s && s.pair.beating && s.sys.st == .standby && preferredStandby s && s.pair.heardAt.isNone &&
          unheard s none (keyU s 0x0F87 0 2)))
      { dev .sender .standby with keys.eff := [(0x0F80, some [1]), (0x0F81, some [1])], pair.beating := true, time.loc := 10 ^ 20 } ∧
    meets .autoSwitchback ((fun safe => fun s =>
        (pairActive s && preferredStandby s && peerSynced s && peerUp s && s.pair.hand.isNone && s.pair.peerUpAt != 0 &&
                decide (s.pair.peerUpAt - 1 + 10 * secTicks ≤ s.time.loc)) ∧
          switchBack s = some safe) false)
      { dev .sender .ready with keys.eff := [(0x0F80, some [1]), (0x0F81, some [1]), (0x0F85, some [1])], pair.active := true, pair.beating := true, pair.peerFlags := 17, pair.peerState := 4, pair.peerUpAt := 1, time.loc := 10 ^ 20 } ∧
    meets (.handoverInstant 0) ((fun (cause : Nat) => fun _ => True) 0)
      (dev .tile .ready) ∧
    meets .pairPrimaryStartExpiry (fun s => (pairStandby s && s.pair.beating && s.sys.st == .standby && !preferredStandby s && unheard s s.pair.activeAt 3))
      { dev .sender .standby with keys.eff := [(0x0F80, some [1])], pair.beating := true, time.loc := 10 ^ 20 } ∧
    meets .takeoverNoticeRepeat (fun s => ¬(pairActive s = false ∨ s.sys.role ≠ .sender ∨ s.pair.noticeEnd < s.time.loc ∨ s.time.loc < s.pair.noticeAt + msTicks))
      { dev .sender .ready with keys.eff := [(0x0F80, some [1])], pair.active := true, pair.beating := true, time.loc := msTicks, pair.noticeEnd := secTicks } ∧
    meets .snapshotSend (fun s => ¬(pairActive s = false ∨ pairLinkUp s = false ∨ (s.pair.snapValid ∧ s.time.loc < s.pair.snapAt + secTicks)))
      { dev .bed .ready with keys.eff := [(0x0F80, some [1])], pair.active := true, pair.beating := true, link.ports := [(15, { WPort.cold with lockedAt := some 0 })] } ∧
    meets (.peerRecord [0, 0, 1, 0, 0, 0, 0, 0, 0, 0, 0, 0, 0, 0, 0, 0, 0, 0, 0, 0, 0, 0, 0, 0, 0, 0, 0, 0, 165, 182, 106, 37]) ((fun (r : List Byte) type flags seq arg body => fun s =>
        ¬(paired s = false ∨ pairLinkUp s = false) ∧
          recordFields r = some (type, flags, seq, arg, body)) [0, 0, 1, 0, 0, 0, 0, 0, 0, 0, 0, 0, 0, 0, 0, 0, 0, 0, 0, 0, 0, 0, 0, 0, 0, 0, 0, 0, 165, 182, 106, 37] 0 0 0 0 (List.replicate 16 0))
      { dev .bed .ready with keys.eff := [(0x0F80, some [1])], link.ports := [(15, { WPort.cold with lockedAt := some 0 })] } ∧
    meets .savedStateCopy (fun s =>
        let old := savedCopy s
        let b := savedBytes s
        ¬(pairStandby s = false ∨ s.pair.snapValid = false ∨ s.sys.st = .reset ∨ s.sys.st = .boot ∨
          (s.pair.savedAt ≠ 0 ∧ s.time.loc + 1 < s.pair.savedAt + 60 * secTicks) ∨ 16384 < b.length ∨
          (old.drop 0x14).take (old.length - 0x18) = savedItems s))
      { dev .sender .ready with keys.eff := [(0x0F80, some [1])], pair.snapValid := true, nv.savedLast := 1, nv.saved := [(0, List.replicate 30 0)] } ∧
    meets (.hbInEdge (100 * usTicks)) ((fun (width : Nat) => fun s => paired s = true ∧ (∀ t, s.pair.hb.last = some t → t + 500 * usTicks ≤ s.time.loc) ∧ 50 * usTicks ≤ width ∧ width ≤ 200 * usTicks) (100 * usTicks))
      { dev .sender .ready with keys.eff := [(0x0F80, some [1])] } ∧
    meets (.hbInEdge (300 * usTicks)) ((fun (width : Nat) => fun s => paired s = true ∧ (∀ t, s.pair.hb.last = some t → t + 500 * usTicks ≤ s.time.loc) ∧ 250 * usTicks ≤ width ∧ width ≤ 400 * usTicks) (300 * usTicks))
      { dev .sender .ready with keys.eff := [(0x0F80, some [1])] } ∧
    meets .pairYield ((fun (t : Nat) => fun s => s.pair.activeAt = some t ∧ s.pair.changedAt ≤ t ∧ pairActive s = true ∧ s.pair.peerActive = true ∧ yields s = true) 0)
      { dev .sender .ready with keys.eff := [(0x0F80, some [1])], pair.active := true, pair.beating := true, pair.activeAt := some 0, pair.peerActive := true, pair.heardStandby := true } := by
  and_intros <;> decide +kernel

/-- The opcode that the table does not define (`Obligations.InformationCommandsComplete`, `Obligations.UndefinedOpcodeIsRefused`). -/
theorem witness_UndefinedOpcodeIsRefused :
    (dev .tile .ready).acts ∧ (dev .tile .ready).sys.notReady = false ∧ opcodes.contains (0 % 256) = false ∧ opcodes.contains (255 % 256) = false :=
  by decide +kernel

/-- Hypotheses of `Obligations.EmptyQueueOnlyCountsTime` met. -/
theorem witness_EmptyQueueOnlyCountsTime :
    (State.reset.pending = [] ∧ State.reset.sys.porstLow = false) ∧
    ((porstLow State.reset).pending = [] ∧ (porstLow State.reset).sys.porstLow = true) ∧
    ((dev .tile .reset).pending = [] ∧ (dev .tile .reset).sys.porstLow = false ∧ (dev .tile .reset).sys.st = .reset) ∧
    State.reset.sys.st ≠ .reset ∧ codewordDue { dev .tile .ready with link.ports := [(0, { WPort.cold with lockedAt := some 0 })] } 0 = true := by
  and_intros <;> decide +kernel

/-- Hypotheses of `Obligations.FactoryTestIsRefused` met. -/
theorem witness_FactoryTestIsRefused :
    { State.reset with sys.role := .factory }.sys.role = .factory ∧ Instr.getState (cmd []) ≠ .porstNAssert ∧
    ∀ role tileId emitA emitB o, Instr.getState (cmd []) ≠ .porstNRelease role tileId emitA emitB o :=
  ⟨rfl, fun h => Instr.noConfusion h, fun _ _ _ _ _ h => Instr.noConfusion h⟩

/-- Hypotheses of `Obligations.RoleIsSampledAtPortRelease` and `Obligations.PortReleaseStartsAfresh` met: PORST_N is low, each
level of ROLE_STRAP, and a step of another command. -/
theorem witness_RoleIsSampledAtPortRelease :
    (porstLow State.reset).sys.porstLow = true ∧ (4 % 4 = 0 ∧ 1 % 4 = 1 ∧ 2 % 4 = 2 ∧ 7 % 4 = 3) ∧
    exec .porstNAssert State.reset = .next (porstLow State.reset) ∧ strapRole 0 = .tile :=
  ⟨by decide +kernel, by decide +kernel, rfl, by decide +kernel⟩

/-- Hypotheses of `Obligations.QueueIsFirstInFirstOut` and `Obligations.PortResetHoldsTheDevice` met by a step, the latter's
also where PORST_N is low. -/
theorem witness_PortResetHoldsTheDevice :
    State.reset.resetHeld ∧ (porstLow State.reset).resetHeld ∧
    step { State.reset with pending := [.porstNAssert, .porstNAssert] } = .next (porstLow { State.reset with pending := [.porstNAssert] }) :=
  ⟨fun h => absurd h (by decide +kernel), fun _ => ⟨rfl, rfl⟩, rfl⟩

/-- Hypotheses of `Obligations.CommandsAreCheckedInOrder` met. -/
theorem witness_CommandsAreCheckedInOrder :
    (hostCommand (.getState (cmd [])) = some (opGetState, cmd []) ∧ { dev .tile .ready with sys.notReady := true }.acts ∧
      { dev .tile .ready with sys.notReady := true }.sys.notReady = true) ∧
    ((dev .tile .ready).acts ∧ (dev .tile .ready).sys.notReady = false ∧ 62 < { cmd [] with len := 63 }.len) ∧
    ((cmd []).len ≤ 62 ∧ tagInFlight { dev .tile .ready with cmds.inFlight := [⟨1, 2, 0⟩] } (cmd []).tag = true) ∧
    (tagInFlight (dev .tile .ready) 1 = false ∧ route (dev .tile .ready) { cmd [] with self := false, target := 5 } = .refuse .unreachable 5 ∧
      Status.unreachable ≠ .noCredit) ∧
    (hostCommand (.layerDefine (cmd [])) = some (opLayerDefine, cmd []) ∧ arrives opLayerDefine (cmd []) (dev .tile .ready) ∧
      opInRole opLayerDefine .tile = false) ∧
    (hostCommand (.thermalLimitsSet (cmd [0, 0])) = some (opThermalLimitsSet, cmd [0, 0]) ∧
      arrives opThermalLimitsSet (cmd [0, 0]) (dev .tile .run) ∧ opInRole opThermalLimitsSet .tile = true ∧ opInState opThermalLimitsSet .run = false) ∧
    (arrives opBuildLoad (cmd [0, 0]) { dev .bed .ready with keys.eff := [(0x0F80, some [1])] } ∧ opInState opBuildLoad .ready = true ∧
      (pairStandby { dev .bed .ready with keys.eff := [(0x0F80, some [1])] } && pairOpcode .bed opBuildLoad.op) = true) ∧
    (arrives opGetState (cmd [0]) (dev .tile .ready) ∧ opInRole opGetState .tile = true ∧ opInState opGetState .ready = true ∧
      (pairStandby (dev .tile .ready) && pairOpcode .tile opGetState.op) = false ∧ opGetState.len = some 0 ∧ (cmd [0]).len ≠ 0) :=
  ⟨⟨rfl, by decide +kernel⟩, by decide +kernel, by decide +kernel, by decide +kernel, ⟨rfl, by decide +kernel⟩, ⟨rfl, by decide +kernel⟩, by decide +kernel, by decide +kernel⟩

/-- Hypotheses of `Obligations.RefusedCommandsChangeNothing` met. -/
theorem witness_RefusedCommandsChangeNothing :
    (hostCommand (.getState { cmd [] with len := 63 }) = some (opGetState, { cmd [] with len := 63 }) ∧ (dev .tile .ready).acts ∧
      (dev .tile .ready).sys.notReady = false ∧ 62 < { cmd [] with len := 63 }.len) ∧
    (arrives opLayerDefine (cmd []) (dev .tile .ready) ∧ opInRole opLayerDefine .tile = false) ∧
    (arrives opThermalLimitsSet (cmd [0, 0]) (dev .tile .run) ∧ opInState opThermalLimitsSet .run = false) :=
  ⟨⟨rfl, by decide +kernel⟩, by decide +kernel, by decide +kernel⟩

/-- Hypotheses of `Obligations.AcceptedCommandsAreAnswered` met. -/
theorem witness_AcceptedCommandsAreAnswered :
    (hostCommand (.resetWarm (cmd [])) = some (opResetWarm, cmd [])) ∧
    Accepted opResetWarm (cmd []) (dev .bed .run) :=
  ⟨rfl, by decide +kernel⟩

/-- Hypotheses of each clause of `Obligations.ReadingCommandsChangeNothing` met. -/
theorem witness_ReadingCommandsChangeNothing :
    Accepted opGetInfo (cmd []) (dev .tile .ready) ∧
    Accepted opGetState (cmd []) (dev .tile .ready) ∧
    Accepted opLinkStatus (cmd [0]) (dev .tile .ready) ∧
    Accepted opTopoRead (cmd [65536]) (dev .sender .ready) ∧
    Accepted opCrcResultRead (cmd [0]) (dev .sender .ready) ∧
    Accepted opFretboardRead (cmd [268566528]) (dev .tile .ready) ∧
    Accepted opLampHealthRead (cmd [67108864]) (dev .tile .ready) ∧
    Accepted opWearRead (cmd [805437440]) (dev .tile .ready) ∧
    Accepted opTimeGet (cmd []) (dev .tile .ready) ∧
    Accepted opFaultRead (cmd [0]) (dev .tile .ready) ∧
    Accepted opLogRead (cmd [0, 1]) { dev .tile .ready with log.next := 1 } ∧
    Accepted opLaneStatus (cmd [16]) (dev .tile .ready) ∧
    Accepted opImageStatus (cmd []) (dev .tile .ready) ∧
    Accepted opCalStatus (cmd []) (dev .tile .ready) := by
  and_intros <;> decide +kernel

/-- Hypotheses of each clause of `Obligations.SettingCommandsChangeOneThing` met. -/
theorem witness_SettingCommandsChangeOneThing :
    meetsRun opCfgWrite .cfgWrite (fun c s => cfgFault true c s = none)
      (cmd [0, 1, 0]) (dev .tile .ready) ∧
    meetsRun opLayerDefine .layerDefine (fun c s => defBad ((List.range 25).map (pw c)) = none)
      (cmd [0, 0, 0, 65537, 0, 65537, 16777216, 0, 0, 0, 0, 0, 0, 0, 0, 0, 0, 0, 0, 0, 0, 0, 0, 0, 0]) (dev .sender .ready) ∧
    meetsRun opBufferRelease .bufferRelease (fun c s => (stillBuf s (bits (pw c 0) 0 10)).isSome = true ∧ bufState s (bits (pw c 0) 0 10) = 0)
      (cmd [0]) { dev .sender .ready with send.bufs := [(0, some ⟨0, 0, 1, 1, 256⟩)] } ∧
    meetsRun opPlumeGuardSet .plumeGuardSet (fun c s => s.bed.build.st ≠ 4 ∧ s.bed.build.st ≠ 5 ∧ pw c 1 ≤ 5000000 ∧ pw c 3 ≤ 100000000 ∧ pw c 4 ≤ 10000000)
      (cmd [0, 0, 0, 0, 0]) (dev .bed .ready) ∧
    meetsRun opSetpointSet .setpointSet (fun c s => slotExists s (bits (pw c 0) 0 5) = true ∧ bit (pw c 0) 31 = true)
      (cmd [2147483648, 0]) (dev .tile .ready) ∧
    meetsRun opTimeSourceSet .timeSourceUpdatePath (fun c s => bit (pw c 0) 30 = true ∧ c.len = 7 ∧ s.sys.role = .tile)
      (cmd [1073741824, 0, 0, 0, 0, 0, 0]) (dev .tile .ready) := by
  and_intros <;> decide +kernel

/-- Hypotheses of `Obligations.Bar2WritesReadBack` met. -/
theorem witness_Bar2WritesReadBack :
    ((dev .sender .run).acts ∧ bar2Reaches (dev .sender .run) 0 4 = true) ∧
    bar2Reaches (dev .bed .run) (2 ^ 28 - 4) 4 = true := by
  and_intros <;> decide +kernel

/-- Hypotheses of `Obligations.RingFetchStopsAtFullFlight` met. -/
theorem witness_RingFetchStopsAtFullFlight :
    (dev .sender .run).acts ∧
    4096 ≤ { dev .sender .run with cmds.inFlight := List.replicate 4096 ⟨0, 0, 0⟩ }.cmds.inFlight.length :=
  ⟨by decide +kernel, Nat.le_of_eq List.length_replicate.symm⟩

/-- Hypotheses of `Obligations.EventEnableGatesDelivery` met. -/
theorem witness_EventEnableGatesDelivery :
    bit (keyU { dev .tile .run with keys.eff := [(3, some [2, 0, 0, 0])] } 0x0003 0 4) (0x0101 / 256) = true ∧
    bit (keyU { dev .tile .run with keys.eff := [(3, some [2, 0, 0, 0])] } 0x0003 0 4) (0x0201 / 256) = false := by
  and_intros <;> decide +kernel

/-- Hypotheses of `Obligations.PixelCodesDecode` met. -/
theorem witness_PixelCodesDecode :
    (31 < 32 ∧ 2047 < 2048 ∧ 0 * 2048 + 31 ≤ 0x001F ∧ 0x9800 ≤ 19 * 2048 + 0) :=
  by decide +kernel

/-- Hypotheses of `Obligations.MatrixOfALamp` met. -/
theorem witness_MatrixOfALamp :
    ((0 < 3 ∧ 1 < 3 ∧ 2 < 3 ∧ 0 ≠ 1 ∧ 0 ≠ 2 ∧ 1 ≠ 2) ∧ (2 < 3 ∧ 2 ≠ 0 ∧ 2 ≠ 1)) :=
  by decide +kernel

/-- Hypotheses of `Obligations.CurveOfALamp` met. -/
theorem witness_CurveOfALamp :
    (2 ^ 14 - 1 < 2 ^ 14 ∧ 31 = (2 ^ 14 - 1) >>> 9) ∧
    (2 ^ 14 < 2 ^ 24 ∧ 32 = 32 + (Nat.log2 (2 ^ 14) - 14) * 32 + (((2 ^ 14) >>> (Nat.log2 (2 ^ 14) - 5)) &&& 31)) ∧
    (2 ^ 24 - 1 < 2 ^ 24 ∧ 351 = 32 + (Nat.log2 (2 ^ 24 - 1) - 14) * 32 + (((2 ^ 24 - 1) >>> (Nat.log2 (2 ^ 24 - 1) - 5)) &&& 31)) := by
  and_intros <;> decide +kernel

/-- Hypotheses of `Obligations.ConfirmedShortLamp` met. -/
theorem witness_ConfirmedShortLamp :
    (1 ≤ 1 ∧ { LampH.cold with health := 1 }.health = 1 ∧ { LampH.cold with health := 1 }.shortRun = 0 ∧ 0 < 1) :=
  by decide +kernel

/-- Hypotheses of `Obligations.WeirNeverPassesItsTarget` met. -/
theorem witness_WeirNeverPassesItsTarget :
    (Weir.cold.y = Weir.cold.t → Weir.cold.v = 0) ∧
    { Weir.cold with t := 5 }.y ≤ { Weir.cold with t := 5 }.t ∧
    { Weir.cold with t := -5 }.t ≤ { Weir.cold with t := -5 }.y ∧
    (weirStep { Weir.cold with t := 5 } ⟨1, 1, 0⟩ 10).y = 5 := by
  and_intros <;> decide +kernel

/-- Hypotheses of `Obligations.BedHoldsItsSinks` met. -/
theorem witness_BedHoldsItsSinks :
    (dev .bed .run).sys.role = .bed :=
  by decide +kernel

/-! ### Well-formed commands -/

/-- One operand outside its range in each, and the check refuses it (1). -/
theorem test_illFormed1 : ([
    .undefinedOpcode 256 (cmd []),
    .mbxDoorbell 8,
    .crTailWrite (2 ^ 32),
    .crCtrlWrite (2 ^ 32),
    .eqCtrlWrite (2 ^ 32),
    .eqHeadWrite (2 ^ 32),
    .irqStatusWrite (2 ^ 32),
    .mbxStatusWrite 8 0,
    .mbxStatusWrite 0 (2 ^ 32),
    .registerWrite (2 ^ 32) 0 0,
    .registerWrite 0 0 (2 ^ 32),
    .bar2Write (2 ^ 32) [],
    .bar2Read (2 ^ 32) 0,
    .serviceDatagram (2 ^ 48) 0 0 0 [],
    .serviceDatagram 0 256 0 0 [],
    .serviceDatagram 0 0 256 0 [],
    .serviceDatagram 0 0 0 (2 ^ 32) [],
    .serviceArp (2 ^ 32) 0,
    .serviceArp 0 (2 ^ 48),
    .porstNRelease 4 0 false false ⟨false, false, false, false, 0, false, false⟩,
    .porstNRelease 0 65536 false false ⟨false, false, false, false, 0, false, false⟩,
    .clockDerivedFail 4,
    .supplyOutOfWindow ⟨10, 0⟩,
    .sramEccError false 16 0 0 0 0,
    .sramEccError false 0 131072 0 0 0,
    .sramEccError false 0 0 256 0 0,
    .sramEccError false 0 0 0 65536 0,
    .sramEccError false 0 0 0 0 (2 ^ 32)] : List Instr).all (fun i => !i.wf) = true := by decide +kernel

/-- One operand outside its range in each, and the check refuses it (2). -/
theorem test_illFormed2 : ([
    .dramEccUncorr 256 0 0,
    .dramEccUncorr 0 65536 0,
    .dramEccUncorr 0 0 (2 ^ 35),
    .spillwayFiring 64 0 0 0,
    .spillwayFiring 0 65536 0 0,
    .spillwayFiring 0 0 (2 ^ 32) 0,
    .spillwayFiring 0 0 0 4,
    .laneLossOfSignal 16,
    .laneSignalReturn 16,
    .linkTrainingDone 16 0 0 0 [] [] 0 false false false,
    .trainingTimeout 16 0,
    .trainingTimeout 0 16,
    .alignmentAttempt 16 0 [],
    .alignmentAttempt 0 5440 [],
    .markerHit 16 ⟨0, markLine⟩,
    .markerHit 0 ⟨2 ^ 32, markLine⟩,
    .markerHit 0 ⟨0, []⟩,
    .markerHuntTimeout 16,
    .laneLock 16,
    .laneLockLoss 16,
    .densityWindowEnd 16 ⟨0, 0⟩,
    .densityWindowEnd 0 ⟨2 ^ 32, 0⟩,
    .densityWindowEnd 0 ⟨0, 2 ^ 32⟩,
    .adaptationStep 16 0 0 [] 0,
    .snapshotPeriodExpiry 16,
    .driftCheck 16,
    .laneFault 16 0,
    .laneFault 0 16,
    .eyeScanDone 16 [],
    .hourlyEyeScan 16 0,
    .sourcePortStart 4] : List Instr).all (fun i => !i.wf) = true := by decide +kernel

/-- One operand outside its range in each, and the check refuses it (3). -/
theorem test_illFormed3 : ([
    .sourcePortChange 4 false 0 0,
    .sourcePortChange 0 false (2 ^ 32) 0,
    .sourcePortChange 0 false 0 (2 ^ 32),
    .ethernetFrame 4 0 false 0 0 0,
    .ethernetFrame 0 65536 false 0 0 0,
    .ethernetFrame 0 0 false (2 ^ 48) 0 0,
    .ethernetFrame 0 0 false 0 (2 ^ 32) 0,
    .ethernetFrame 0 0 false 0 0 (2 ^ 48),
    .streamPacket 16 0 0 0 0 0 0 false [],
    .streamPacket 0 4096 0 0 0 0 0 false [],
    .streamPacket 0 0 (2 ^ 48) 0 0 0 0 false [],
    .streamPacket 0 0 0 (2 ^ 32) 0 0 0 false [],
    .streamPacket 0 0 0 0 65536 0 0 false [],
    .streamPacket 0 0 0 0 0 128 0 false [],
    .streamPacket 0 0 0 0 0 0 (2 ^ 32) false [],
    .streamTimeout 64,
    .ptpMessage 16 0 false false 0 0 0 0 0 0 0,
    .ptpMessage 0 256 false false 0 0 0 0 0 0 0,
    .ptpMessage 0 0 false false 256 0 0 0 0 0 0,
    .ptpMessage 0 0 false false 0 0 0 (2 ^ 32) 0 0 0,
    .ptpAnnounceTimeout 16,
    .ptpDelayReqSend 16 0,
    .wotorCodeword 16 0 [],
    .wotorCodeword 0 3 [],
    .dataCell 16 0,
    .dataCell 0 (2 ^ 256),
    .syncTimeCell 16 0 0 0 0,
    .syncTimeCell 0 (2 ^ 64) 0 0 0] : List Instr).all (fun i => !i.wf) = true := by decide +kernel

/-- One operand outside its range in each, and the check refuses it (4). -/
theorem test_illFormed4 : ([
    .syncTimeCell 0 0 0 (2 ^ 32) 0,
    .flipCell 16 0 0,
    .flipCell 0 65536 0,
    .flipCell 0 0 (2 ^ 64),
    .frameStartCell 16 0 0 0 0,
    .frameStartCell 0 65536 0 0 0,
    .frameStartCell 0 0 65536 0 0,
    .frameStartCell 0 0 0 65536 0,
    .frameStartCell 0 0 0 0 4,
    .tileCrcCell 16 0 [],
    .tileCrcCell 0 65536 [],
    .decisionCell 16 0 false,
    .decisionCell 0 65536 false,
    .replyCell 16 0 0 0 0,
    .replyCell 0 65536 0 0 0,
    .replyCell 0 0 16384 0 0,
    .replyCell 0 0 0 (2 ^ 32) 0,
    .replyCell 0 0 0 0 (2 ^ 32),
    .mgmtCell 16 0 0 false false 0 0 0 [],
    .mgmtCell 0 256 0 false false 0 0 0 [],
    .mgmtCell 0 0 256 false false 0 0 0 [],
    .mgmtCell 0 0 0 false false 16384 0 0 [],
    .mgmtCell 0 0 0 false false 0 16384 0 [],
    .mgmtCell 0 0 0 false false 0 0 4096 [],
    .enumToken 16 0 0 0 false 0,
    .enumToken 0 256 0 0 false 0,
    .enumToken 0 0 8 0 false 0,
    .enumToken 0 0 0 8 false 0] : List Instr).all (fun i => !i.wf) = true := by decide +kernel

/-- One operand outside its range in each, and the check refuses it (5). -/
theorem test_illFormed5 : ([
    .enumToken 0 0 0 0 false 65536,
    .enumReport 16 0 0 0 0 0 0 0 0,
    .enumReport 0 256 0 0 0 0 0 0 0,
    .enumReport 0 0 16384 0 0 0 0 0 0,
    .enumReport 0 0 0 (2 ^ 64) 0 0 0 0 0,
    .enumReport 0 0 0 0 256 0 0 0 0,
    .enumReport 0 0 0 0 0 256 0 0 0,
    .enumReport 0 0 0 0 0 0 (2 ^ 32) 0 0,
    .enumReport 0 0 0 0 0 0 0 65536 0,
    .enumReport 0 0 0 0 0 0 0 0 65536,
    .enumGeometry 16 0 0 0 0 0 0 0 0 0,
    .enumGeometry 0 16384 0 0 0 0 0 0 0 0,
    .enumGeometry 0 0 65536 0 0 0 0 0 0 0,
    .enumGeometry 0 0 0 65536 0 0 0 0 0 0,
    .enumGeometry 0 0 0 0 65536 0 0 0 0 0,
    .enumGeometry 0 0 0 0 0 65536 0 0 0 0,
    .enumGeometry 0 0 0 0 0 0 65536 0 0 0,
    .enumGeometry 0 0 0 0 0 0 0 65536 0 0,
    .enumGeometry 0 0 0 0 0 0 0 0 4 0,
    .enumGeometry 0 0 0 0 0 0 0 0 0 65536,
    .enumEndTimeout 8,
    .heartCell 16 0 0 0,
    .heartCell 0 16384 0 0,
    .heartCell 0 0 8 0,
    .heartCell 0 0 0 (2 ^ 32),
    .takeoverNotice 16,
    .delayRequestCell 16 0 0 0 0 0 0,
    .delayRequestCell 0 256 0 0 0 0 0] : List Instr).all (fun i => !i.wf) = true := by decide +kernel

/-- One operand outside its range in each, and the check refuses it (6). -/
theorem test_illFormed6 : ([
    .delayRequestCell 0 0 0 16384 0 0 0,
    .delayResponseCell 16 0 0 0 0 0,
    .delayResponseCell 0 256 0 0 0 0,
    .delayPeriodExpiry 16 0,
    .delayAnswerTimeout 16,
    .markCell 16 0 0,
    .markCell 0 (2 ^ 32) 0,
    .bundleChange 8,
    .syncTimeSend 16 0,
    .switchStageFault 12 0,
    .switchStageFault 0 4,
    .railLimit 12,
    .upstreamSwitched 16,
    .ringOpen 16,
    .ringRestored 16,
    .latchPoint 8,
    .outputLine 8 none,
    .lineMatch 8,
    .frameStartSend 8,
    .flipCellSend 8,
    .frameDone 8,
    .frameResync 8,
    .headUpstreamFrame 16 false 0 0 false 0 0 0 0 [] [] 0,
    .headUpstreamFrame 0 false (2 ^ 32) 0 false 0 0 0 0 [] [] 0,
    .headFrameMissing 16,
    .headLinkChange 16,
    .headLinkFault 16,
    .haltBlock 16 0 []] : List Instr).all (fun i => !i.wf) = true := by decide +kernel

/-- One operand outside its range in each, and the check refuses it (7). -/
theorem test_illFormed7 : ([
    .haltReleased 16,
    .headReferenceDone 16,
    .jetBoundary 16,
    .gateEdge 16,
    .jetQueueRefill 16,
    .anchorWaitEnd 16,
    .summaryWrite 16,
    .setpointSignature 16,
    .axisStep 8,
    .axisDone 8,
    .stepInEdge 4 false,
    .encoderZEdge 8,
    .homingDone 8,
    .homingTimeout 8,
    .stageSoftstartDone 12 false,
    .headLoopUpdate 16,
    .stringLoopUpdate 12 none,
    .headroomLoopUpdate 12,
    .loopDelaySet 16,
    .traceTrigger 64 0,
    .traceTrigger 0 (2 ^ 32),
    .calStepDue 4,
    .calStepDone 4 0 ⟨[], [], [], [], [], 0⟩,
    .calStepDone 0 65536 ⟨[], [], [], [], [], 0⟩,
    .quietInstant 65536 [],
    .quietInstantTimeout 65536 [],
    .slicerFirstStep 16,
    .handoverInstant 16] : List Instr).all (fun i => !i.wf) = true := by decide +kernel

/-- One operand outside its range in each, and the check refuses it (8). -/
theorem test_illFormed8 : ([
    .selftestDone 7 ⟨false, false, false, false, 0, false, false⟩,
    .forwardChunkResponse 4096 0,
    .forwardChunkResponse 0 256,
    .forwardDone 256,
    .tapInstruction 7 false] : List Instr).all (fun i => !i.wf) = true := by decide +kernel

/-- A path, a tag, a LEN, a TARGET and a payload that no path can deliver, and a command that it can. -/
theorem test_commandForm : ([{ cmd [] with path := 12 }, { cmd [] with tag := 4096 }, { cmd [] with len := 256 },
    { cmd [] with target := 16384 }, { cmd [] with payload := [0] }].all fun c => !c.wf) = true ∧ (cmd [1, 2]).wf = true ∧
    (Instr.getState { cmd [] with path := 12 }).wf = false := by decide +kernel

/-! ### Worked examples of the spec -/

/-- The 120 Hz frame of 02_emission_timeline: the slots' starts, in a frame of 2048 slots. -/
theorem test_slotStarts : (List.range 2048).all (fun k => decide (slotAt 83333333 2048 (k + 1) - slotAt 83333333 2048 k ≤ 40691 ∧
      40690 ≤ slotAt 83333333 2048 (k + 1) - slotAt 83333333 2048 k)) = true ∧
    [24, 25, 983, 984, 2048].map (slotAt 83333333 2048) = [976562, 1017252, 39998372, 40039062, 83333333] := by decide +kernel

/-- A TILE with 64 scan lines, 32 sub-frames and the two windows of 02_emission_timeline's example. -/
def windowed : State :=
  { dev .tile .run with
    keys.eff := [(0x0400, some [64]), (0x0401, some [32]), (0x0409, some [2]), (0x040B, some [15]),
      (0x0410, some (leBytes 4 1000000 ++ leBytes 4 40000000 ++ leBytes 4 0x100)),
      (0x0411, some (leBytes 4 42666667 ++ leBytes 4 81666667 ++ leBytes 4 0x101))] }

/-- Slots 25 to 982 carry view 0, slots 24, 983 and 1048 are dark, and n_0 = 14 (02_emission_timeline). -/
theorem test_windowSlots : [24, 25, 982, 983, 1048].map (slotViewOf windowed (exposureWindows windowed) 83333333) = [15, 0, 0, 15, 15] := by
  decide +kernel

/-- The three lamps of 02_emission_timeline, and lamp 2 in its next frame: ticks, pulses and the new carry. -/
theorem test_splitLamps : ([splitLamp 20 1263680 32 39490 true 0, splitLamp 1000 1263680 32 39490 true 0,
      splitLamp 3000000 1263680 32 39490 false 0, splitLamp 1000 1263680 32 39490 true 145920].map fun x => (x.ticks, x.pulses, x.carry)) =
    [(96, 9, 107776), (4820, 32, 145920), (903854, 32, 1552384), (4821, 32, 29696)] := by decide +kernel

/-- The lamp stretched in 02_emission_timeline: four frames owe light, the fourth emits 82 ticks as 8 pulses. -/
theorem test_stretchedLamp : ([splitLamp 20 1263680 32 39490 true (-79584000), splitLamp 20 1263680 32 39490 true (-29036800 - 25273600),
      splitLamp 20 1263680 32 39490 true (-3763200)].map fun x => (x.ticks, x.pulses, x.carry)) =
    [(0, 0, -54310400), (0, 0, -29036800), (82, 8, 14592)] := by decide +kernel

/-- A TILE whose sources read 80 °C, with E[22] = 0x9000 and E[23] = 0x9200 (03_lamp_drive). -/
def warm : State :=
  { dev .tile .run with
    keys.eff := [(0x0530, some ((List.range 33).flatMap fun i => leBytes 2 (if i = 22 then 0x9000 else if i = 23 then 0x9200 else 0x8000)))]
    th.sensors := (List.range 28).map fun i => (i, { Sensor.cold with hist := [1280, 1280, 1280] }) }

/-- K = 37 302 and Q_t = 49 152 (03_lamp_drive). -/
theorem test_temperatureFactors : tempFactor warm 0 = 37302 ∧ derateTarget warm = 49152 ∧ derateStep warm = 65520 := by decide +kernel

/-- The codes of 04_fretboard and 05_composition. -/
theorem test_pixelCodes : encodeCode 39328 = 0x719A ∧ pixelDecode 0x719A = 629248 ∧ pixelDecode 0x6800 = 262144 := by decide +kernel

/-- The lamp of 04_fretboard, from its Basin word's place to its corrected grey. -/
theorem test_correctedLamp : lampPixel (dev .tile .run) 7730 = 2578 ∧ curveApply (dev .tile .run) 0 605488 = 1816464 ∧
    lampApply 0x000A40FD 1816464 = 1852816 := by decide +kernel

/-- The matrix of 04_fretboard: D0 = 0x1F00, O01 = 0x7C0, O02 = 0x010. -/
theorem test_matrix : matrixApply (0x1F00 * 2 ^ 66 + 0x7C0 + 0x010 * 2 ^ 11) 0 [629248, 262144, 0] = 605488 := by decide +kernel

/-- 05_composition's canvas, streams, buffer and layers. -/
def canvas : Output := { Output.cold with enable := true, views := 1, width := 3840, height := 2048, num := 120, den := 1, vb := 500000 }
def ycc : Binding :=
  { vid := 0, port := 0, dst := 0, src := 0, udp := 0, width := 7680, height := 4320, rateNum := 60, rateDen := 1, pt := 96, sampling := 2
    depth := 10, colorimetry := 0, tcs := 0, full := 0, type := 0 }
def rgb : Binding := { ycc with width := 3840, height := 2160, rateNum := 120, sampling := 0 }
def layerDef (type source cw ch dw dh : Nat) : List Nat := [2 ^ 31 + 4096 + type * 1024, source, 0, cw + ch * 65536, 0, dw + dh * 65536]
def unfilled (b : Binding) : Stream := ⟨b, 0, none, none, 0, false, [], 0, none, false, 0, [], false, 0, false, 0, 0, false, 0, 0⟩
def composed : State :=
  { dev .sender .run with
    send.streams := [(0, some (unfilled ycc)), (1, some (unfilled rgb))], send.bufs := [(0, some ⟨3, 0, 1024, 512, 8192⟩)]
    send.outs := [(0, canvas)] }
def plan : CompPlan :=
  { outs := [(0, canvas)]
    defs := [layerDef 0 0 7680 4096 3840 2048, layerDef 0 1 1920 1080 1920 1080, layerDef 1 0 1024 512 1024 512], binds := [ycc, rgb] }

/-- The terms and the line stores of 05_composition's example; all four budgets hold. -/
theorem test_budgets : compTerms plan = [(943718400, 1), (943718400, 1), (248832000, 1), (62914560, 1)] ∧
    ((dramTerms composed plan).map fun p => p.1 / p.2) = [4976640000, 3732480000, 9437184000, 933120000, 503316480] ∧
    storePixels plan = 10624 ∧ overBudget composed plan = none := by decide +kernel

/-- 06_scanout: A_0, and where line 2047 starts. -/
theorem test_lineStarts : minActive canvas = 82833333 ∧ lineStart { canvas with start := 0, activeLen := 82833333 } 2047 = 82792887 := by
  decide +kernel

/-- 07_cascade_link: 251 tiles fit the Cascade, a 252nd breaks the frame condition. -/
theorem test_cascadeBudget : cascadeOk 0 { canvas with width := 16064, height := 512, vb := 900000 } = true ∧
    cascadeOk 0 { canvas with width := 16128, height := 512, vb := 900000 } = false := by decide +kernel

/-- 09_time: a responder 60 ppm fast and a turnaround of 4096 of its ticks give 47.8006 ticks. -/
theorem test_rawDelay : rawDelay (10 ^ 12) (2 * 10 ^ 12) (2 * 10 ^ 12 + 4096 * 256) (10 ^ 12 + 1072987) 0 (2 * 10 ^ 12 - 10 ^ 12 * 100006 / 100000) = 12237 := by
  decide +kernel

/-- 10_jets_motion: the MARK's length and time, its run-up, the JUMP's time, and the point at the frame instant. -/
theorem test_jets : segLength 300000 400000 = 500000 ∧ markTicks 500000 1000000 = 50000000 ∧
    runUpStart 1000000 2000000 300000 400000 500000 50000 = (970000, 1960000) ∧ markTicks 50000 1000000 = 5000000 ∧
    (lerp 1000000 1300000 23536000 50000000, lerp 2000000 2400000 23536000 50000000) = (1141216, 2188288) := by decide +kernel
theorem test_jump : jumpTicks 2400000 10000 10000000 100000000 = 35000000 := by decide +kernel

/-- 10_jets_motion: X of the grid at that point is 456 551. -/
theorem test_grid : gridValue (fun n => if n = 35 * 65 + 33 then 240000 else if n = 35 * 65 + 34 then 480000 else
    if n = 36 * 65 + 33 then 240100 else if n = 36 * 65 + 34 then 480100 else 0) (-19200000) (-19200000) 600000 1141216 2188288 = 456551 := by
  decide +kernel

/-- 11_heads_lasers: string 2 at POWER 0xC000. -/
def stringBed : State :=
  { dev .bed .run with
    keys.eff := [(0x0B11, some (List.replicate 8 0 ++ leBytes 4 2000)), (0x0B12, some (List.replicate 8 0 ++ leBytes 4 35000)),
      (0x0B13, some (List.replicate 8 0 ++ leBytes 4 25000))]
    bed.strings := [(2, { StringRef.cold with th := 8171, k := 35254, a := 0x8400, q := 65536 })] }
theorem test_stringReference : stringCurrent stringBed 2 0xC000 = 28974208 ∧
    (tabGet StringRef.cold (stringFrame stringBed 2 0xC000).bed.strings 2).ref = 1545 := by decide +kernel

/-- 12_loops: one slot moves y by 43 × 40 690, and head 5's loop delay is 3. -/
theorem test_weirSlot : (weirStep { Weir.cold with y := 250 * 2 ^ 32, t := 270 * 2 ^ 32 } ⟨43, 43, 0⟩ 40690).y = 250 * 2 ^ 32 + 1749670 := by
  decide +kernel
def led : State :=
  { dev .bed .run with keys.eff := [(0x0B00, some (List.replicate 10 0 ++ leBytes 2 2448))], bed.heads := [(5, { BHead.cold with defn := [1] })] }
theorem test_loopDelay : (bhead (setLoopDelay led 5 2348 true) 5).d = 3 := by decide +kernel

/-- 13_mailbox: the FRETBOARD_LOAD of 61 lamp entries, its response's words, and the shadow's entry, whose WEAR_COMP is not
loaded (04_fretboard R147). -/
def loadEntries : Cmd := { cmd (0x107A1E32 :: List.replicate 61 0x000A40FD) with tag := 0x123 }
theorem test_fretboardLoad : (match execFretboardLoad loadEntries (dev .tile .standby) with
    | .next t => (t.cmds.responses.map (·.words), lampEntry t (1 - t.fret.active) 7730)
    | _ => ([], 0)) = ([[0x00123100, 0x00000002]], 0xFD) := by decide +kernel

/-- 14_spillway: two sources in one cycle, a third within the reaction interval that ends at +40 µs, a fourth after it. -/
def spilled : State :=
  let s1 := fire { dev .bed .run with bed.heads := [(3, { BHead.cold with defn := [1] }), (7, { BHead.cold with defn := [1] })] } 22 7 0
  let s2 := fire { s1 with spill.reactEnd := 400000 } 24 3 0
  let s3 := fire { s2 with time.loc := 30000 } 28 7 0
  fire { s3 with time.loc := 20000000 } 29 0 0
theorem test_spillway : spilled.spill.status = 0x31400000 ∧ firstWord spilled.spill.first = 0x80030216 ∧
    (spilled.spill.fences.map fun f => (f.kind, f.inst)) = [(6, 7), (6, 3), (7, 7)] := by decide +kernel

/-! ### The table gives no bits -/

theorem test_noWordSpellsACommand : decodeTableWord 32 0 = none ∧ decodeTableWord 0 0 = none ∧
    State.withFetchWord State.reset 32 5 = State.reset := ⟨rfl, rfl, rfl⟩

end Sys2Proof.Machine.Tests
end

section
/-! PROOFS. The scope statements: which meaning every command has, what the release of PORST_N makes of the role, what a
refused command leaves, and the information commands. -/

namespace Sys2Proof.Machine

/-! ### The meaning of every command -/

/-- Every command but the edges of PORST_N is a meaning that factory test does not have, and that RESET stops (`live`) or
leaves alive (`liveAny`). -/
theorem exec_cases (i : Instr) :
    i = .porstNAssert ∨ (∃ role tileId emitA emitB o, i = .porstNRelease role tileId emitA emitB o) ∨
    ∃ f, (∀ s, exec i s = live s f) ∨ ∀ s, exec i s = liveAny s f := by
  cases i
  case porstNAssert => exact .inl rfl
  case porstNRelease role tileId emitA emitB o => exact .inr (.inl ⟨role, tileId, emitA, emitB, o, rfl⟩)
  case tempConversion | throttleStep | dieLinkFramingLoss | dieLinkFramed | supplyOutOfWindow | tapInstruction | emitEnFall |
      emitEnRise | wrstNAssert | wrstNRelease => exact .inr (.inr ⟨_, .inr fun _ => rfl⟩)
  all_goals exact .inr (.inr ⟨_, .inl fun _ => rfl⟩)

/-- A row that is a host command runs the checks of R498 with its row of the opcode table. -/
theorem exec_hostCommand {i : Instr} {o : OpSpec} {c : Cmd} (h : hostCommand i = some (o, c)) :
    ∃ bs body, ∀ s, exec i s = live s (runCmd o bs body c) := by
  unfold hostCommand at h
  split at h <;> cases h <;> exact ⟨_, _, fun _ => rfl⟩

theorem live_factory {s : State} (h : s.sys.role = .factory) (f : State → State) : live s f = .refused .factoryTest :=
  if_pos h

theorem liveAny_factory {s : State} (h : s.sys.role = .factory) (f : State → State) :
    liveAny s f = .refused .factoryTest :=
  if_pos h

theorem liveAny_keeps_role {s t : State} {f : State → State} (h : liveAny s f = .next t) : t.sys.role = s.sys.role := by
  unfold liveAny at h
  split at h
  · cases h
  · cases h; rfl

theorem live_keeps_role {s t : State} {f : State → State} (h : live s f = .next t) : t.sys.role = s.sys.role := by
  unfold live at h
  split at h
  · cases h
  · cases h
    split <;> rfl

/-- Settles O40: every other command is a meaning that factory test does not have (R8; log 48). -/
theorem factoryTestIsRefused : Obligations.FactoryTestIsRefused := by
  intro i s hrole hassert hrelease
  obtain h | ⟨role, tileId, emitA, emitB, o, h⟩ | ⟨f, h | h⟩ := exec_cases i
  · exact absurd h hassert
  · exact absurd h (hrelease role tileId emitA emitB o)
  · rw [h, live_factory hrole]
  · rw [h, liveAny_factory hrole]

/-! ### The role at the release of PORST_N -/

@[simp] theorem bootRead_sys (o : BootObs) (s : State) : (bootRead o s).sys = s.sys := rfl

@[simp] theorem writeBoot_sys (s : State) : (writeBoot s).sys = s.sys := by simp [writeBoot]

@[simp] theorem fallBack_sys (cause : Nat) (s : State) : (fallBack cause s).sys = s.sys := by simp [fallBack, setSlotSt]

@[simp] theorem startImage_sys (s : State) : (startImage s).sys = s.sys := rfl

/-- The boot ROM chooses among images alone. -/
@[simp] theorem bootSelect_sys (o : BootObs) (s : State) : (bootSelect o s).sys = s.sys := by
  unfold bootSelect
  dsimp only
  repeat' split
  all_goals simp

@[simp] theorem drivePwrOff_role (b : Bool) (s : State) : (drivePwrOff b s).sys.role = s.sys.role := by
  unfold drivePwrOff
  split <;> simp

theorem porstHigh_role (role tileId : Nat) (emitA emitB : Bool) (o : BootObs) {s : State} (h : s.sys.porstLow = true) :
    (porstHigh role tileId emitA emitB o s).sys.role = strapRole role := by
  unfold porstHigh
  rw [if_neg (by simp [h])]
  dsimp only
  split <;> simp [coldState, Sys.cold]

theorem porstHigh_of_high (role tileId : Nat) (emitA emitB : Bool) (o : BootObs) {s : State} (h : s.sys.porstLow = false) :
    porstHigh role tileId emitA emitB o s = s :=
  if_pos h

/-- The role after a step: only the release of a low PORST_N samples it. -/
theorem exec_keeps_role {i : Instr} {s t : State} (h : exec i s = .next t) :
    (∃ role tileId emitA emitB o, i = .porstNRelease role tileId emitA emitB o ∧ s.sys.porstLow = true) ∨
      t.sys.role = s.sys.role := by
  obtain rfl | ⟨role, tileId, emitA, emitB, o, rfl⟩ | ⟨f, hf | hf⟩ := exec_cases i
  · cases h
    exact .inr rfl
  · cases hp : s.sys.porstLow
    case true => exact .inl ⟨role, tileId, emitA, emitB, o, rfl, rfl⟩
    case false =>
      cases h
      exact .inr (by rw [porstHigh_of_high role tileId emitA emitB o hp])
  · exact .inr (live_keeps_role ((hf s).symm.trans h))
  · exact .inr (liveAny_keeps_role ((hf s).symm.trans h))

/-- Settles O41: the release of a low PORST_N samples the strap, and no other command writes the role. -/
theorem roleIsSampledAtPortRelease : Obligations.RoleIsSampledAtPortRelease := by
  refine ⟨fun role tileId emitA emitB o s hlow => ⟨_, rfl, ?_⟩, fun i s t => exec_keeps_role⟩
  have hrole := porstHigh_role role tileId emitA emitB o hlow
  refine ⟨fun h => ?_, fun h => ?_, fun h => ?_, fun h => ?_⟩ <;> exact hrole.trans (by simp [strapRole, h])

/-! ### A refused command -/

theorem mirrorCmd_refused {s : State} {op : Nat} {c : Cmd} {r : Reply} (h : refuses r.status = true) :
    mirrorCmd s op c r = s :=
  if_pos (.inr (.inl (of_decide_eq_true h)))

/-- A LEN above 62 is refused before anything of the command is taken (R498 check 2). -/
theorem runCmd_lenAbove62 {c : Cmd} {s : State} (o : OpSpec) (bs : State → Nat) (body : Body)
    (hready : s.sys.notReady = false) (hlen : 62 < c.len) :
    runCmd o bs body c s = answer s o.op c (rBad .badLength (lenNamed o)) false := by
  unfold runCmd
  rw [if_neg (by simp [hready]), if_pos hlen]

/-- A command that passes the checks 1 to 5 of R498 is executed here. -/
theorem runCmd_arrives {o : OpSpec} {c : Cmd} {s : State} (bs : State → Nat) (body : Body) (h : arrives o c s) :
    runCmd o bs body c s = runHere o (bs s) body c s := by
  obtain ⟨-, hready, hlen, htag, haddr, hroute, hbcast, hbuffers⟩ := h
  have hnotBcast : ¬(c.bcast && !o.bcast) = true := by simpa using hbcast
  unfold runCmd
  rw [if_neg (by simp [hready]), if_neg (by omega), if_neg (by simp [htag]), if_neg (by simp [haddr]), hroute]
  dsimp only
  rw [if_neg hnotBcast, if_neg hbuffers]

/-- An opcode of another role or state is refused by the checks 6 and 7 of R498 without the command's own part, and alike
in every state of that role and device state. -/
theorem execHere_refuses {o : OpSpec} {s : State} (n : Nat) (body : Body) (c : Cmd)
    (h : opInRole o s.sys.role = false ∨ opInState o s.sys.st = false) :
    ∃ r, refuses r.status = true ∧ ∀ u : State, u.sys = s.sys → execHere o n body c u = (u, r) := by
  by_cases hrole : opInRole o s.sys.role = false
  · exact ⟨rBad .roleReject 0, rfl, fun u hu => by rw [execHere, hu, if_pos hrole]⟩
  · have hst : opInState o s.sys.st = false := h.resolve_left hrole
    exact ⟨rBad .stateReject (stateDetail o n), rfl, fun u hu => by rw [execHere, hu, if_neg hrole, if_pos (.inl hst)]⟩

/-- Such a command only takes its tag and is answered; no record of it enters a capture or a pair's mirror (00_scope R11;
14_spillway R555). -/
theorem runHere_refuses {o : OpSpec} {s : State} (n : Nat) (body : Body) (c : Cmd)
    (h : opInRole o s.sys.role = false ∨ opInState o s.sys.st = false) :
    ∃ r e, runHere o n body c s = answer (takeTag s o.op c) o.op c r e := by
  obtain ⟨r, hr, hx⟩ := execHere_refuses n body c h
  refine ⟨r, r.status != .accepted, ?_⟩
  unfold runHere
  dsimp only
  rw [hx _ (by simp), if_pos hr, hx _ (by simp), mirrorCmd_refused hr]

/-- `t` differs from `s` only in what reporting and a command's tag and response touch; a capture, DRAM and a pair take
nothing. -/
def onlyAnswered (s t : State) : Prop := t = hostly s s t ∧ t.cap = s.cap ∧ t.dram = s.dram ∧ t.pair = s.pair

/-- An answer reports and queues a response, whatever commands wait or are in flight. -/
theorem onlyAnswered_answer (s : State) (cmds : Cmds) (op : Nat) (c : Cmd) (r : Reply) (ends : Bool) :
    onlyAnswered s (held s (answer { s with cmds := cmds } op c r ends)) := by
  refine ⟨?_, by simp [held], by simp [held], by simp [held]⟩
  apply State.ext
  all_goals simp [held, hostly, reports]

/-- Settles O47: each of the three refusals ends in an answer to a state in which at most the tag was taken. -/
theorem refusedCommandsChangeNothing : Obligations.RefusedCommandsChangeNothing := by
  intro i o c s hi hrefused
  obtain ⟨bs, body, hexec⟩ := exec_hostCommand hi
  have hgoes : s.acts → (∃ cmds r e, runCmd o bs body c s = answer { s with cmds := cmds } o.op c r e) →
      goes (exec i s) (onlyAnswered s) := by
    rintro hacts ⟨cmds, r, e, hrun⟩
    exact ⟨_, by rw [hexec, live_acts hacts, hrun], onlyAnswered_answer s cmds o.op c r e⟩
  have hhere : arrives o c s → opInRole o s.sys.role = false ∨ opInState o s.sys.st = false →
      goes (exec i s) (onlyAnswered s) := fun harrives hcheck => by
    obtain ⟨r, e, hrun⟩ := runHere_refuses (bs s) body c hcheck
    exact hgoes harrives.1 ⟨_, r, e, (runCmd_arrives bs body harrives).trans hrun⟩
  obtain ⟨hacts, hready, hlen⟩ | ⟨harrives, hrole⟩ | ⟨harrives, hst⟩ := hrefused
  · exact hgoes hacts ⟨s.cmds, _, _, runCmd_lenAbove62 o bs body hready hlen⟩
  · exact hhere harrives (.inl hrole)
  · exact hhere harrives (.inr hst)

/-! ### An opcode that the table does not define -/

theorem exec_undefinedOpcode {op : Nat} {s : State} (c : Cmd) (hacts : s.acts) (hop : opcodes.contains (op % 256) = false)
    (hready : s.sys.notReady = false) :
    exec (.undefinedOpcode op c) s = .next (held s (answer s (op % 256) c (rBad .badOpcode 0) false)) := by
  have hanswer : undefinedOpcode op c s = answer s (op % 256) c (rBad .badOpcode 0) false := by
    unfold undefinedOpcode
    rw [hop, hready, if_neg Bool.false_ne_true, if_neg Bool.false_ne_true]
  exact (live_acts hacts _).trans (by rw [hanswer])

@[simp] theorem held_cmds (s t : State) : (held s t).cmds = t.cmds := rfl

/-- The response waits behind the others, with its words as a state of the same device state and Spillway gives them. -/
theorem answer_cmds_seen {s t : State} (op : Nat) (c : Cmd) (r : Reply) (ends : Bool) (hst : t.sys.st = s.sys.st)
    (hspill : t.spill = s.spill) :
    (answer s op c r ends).cmds = { s.cmds with responses := s.cmds.responses ++
      [{ path := c.path, origin := c.origin, notify := c.notify, tag := c.tag, ends := ends, hw := false
         words := respWords t c.tag r false }] } := by
  rw [answer_cmds, respWords_congr hst hspill]

/-- Settles O49: BAD_OPCODE is answered and no tag is taken (R15). -/
theorem undefinedOpcodeIsRefused : Obligations.UndefinedOpcodeIsRefused := by
  intro op c s hacts hop hready
  obtain ⟨hhostly, hcap, hdram, hpair⟩ := onlyAnswered_answer s s.cmds (op % 256) c (rBad .badOpcode 0) false
  refine ⟨_, exec_undefinedOpcode c hacts hop hready, hhostly, hcap, hdram, hpair, ?_⟩
  generalize ht : held s (answer s (op % 256) c (rBad .badOpcode 0) false) = t
  have hcmds : t.cmds = (answer s (op % 256) c (rBad .badOpcode 0) false).cmds := by rw [← ht, held_cmds]
  rw [hcmds]
  exact answer_cmds_seen (op % 256) c (rBad .badOpcode 0) false (by simp [← ht, held]) (by simp [← ht, held])

/-! ### The state after reset -/

theorem emissionOn_boot {s : State} (h : s.sys.st = .boot) : emissionOn s = false := by simp [emissionOn, h]

theorem resetHeld_of_high {s : State} (h : s.sys.porstLow = false) : s.resetHeld := fun hlow => by simp [h] at hlow

/-- Settles O44: BOOT has emission off, PORST_N is high, and the tables are empty. -/
theorem resetStateIsInOrder : Obligations.ResetStateIsInOrder :=
  ⟨rfl, rfl, rfl, rfl, rfl, rfl, rfl, rfl, rfl, emissionOn_boot rfl, ⟨rfl, rfl, rfl, rfl⟩, resetHeld_of_high rfl⟩

/-! ### The information commands -/

/-- The counters a GET_COUNTERS word names (13_mailbox R515). -/
theorem bodyGetCounters_exist {c : Cmd} {s : State} (hmin : 1 ≤ bits (pw c 0) 1 7) (hmax : bits (pw c 0) 1 7 ≤ 60)
    (hall : ∀ i < bits (pw c 0) 1 7, ctrInstance s (bits (pw c 0) 24 8) (bits (pw c 0) 16 8) (bits (pw c 0) 8 8 + i) = true) :
    let l := (List.range (bits (pw c 0) 1 7)).map (bits (pw c 0) 8 8 + ·)
    bodyGetCounters c s =
      (if bit (pw c 0) 0 then l.foldl (ctrClear (bits (pw c 0) 24 8) (bits (pw c 0) 16 8)) s else s,
        rWords (w32 (pw c 0) :: l.flatMap (ctrWords s (bits (pw c 0) 24 8) (bits (pw c 0) 16 8)))) := by
  intro l
  have hsome : l.isEmpty = false := by simpa [l] using Nat.ne_of_gt hmin
  have hexist : (l.all fun ix => ctrInstance s (bits (pw c 0) 24 8) (bits (pw c 0) 16 8) ix) = true := by simpa [l] using hall
  have hfit : ¬60 < l.length := by simpa [l] using hmax
  exact if_neg (not_or.2 ⟨ne_true_of_eq_false hsome, not_or.2 ⟨hfit, ne_false_of_eq_true hexist⟩⟩)

/-- EVENT_READ with MAX not 0 (13_mailbox R510). -/
theorem bodyEventRead_eq {c : Cmd} {s : State} (hmax : pw c 0 % 16 ≠ 0) :
    let p := if eqEnabled s then ([], s.evs.pull) else takeWhole (pw c 0 % 16) s.evs.pull
    bodyEventRead c s =
      ({ s with evs := { s.evs with pull := p.2, pullDropped := 0 } },
        rWords (w32 ((p.1.map List.length).sum + (p.2.map List.length).sum % 65536 * 256 + s.evs.pullDropped % 256 * 2 ^ 24) ::
          p.1.flatten.flatten)) :=
  if_neg hmax

/-- Settles O1: what each command's own part answers, behind the checks that an accepted command passes. -/
theorem informationCommandsComplete : Obligations.InformationCommandsComplete := by
  refine ⟨?getInfo, ?getState, ?getCounters, ?eventRead, ?eventReadQueue, ?linkStatus, ?resetWarm, ?undefined⟩
  case getInfo => exact runs_of noBuild bodyGetInfo (fun _ _ => rfl) (fun _ _ _ => rfl) fun _ _ _ => rfl
  case getState => exact runs_of noBuild bodyGetState (fun _ _ => rfl) (fun _ _ _ => rfl) fun _ _ _ => rfl
  case getCounters =>
    refine runs_of noBuild bodyGetCounters (fun _ _ => rfl) (fun _ _ _ => rfl) ?_
    rintro c s ⟨hmin, hmax, hall⟩
    exact bodyGetCounters_exist hmin hmax hall
  case eventRead =>
    refine runs_of noBuild bodyEventRead (fun _ _ => rfl) (fun _ _ _ => rfl) ?_
    rintro c s ⟨hmax, hqueue⟩
    rw [bodyEventRead_eq hmax, hqueue]
    rfl
  case eventReadQueue =>
    refine runs_of noBuild bodyEventRead (fun _ _ => rfl) (fun _ _ _ => rfl) ?_
    rintro c s ⟨hmax, hqueue⟩
    rw [bodyEventRead_eq hmax, hqueue]
    simp
  case linkStatus =>
    refine runs_of noBuild bodyLinkStatus (fun _ _ => rfl) (fun _ _ _ => rfl) ?_
    rintro c s ⟨hport, hpeer⟩
    unfold bodyLinkStatus
    dsimp only
    rw [if_neg (not_or.2 ⟨by simp [hport], hpeer⟩)]
    cases (wport s (pw c 0 % 16)).lockedAt <;> simp only [beq_iff_eq, Nat.add_assoc, Option.elim_none, Option.elim_some]
  case resetWarm => exact runs_of noBuild bodyResetWarm (fun _ _ => rfl) (fun _ _ _ => rfl) fun _ _ _ => rfl
  case undefined => exact fun op c s hacts hready hop => exec_undefinedOpcode c hacts hop hready

end Sys2Proof.Machine
end

section

namespace Sys2Proof.Machine

/-! ### The emission pins outside the TILE role -/

/-- Only a TILE drives its sinks and shadow sinks, whatever the device state, the TAP and the die-to-die link are
(01 R19, R20). -/
theorem pinLevel_sinks_of_not_tile {s : State} (hrole : s.sys.role ≠ .tile) : pinLevel s .sinks = .highZ :=
  if_pos (by simp [hrole])

/-- Only a TILE drives its scan control outputs away from low (01 R19, R20). -/
theorem pinLevel_scanControl_of_not_tile {s : State} (hrole : s.sys.role ≠ .tile) :
    pinLevel s .scanControl = .driven false :=
  if_pos (by simp [hrole])

/-- Settles O60: a BED is no TILE, and only a TILE lets these pins go. -/
theorem bedHoldsItsSinks : Obligations.BedHoldsItsSinks := by
  intro s hbed
  have hrole : s.sys.role ≠ .tile := by simp [hbed]
  exact ⟨pinLevel_sinks_of_not_tile hrole, pinLevel_scanControl_of_not_tile hrole⟩

end Sys2Proof.Machine
end

section

namespace Sys2Proof.Machine

/-! ### The confirmation of a short lamp -/

/-- A failed short sample of a SUSPECT lamp short of SHORT_CONFIRM lengthens its run (03_lamp_drive R127). -/
theorem shortObs_fail_counts {confirm : Nat} {h : LampH} (hsuspect : h.health = 1) (hfew : h.shortRun + 1 < confirm) :
    shortObs confirm h true = { h with shortRun := h.shortRun + 1, shortsOk := false } := by
  unfold shortObs
  rw [hsuspect]
  exact if_neg (by omega)

/-- The failed short sample that brings the run to SHORT_CONFIRM makes the lamp SHORT (03_lamp_drive R127). -/
theorem shortObs_fail_confirms {confirm : Nat} {h : LampH} (hsuspect : h.health = 1) (hlast : confirm ≤ h.shortRun + 1) :
    (shortObs confirm h true).health = 3 := by
  unfold shortObs
  rw [hsuspect]
  exact congrArg LampH.health (if_pos hlast)

/-- A passed short sample of a SUSPECT lamp restarts its run (03_lamp_drive R127). -/
theorem shortObs_pass_restarts (confirm : Nat) {h : LampH} (hsuspect : h.health = 1) :
    shortObs confirm h false = { h with shortRun := 0 } := by
  unfold shortObs
  rw [hsuspect]
  rfl

/-- Failed short samples below SHORT_CONFIRM are counted and leave the lamp in SUSPECT. -/
theorem failedShorts_counted {confirm : Nat} {h : LampH} (hsuspect : h.health = 1) (hfresh : h.shortRun = 0) {n : Nat}
    (hn : n < confirm) :
    ((List.range n).foldl (fun x _ => shortObs confirm x true) h).health = 1 ∧
      ((List.range n).foldl (fun x _ => shortObs confirm x true) h).shortRun = n := by
  induction n with
  | zero => exact ⟨hsuspect, hfresh⟩
  | succ n ih =>
    obtain ⟨hhealth, hrun⟩ := ih (by omega)
    rw [List.range_succ, List.foldl_concat, shortObs_fail_counts hhealth (by omega)]
    exact ⟨hhealth, congrArg (· + 1) hrun⟩

/-- Settles O58: by induction on the run; the sample after `SHORT_CONFIRM - 1` failed ones confirms. -/
theorem confirmedShortLamp : Obligations.ConfirmedShortLamp := by
  intro confirm h hpos hsuspect hfresh
  refine ⟨fun n hn => failedShorts_counted hsuspect hfresh hn, ?_, fun n hn => ?_⟩
  · obtain ⟨before, rfl⟩ := Nat.exists_eq_add_of_le' hpos
    obtain ⟨hhealth, hrun⟩ := failedShorts_counted hsuspect hfresh (Nat.lt_add_one before)
    rw [List.range_succ, List.foldl_concat]
    exact shortObs_fail_confirms hhealth (by omega)
  · obtain ⟨hhealth, -⟩ := failedShorts_counted hsuspect hfresh hn
    rw [shortObs_pass_restarts confirm hhealth]
    exact ⟨hhealth, rfl⟩

end Sys2Proof.Machine
end

section

namespace Sys2Proof.Machine

/-! ### The configuration commands -/

/-- CFG_WRITE with no case of R517 against it. -/
theorem bodyCfgWrite_eq {c : Cmd} {s : State} (hok : cfgFault true c s = none) :
    bodyCfgWrite c s =
      ({ s with keys.staged := tabSet none s.keys.staged (cfgKey c) (some (maskKey (cfgKey c)
          (putBytes (keyStaged s (cfgKey c)) (cfgOffset c) ((bytesOf (c.payload.drop 2)).take (cfgBytes c))))) }, rOk) := by
  unfold bodyCfgWrite
  rw [hok]

/-- CFG_READ with no case of R517 against it. -/
theorem bodyCfgRead_eq {c : Cmd} {s : State} (hok : cfgFault false c s = none) :
    bodyCfgRead c s =
      (s, rWords ([w32 (pw c 0 / 65536 * 65536 + pw c 0 % 2), w32 (pw c 1)] ++
        wordsOf (((if bit (pw c 0) 0 then keyStaged s (cfgKey c) else keyCommitted s (cfgKey c)).drop (cfgOffset c)).take
          (cfgBytes c)))) := by
  unfold bodyCfgRead
  rw [hok]

/-- CFG_COMMIT's DISCARD form drops what is staged (13_mailbox R518). -/
theorem cfgCommit_discard {c : Cmd} {s : State} (hdiscard : bit (pw c 0) 0 = true) :
    cfgCommit c s = ({ s with keys.staged := [] }, rOk) :=
  if_pos hdiscard

/-- CFG_COMMIT with nothing staged. -/
theorem cfgCommit_noneStaged {c : Cmd} {s : State} (hcommit : bit (pw c 0) 0 = false)
    (hnone : (stagedIds s).isEmpty = true) : cfgCommit c s = (s, rOk) := by
  unfold cfgCommit
  rw [if_neg (ne_true_of_eq_false hcommit), if_pos hnone]

/-- CFG_COMMIT of staged values that pass every check. -/
theorem cfgCommit_staged {c : Cmd} {s : State} (hcommit : bit (pw c 0) 0 = false)
    (hsome : (stagedIds s).isEmpty = false) (hok : keyFault s false = none) : cfgCommit c s = (commitStaged s, rOk) := by
  unfold cfgCommit
  rw [if_neg (ne_true_of_eq_false hcommit), if_neg (ne_true_of_eq_false hsome), hok]

/-- SEAL_CONFIG of a sealed configuration. -/
theorem bodySealConfig_sealed (c : Cmd) {s : State} (hsealed : s.sys.sealed = true) : bodySealConfig c s = (s, rOk) :=
  if_pos hsealed

/-- SEAL_CONFIG of a configuration that passes every check, on a device whose DRAM is trained (13_mailbox R519). -/
theorem bodySealConfig_seals (c : Cmd) {s : State} (hopen : s.sys.sealed = false)
    (hdram : s.sys.role = .sender → s.sys.dramTrained = true) (hok : sealFault s = none) :
    bodySealConfig c s =
      (pairFlags (sealLinks (raise { bumpGen (applyStaged s) with sys.sealed := true } 0x0003
        (args [(4, (bumpGen (applyStaged s)).sys.configGen)]))), rOk) := by
  have htrained : ¬(s.sys.role = .sender ∧ s.sys.dramTrained = false) := fun ⟨hrole, hnot⟩ => by simp [hdram hrole] at hnot
  unfold bodySealConfig
  rw [if_neg (ne_true_of_eq_false hopen), if_neg htrained, hok]

/-- The commit of a command's own keys, checked as if they alone were staged (13_mailbox R523). -/
theorem commitOwn_eq {l : List (Nat × List Byte)} {s : State}
    (hok : keyFault { s with keys.staged := l.foldl (fun t p => tabSet none t p.1 (some p.2)) [] } false = none) :
    commitOwn l s = (bumpGen (l.foldl (fun t p => applyKey p.1 p.2 t) s), rOk) := by
  unfold commitOwn
  dsimp only
  rw [hok]

/-- The commit of one own key. -/
theorem commitOwn_singleton {id : Nat} {v : List Byte} {s : State}
    (hok : keyFault { s with keys.staged := tabSet none [] id (some v) } false = none) :
    commitOwn [(id, v)] s = (bumpGen (applyKey id v s), rOk) := by
  rw [commitOwn_eq (l := [(id, v)]) hok, List.foldl_cons, List.foldl_nil]

/-- Settles O2: what each command's own part answers, behind the checks that an accepted command passes. -/
theorem configurationCommandsComplete : Obligations.ConfigurationCommandsComplete := by
  refine ⟨?write, ?read, ?commit, ?commitNone, ?discard, ?sealOpen, ?sealSealed, ?drive, ?brightness⟩
  case write => exact runs_of noBuild bodyCfgWrite (fun _ _ => rfl) (fun _ _ _ => rfl) fun _ _ => bodyCfgWrite_eq
  case read => exact runs_of noBuild bodyCfgRead (fun _ _ => rfl) (fun _ _ _ => rfl) fun _ _ => bodyCfgRead_eq
  case commit =>
    refine runs_of noBuild bodyCfgCommit (fun _ _ => rfl) (fun _ _ _ => rfl) ?_
    rintro c s ⟨hcommit, hsome, hok⟩
    exact cfgCommit_staged hcommit hsome hok
  case commitNone =>
    refine runs_of noBuild bodyCfgCommit (fun _ _ => rfl) (fun _ _ _ => rfl) ?_
    rintro c s ⟨hcommit, hnone⟩
    exact cfgCommit_noneStaged hcommit hnone
  case discard => exact runs_of noBuild bodyCfgCommitDiscard (fun _ _ => rfl) (fun _ _ _ => rfl) fun _ _ => cfgCommit_discard
  case sealOpen =>
    refine runs_of noBuild bodySealConfig (fun _ _ => rfl) (fun _ _ _ => rfl) ?_
    rintro c s ⟨hopen, hdram, hok⟩
    exact bodySealConfig_seals c hopen hdram hok
  case sealSealed => exact runs_of noBuild bodySealConfig (fun _ _ => rfl) (fun _ _ _ => rfl) fun c _ => bodySealConfig_sealed c
  case drive => exact runs_of noBuild bodyDriveSet (fun _ _ => rfl) (fun _ _ _ => rfl) fun _ _ => commitOwn_eq
  case brightness => exact runs_of noBuild bodyBrightnessSet (fun _ _ => rfl) (fun _ _ _ => rfl) fun _ _ => commitOwn_singleton

end Sys2Proof.Machine
end

section

namespace Sys2Proof.Machine

/-! ### Stages, strings and the trace -/

/-- TRACE_DONE of a triggered unit whose enabled channels have all stopped (12_loops R473). -/
theorem traceDone_stopped {s : State} (hstopped : s.trace.st = 2 ∧
      (List.range 8).all (fun c => !(tchan s c).enable || decide (16384 - s.trace.pre ≤ (tchan s c).after))) :
    traceDone s = raise { s with trace.st := 3 } 0x0C05 (args [(4, s.trace.firedBy), (8, shortForm s.trace.firedSys)]) :=
  if_pos hstopped

/-- The source and argument that the trigger asks for act (12_loops R474). -/
theorem traceTrigger_asked {s : State} {src arg : Nat}
    (hasked : s.trace.trigSrc = src ∧ traceArgOk src s.trace.trigArg arg = true) :
    traceTrigger s src arg = traceFire s src :=
  if_pos hasked

/-- Settles O34: each event's own part past the guard under which it does nothing. -/
theorem loopEventsComplete : Obligations.LoopEventsComplete := by
  refine ⟨?softStart, ?string, ?headroom, ?done, ?trigger⟩
  case softStart =>
    exact fun n ok => steps_of (softStartDone n ok) (fun _ => rfl) fun s hsoft => if_neg hsoft
  case string =>
    exact fun n sample => steps_of (stringUpdate n sample) (fun _ => rfl) fun s hdue => if_neg hdue
  case headroom =>
    exact fun n => steps_of (headroomUpdate n) (fun _ => rfl) fun s hdue => if_neg hdue
  case done => exact steps_of traceDone (fun _ => rfl) fun _ => traceDone_stopped
  case trigger =>
    exact fun src arg => steps_of (traceTrigger · src arg) (fun _ => rfl) fun _ => traceTrigger_asked

end Sys2Proof.Machine
end

section

namespace Sys2Proof.Machine

/-! ### The correction chain of a lamp -/

/-- The low field of `n` bits of a word. -/
theorem bits_low {n m : Nat} (e : Nat) (hm : m < 2 ^ n) : bits (e * 2 ^ n + m) 0 n = m := by
  rw [bits, Nat.pow_zero, Nat.div_one, Nat.mul_add_mod_self_right, Nat.mod_eq_of_lt hm]

/-- The field at bit `n` of a word, above a field of `n` bits. -/
theorem bits_high {n k e m : Nat} (he : e < 2 ^ k) (hm : m < 2 ^ n) : bits (e * 2 ^ n + m) n k = e := by
  rw [bits, Nat.mul_comm, Nat.mul_add_div (Nat.two_pow_pos n), Nat.div_eq_of_lt hm, Nat.add_zero, Nat.mod_eq_of_lt he]

/-- The decoding of EXP `e` and MAN `m` (04_fretboard R136). -/
theorem pixelDecode_fields {e m : Nat} (he : e < 32) (hm : m < 2048) :
    pixelDecode (e * 2048 + m) =
      if e = 0 then m >>> 5 else if 19 ≤ e then 16777215 else if 6 ≤ e then (2048 + m) <<< (e - 6) else (2048 + m) >>> (6 - e) := by
  have hexp : bits (e * 2048 + m) 11 5 = e := bits_high (n := 11) (k := 5) he hm
  have hman : bits (e * 2048 + m) 0 11 = m := bits_low (n := 11) e hm
  simp only [pixelDecode, hexp, hman, Nat.shiftLeft_eq, Nat.shiftRight_eq_div_pow]

/-- Settles O55: the two bounds name the codes of EXP 0 with MAN below 32 and of EXP 19 and above. -/
theorem pixelCodesDecode : Obligations.PixelCodesDecode := by
  intro e m he hm
  have hfields := pixelDecode_fields he hm
  refine ⟨hfields, fun hdark => ?_, fun hfull => ?_⟩
  · rw [hfields, if_pos (by omega), Nat.shiftRight_eq_div_pow]
    exact Nat.div_eq_of_lt (by omega)
  · rw [hfields, if_neg (by omega), if_pos (by omega)]

/-- A limit to `0 … hi` as an integer. -/
theorem satU_eq (hi : Nat) (i : Int) : (satU hi i : Int) = max (0 : Int) (min (hi : Int) i) := by
  unfold satU
  omega

/-- A quotient by a power of two is an arithmetic shift. -/
theorem fdiv_two_pow (a : Int) (n : Nat) : fdiv a (2 ^ n) = a >>> n := by
  rw [fdiv, Int.fdiv_eq_ediv_of_nonneg a (by positivity), Int.shiftRight_eq_div_pow]
  norm_cast

/-- The matrix in the order in which the engine takes the two other components of colour `c` (04_fretboard R140). -/
theorem matrixApply_eq (p c : Nat) (x : List Nat) :
    (matrixApply p c x : Int) = max (0 : Int) (min (16777215 : Int)
      (((entryDiag p c : Int) * x.getD c 0 +
        2 * (entryOff p c (if c = 0 then 1 else 0) * x.getD (if c = 0 then 1 else 0) 0 +
          entryOff p c (if c = 2 then 1 else 2) * x.getD (if c = 2 then 1 else 2) 0)) >>> (13 : Nat))) := by
  rw [← fdiv_two_pow]
  exact satU_eq _ _

/-- Settles O56: the sum of the two other components is the same in either order. -/
theorem matrixOfALamp : Obligations.MatrixOfALamp := by
  intro p c j k x0 x1 x2 hc hj hk hcj hck hjk
  rw [matrixApply_eq]
  obtain ⟨rfl, rfl⟩ | ⟨rfl, rfl⟩ : (j = (if c = 0 then 1 else 0) ∧ k = if c = 2 then 1 else 2) ∨
      (k = (if c = 0 then 1 else 0) ∧ j = if c = 2 then 1 else 2) := by grind
  · rfl
  · rw [add_comm (entryOff p c (if c = 2 then 1 else 2) * _)]

/-- A TILE in RUN whose active copy holds 512 at entry 0 of curve 0; a load has been accepted since, and the entry failed. -/
def failedCurve : State :=
  { State.reset with
    sys.st := .run, fret.curve := [(0, some 512)], fret.loadSince := true, fret.failed := [2 * 2 ^ 20] }

/-- Refutes O57: the engine reads a failed entry as the default curve's (R155), whatever the active copy holds; at M = 0 the
failed entry 0 gives 0, where the active copy's gives 512. -/
theorem not_curveOfALamp : ¬ Obligations.CurveOfALamp := by
  intro h
  obtain ⟨hcurve, -, -⟩ := h failedCurve 0 0 (by decide)
  have hactive := hcurve 0 9 (fun _ => ⟨rfl, rfl⟩) (fun hbig => absurd hbig (by decide))
  have hengine : curveApply failedCurve 0 0 = 0 := rfl
  have hentry : curveEntry failedCurve failedCurve.fret.active 0 0 = 512 := rfl
  rw [hengine, hentry] at hactive
  simp at hactive

end Sys2Proof.Machine
end

section

namespace Sys2Proof.Machine

/-! ### The commands and events of the fretboard -/

/-- FRETBOARD_LOAD of an index range and a length that fit, with no commit pending (04_fretboard R146, R147). -/
theorem bodyFretboardLoad_eq {c : Cmd} {s : State}
    (happlied : ¬(((fbHead (pw c 0)).table = 3 ∨ bit (fbHead (pw c 0)).flags 0 = true) ∧ s.sys.st ≠ .standby))
    (htable : (fbHead (pw c 0)).table ≤ 3) (hlen : c.len = 1 + fbWords (fbHead (pw c 0)))
    (hrange : fbRange (fbHead (pw c 0)) = true) (hidle : fbBusy s = false) :
    bodyFretboardLoad c s =
      ({ (List.range (fbHead (pw c 0)).count).foldl (loadEntry (fbHead (pw c 0)) c) s with
          fret.loadSince := true }, rOk) := by
  unfold bodyFretboardLoad
  dsimp only
  rw [if_neg happlied, if_neg (Nat.not_lt.2 htable), if_neg (not_not.2 hlen), if_neg (ne_false_of_eq_true hrange),
    if_neg (ne_true_of_eq_false hidle)]

/-- FRETBOARD_READ of a range that a response holds, of a copy that no commit is writing (04_fretboard R148). -/
theorem bodyFretboardRead_eq {c : Cmd} {s : State} (htable : (fbHead (pw c 0)).table ≤ 2)
    (hrange : fbRange (fbHead (pw c 0)) = true) (hfit : fbWords (fbHead (pw c 0)) ≤ 61)
    (hquiet : bit (fbHead (pw c 0)).flags 0 = true → s.fret.copying = none) :
    bodyFretboardRead c s =
      (s, rWords (w32 (pw c 0) :: (List.range (fbHead (pw c 0)).count).flatMap
        (readEntry s (if bit (fbHead (pw c 0)).flags 0 then 1 - s.fret.active else s.fret.active) (fbHead (pw c 0))))) := by
  have hfits : ¬(2 < (fbHead (pw c 0)).table ∨ fbRange (fbHead (pw c 0)) = false ∨ 61 < fbWords (fbHead (pw c 0))) :=
    not_or.2 ⟨Nat.not_lt.2 htable, not_or.2 ⟨ne_false_of_eq_true hrange, Nat.not_lt.2 hfit⟩⟩
  have hstill : ¬(bit (fbHead (pw c 0)).flags 0 = true ∧ s.fret.copying.isSome = true) := fun ⟨hshadow, hcopies⟩ => by
    simp [hquiet hshadow] at hcopies
  unfold bodyFretboardRead
  dsimp only
  rw [if_neg hfits, if_neg hstill]

/-- WEAR_READ of a range that a response holds (04_fretboard R148). -/
theorem bodyWearRead_eq {c : Cmd} (s : State) (htable : (fbHead (pw c 0)).table = 3)
    (hrange : fbRange (fbHead (pw c 0)) = true) (hfit : fbWords (fbHead (pw c 0)) ≤ 61) :
    bodyWearRead c s =
      (s, rWords (w32 (pw c 0) :: (List.range (fbWords (fbHead (pw c 0)))).map (wearWord s (fbHead (pw c 0))))) :=
  if_neg (not_or.2 ⟨not_not.2 htable, not_or.2 ⟨ne_false_of_eq_true hrange, Nat.not_lt.2 hfit⟩⟩)

/-- LAMP_HEALTH_READ of whole words of lamps (13_mailbox R522). -/
theorem bodyLampHealthRead_eq {c : Cmd} (s : State) (hsome : 1 ≤ bits (pw c 0) 26 6) (hfit : bits (pw c 0) 26 6 ≤ 61)
    (haligned : bits (pw c 0) 0 17 % 16 = 0) (hrange : bits (pw c 0) 0 17 + 16 * bits (pw c 0) 26 6 ≤ 98304) :
    bodyLampHealthRead c s =
      (s, rWords (w32 (pw c 0) ::
        (List.range (bits (pw c 0) 26 6)).map fun i => healthWord s (bits (pw c 0) 0 17 + 16 * i))) :=
  if_neg (by omega)

/-- A commit takes the copies at once in STANDBY and SAFE and waits elsewhere (04_fretboard R149). -/
theorem fbCommit_exchanges {c : Cmd} {s : State} (hidle : fbBusy s = false) :
    fbCommit false c s =
      (let s1 := { s with fret := { s.fret with
          commit := some ⟨bit (fbHead (pw c 0)).flags 2, false, c.tag, s.time.loc + 100 * usTicks⟩ } }
        if s.sys.st = .standby ∨ s.sys.st = .safe then fbExchange s1 0xFFFF else s1, rAccepted) := by
  unfold fbCommit
  dsimp only
  rw [if_neg (ne_true_of_eq_false hidle), if_neg Bool.false_ne_true]
  split <;> rfl

/-- A discard begins the copy of the active set over the staged one (04_fretboard R150). -/
theorem fbCommit_discards {c : Cmd} {s : State} (hidle : fbBusy s = false) :
    fbCommit true c s =
      ({ s with fret := { s.fret with
          commit := some ⟨bit (fbHead (pw c 0)).flags 2, true, c.tag, s.time.loc + 100 * usTicks⟩
          copying := some 0xFFFE, loadSince := false } }, rAccepted) :=
  if_neg (ne_true_of_eq_false hidle)

/-- Settles O6: what each command's own part answers, behind the checks that an accepted command passes. -/
theorem tileCommandsComplete : Obligations.TileCommandsComplete := by
  refine ⟨?load, ?read, ?commit, ?discard, ?health, ?wear⟩
  case load =>
    refine runs_of noBuild bodyFretboardLoad (fun _ _ => rfl) (fun _ _ _ => rfl) ?_
    rintro c s ⟨happlied, htable, hlen, hrange, hidle⟩
    exact bodyFretboardLoad_eq happlied htable hlen hrange hidle
  case read =>
    refine runs_of noBuild bodyFretboardRead (fun _ _ => rfl) (fun _ _ _ => rfl) ?_
    rintro c s ⟨htable, hrange, hfit, hquiet⟩
    exact bodyFretboardRead_eq htable hrange hfit hquiet
  case commit =>
    refine runs_of noBuild bodyFretboardCommit (fun _ _ => rfl) (fun _ _ _ => rfl) ?_
    rintro c s ⟨hcommit, hidle⟩
    rw [bodyFretboardCommit, hcommit, fbCommit_exchanges hidle]
  case discard =>
    refine runs_of noBuild bodyFretboardCommitDiscard (fun _ _ => rfl) (fun _ _ _ => rfl) ?_
    rintro c s ⟨hdiscard, hidle⟩
    rw [bodyFretboardCommitDiscard, hdiscard, fbCommit_discards hidle]
  case health =>
    refine runs_of noBuild bodyLampHealthRead (fun _ _ => rfl) (fun _ _ _ => rfl) ?_
    rintro c s ⟨hsome, hfit, haligned, hrange⟩
    exact bodyLampHealthRead_eq s hsome hfit haligned hrange
  case wear =>
    refine runs_of noBuild bodyWearRead (fun _ _ => rfl) (fun _ _ _ => rfl) ?_
    rintro c s ⟨htable, hrange, hfit⟩
    exact bodyWearRead_eq s htable hrange hfit

/-- WEAR_TRANSFER of a frame that starts a second or more after the last transfer (04_fretboard R158). -/
theorem wearTransfer_due {s : State} {t : Int} (hlast : s.fret.lastTransfer = some t)
    (hdue : timelineOn s ∧ s.tl.active ∧ t + secTicks ≤ s.tl.start) :
    wearTransfer s =
      { (List.range 98304).foldl wearLamp s with
        fret.lastTransfer := some s.tl.start, fret.transfers := s.fret.transfers + 1 } := by
  unfold wearTransfer
  rw [hlast]
  exact if_pos hdue

/-- FRETBOARD_EXCHANGE at a decision instant that a commit has waited for (04_fretboard R149). -/
theorem fretboardExchange_due {s : State} {k : FbCommit} (hcommit : s.fret.commit = some k)
    (hdue : timelineOn s ∧ s.tl.decided.isSome ∧ k.discard = false ∧ s.fret.copying.isNone ∧ k.earliest ≤ s.time.loc) :
    fretboardExchange s = fbExchange s s.tl.decidedNum := by
  unfold fretboardExchange
  rw [hcommit]
  exact if_pos hdue

/-- Settles O30: each event's own part past the condition under which it does nothing. -/
theorem fretboardEventsComplete : Obligations.FretboardEventsComplete := by
  refine ⟨?transfer, ?step, ?save, ?exchange, ?copy, ?persist⟩
  case transfer => exact fun t => steps_of wearTransfer (fun _ => rfl) fun s ⟨hlast, hdue⟩ => wearTransfer_due hlast hdue
  case step => exact steps_of wearStep (fun _ => rfl) fun s hdue => if_neg hdue
  case save => exact steps_of wearSave (fun _ => rfl) fun s hdue => if_neg hdue
  case exchange =>
    exact fun k => steps_of fretboardExchange (fun _ => rfl) fun s ⟨hcommit, hdue⟩ => fretboardExchange_due hcommit hdue
  case copy =>
    refine fun frame k => steps_of fretboardCopyDone (fun _ => rfl) ?_
    rintro s ⟨hcopying, hcommit⟩
    unfold fretboardCopyDone
    rw [hcopying, hcommit]
  case persist =>
    refine fun img tag rest => steps_of fretboardPersistDone (fun _ => rfl) ?_
    intro s hwaits
    unfold fretboardPersistDone
    rw [hwaits]

end Sys2Proof.Machine
end

section

namespace Sys2Proof.Machine

/-! ### Source ports, Ethernet frames and stream packets -/

/-- STREAM_TIMEOUT of a bound stream not yet lost, with no frame completed for STREAM_TIMEOUT (05_composition R178). -/
theorem streamTimeout_due {s : State} {k : Nat} {x : Stream} (hbound : stream s k = some x)
    (hlate : ¬(x.lost ∨ s.time.loc < x.lastDone + keyU s 0x0703 0 2 * msTicks)) :
    streamTimeout k s = raise (setStream s k (some { x with lost := true })) 0x0702 (args [(4, k), (4, x.lastTs)]) := by
  unfold streamTimeout
  rw [hbound]
  exact if_neg hlate

/-- Settles O25: each event's own part past the condition under which it does nothing. -/
theorem sourcePortEventsComplete : Obligations.SourcePortEventsComplete := by
  refine ⟨?start, ?change, ?frame, ?packet, ?timeout⟩
  case start => exact fun p => steps_of (sourceStart p) (fun _ => rfl) fun s hstart => if_neg hstart
  case change =>
    exact fun p lock corrected uncorr =>
      steps_of (sourceChange p lock corrected uncorr) (fun _ => rfl) fun s hport => if_neg hport
  case frame =>
    exact fun p len fcs dst arpFor asker =>
      steps_of (ethernetFrame p len fcs dst arpFor asker) (fun _ => rfl) fun s hup => if_neg hup
  case packet =>
    exact fun port vid dst src udp pt ts marker rows =>
      steps_of (streamPacket port vid dst src udp pt ts marker rows) (fun _ => rfl) fun s hup => if_neg hup
  case timeout =>
    exact fun k x => steps_of (streamTimeout k) (fun _ => rfl) fun s ⟨hbound, hlate⟩ => streamTimeout_due hbound hlate

end Sys2Proof.Machine
end

section

namespace Sys2Proof.Machine

/-! ### The cascade and pair commands -/

/-- ENUMERATE of idle cascade ports starts each of them; FULL is for STANDBY alone (07_cascade_link R260; that a port not in
cascade mode is passed over is log 21). -/
theorem bodyEnumerate_starts {c : Cmd} {s : State} {ports : List Nat}
    (hports : ((List.range 8).filter fun n => bit (pw c 0) n && portMode s n == 1 && !(pairPort s n && !s.pair.active)) = ports)
    (hfull : bit (pw c 0) 8 = true → s.sys.st = .standby) (hsome : ports ≠ [])
    (hidle : ∀ n ∈ ports, (casc s n).running = false) :
    bodyEnumerate c s = (ports.foldl (startEnum (bit (pw c 0) 8) (some c.tag)) s, rAccepted) := by
  have hallowed : ¬(bit (pw c 0) 8 && s.sys.st != .standby) = true := by simpa using hfull
  have hnoneRuns : ¬(ports.any fun n => (casc s n).running) = true := by simpa using hidle
  have hnamed : ¬ports.isEmpty = true := by simpa using hsome
  unfold bodyEnumerate
  dsimp only
  rw [hports, if_neg hallowed, if_neg hnoneRuns, if_neg hnamed]

/-- TOPO_READ of 1 to 15 entries (07_cascade_link R260). -/
theorem bodyTopoRead_eq {c : Cmd} (s : State) (hsome : bits (pw c 0) 16 8 ≠ 0) (hfit : bits (pw c 0) 16 8 ≤ 15) :
    bodyTopoRead c s =
      (s, rWords (w32 (pw c 0 % 8 + bits (pw c 0) 8 8 * 256 + min (bits (pw c 0) 16 8) (256 - bits (pw c 0) 8 8) * 65536 +
          tileCount s (pw c 0 % 8) * 2 ^ 24) ::
        (List.range (min (bits (pw c 0) 16 8) (256 - bits (pw c 0) 8 8))).flatMap fun i =>
          topoWords (topo s (pw c 0 % 8) (bits (pw c 0) 8 8 + i)))) :=
  if_neg (not_or.2 ⟨hsome, Nat.not_lt.2 hfit⟩)

/-- HANDOVER on the active unit schedules the change while the synchronised peer is up and no BED's build is under way
(17_redundancy R640, R642; that a hand-over already scheduled bars another is the model's choice). -/
theorem bodySwitch_handover {c : Cmd} {s : State} (hpaired : paired s = true) (hop : pw c 0 % 4 = 0)
    (hactive : s.pair.active = true) (hnone : s.pair.hand = none) (hsynced : peerSynced s = true) (hup : peerUp s = true)
    (hbuild : ¬(s.sys.role = .bed ∧ 2 ≤ s.bed.build.st ∧ s.bed.build.st ≤ 5)) :
    bodySwitch c s = ({ s with pair.hand := some (c.tag + 1, 2, handTime s) }, rAccepted) := by
  have hfree : ¬(s.pair.hand.isSome = true ∨ peerSynced s = false ∨ peerUp s = false ∨
      (s.sys.role = .bed ∧ 2 ≤ s.bed.build.st ∧ s.bed.build.st ≤ 5)) := by
    simpa [hnone, hsynced, hup] using hbuild
  unfold bodySwitch
  dsimp only
  rw [if_neg (by simp [hpaired, hop, hactive]), if_pos hop, if_neg hfree]

/-- FORCE makes the standby active at once, with cause 6 (17_redundancy R640). -/
theorem bodySwitch_force {c : Cmd} {s : State} (hpaired : paired s = true) (hop : pw c 0 % 4 = 1)
    (hstandby : s.pair.active = false) :
    bodySwitch c s = (cmdDone (becomeActive 6 s) c.tag 0x23 .ok, rAccepted) := by
  unfold bodySwitch
  dsimp only
  rw [if_neg (by simp [hpaired, hop, hstandby]), if_neg (by omega)]

/-- REDUNDANCY_STATUS without a word answers the five words of the pair's state (17_redundancy R645). -/
theorem bodyStatus_pair {c : Cmd} {s : State} (hlen : c.len = 0) : bodyStatus c s = (s, rWords (statusWords s)) :=
  if_pos hlen

/-- REDUNDANCY_STATUS with a word reads the newest saved copy, from a word boundary and within its length
(17_redundancy R645). -/
theorem bodyStatus_saved {c : Cmd} {s : State} (hlen : c.len = 1) (hcopy : savedCopy s ≠ []) (hread : bit (pw c 0) 31 = true)
    (hsome : 1 ≤ bits (pw c 0) 16 6) (hfit : bits (pw c 0) 16 6 ≤ 60) (haligned : pw c 0 % 65536 % 4 = 0)
    (hwithin : pw c 0 % 65536 + 4 * bits (pw c 0) 16 6 ≤ (savedCopy s).length) :
    bodyStatus c s =
      (s, rWords (w32 (pw c 0 % 2 ^ 22 + 2 ^ 31) ::
        wordsOf (((savedCopy s).drop (pw c 0 % 65536)).take (4 * bits (pw c 0) 16 6)))) := by
  have hfits : ¬(savedCopy s = [] ∨ bit (pw c 0) 31 = false ∨ bits (pw c 0) 16 6 = 0 ∨ 60 < bits (pw c 0) 16 6 ∨
      pw c 0 % 65536 % 4 ≠ 0 ∨ (savedCopy s).length < pw c 0 % 65536 + 4 * bits (pw c 0) 16 6) := by
    simp only [hcopy, hread, Bool.true_eq_false, false_or]
    omega
  unfold bodyStatus
  dsimp only
  rw [if_neg (by omega), if_neg (not_not.2 hlen), if_neg hfits]

/-- Settles O4: what each command's own part answers, behind the checks that an accepted command passes. -/
theorem cascadeAndPairCommandsComplete : Obligations.CascadeAndPairCommandsComplete := by
  refine ⟨?enumerate, ?topo, ?handover, ?force, ?status, ?saved⟩
  case enumerate =>
    refine runs_of noBuild bodyEnumerate (fun _ _ => rfl) (fun _ _ _ => rfl) ?_
    rintro c s ⟨hfull, hsome, hidle⟩
    exact bodyEnumerate_starts rfl hfull hsome hidle
  case topo =>
    refine runs_of noBuild bodyTopoRead (fun _ _ => rfl) (fun _ _ _ => rfl) ?_
    rintro c s ⟨hsome, hfit⟩
    exact bodyTopoRead_eq s hsome hfit
  case handover =>
    refine runs_of noBuild bodySwitch (fun _ _ => rfl) (fun _ _ _ => rfl) ?_
    rintro c s ⟨hpaired, hop, hactive, hnone, hsynced, hup, hbuild⟩
    exact bodySwitch_handover hpaired hop hactive hnone hsynced hup hbuild
  case force =>
    refine runs_of noBuild bodySwitch (fun _ _ => rfl) (fun _ _ _ => rfl) ?_
    rintro c s ⟨hpaired, hop, hstandby⟩
    exact bodySwitch_force hpaired hop hstandby
  case status =>
    exact runs_of noBuild bodyStatus (fun _ _ => rfl) (fun _ _ _ => rfl) fun _ _ => bodyStatus_pair
  case saved =>
    refine runs_of noBuild bodyStatus (fun _ _ => rfl) (fun _ _ _ => rfl) ?_
    rintro c s ⟨hlen, hcopy, hread, hsome, hfit, haligned, hwithin⟩
    exact bodyStatus_saved hlen hcopy hread hsome hfit haligned hwithin

end Sys2Proof.Machine
end

section

namespace Sys2Proof.Machine

/-! ### The lane commands -/

/-- LANE_STATUS of 1 to 7 lanes within the 16 (08_lanes R313). -/
theorem bodyLaneStatus_eq {c : Cmd} (s : State)
    (hfit : ¬(bits (pw c 0) 4 3 = 0 ∨ 16 < pw c 0 % 16 + bits (pw c 0) 4 3)) :
    bodyLaneStatus c s =
      (s, rWords ((List.range (bits (pw c 0) 4 3)).flatMap fun i => laneWords s (pw c 0 % 16 + i))) :=
  if_neg hfit

/-- No pattern of LANE_LOOPBACK's word is for the modulation that the lane does not have (08_lanes R309). -/
def patternFits (c : Cmd) (s : State) : Prop :=
  ((pamPattern (bits (pw c 0) 8 4) && laneModeOf s (pw c 0 % 16) == 2) ||
    (nrzPattern (bits (pw c 0) 8 4) && laneModeOf s (pw c 0 % 16) != 2)) = false

/-- The lane of LANE_LOOPBACK's word with the word's mode and pattern: the count of pattern errors begins anew when either
changes (08_lanes R307, R309). -/
def loopLane (c : Cmd) (s : State) : Lane :=
  { lane s (pw c 0 % 16) with
    loop := bits (pw c 0) 4 3, pattern := bits (pw c 0) 8 4
    patErr := if bits (pw c 0) 4 3 = (lane s (pw c 0 % 16)).loop ∧ bits (pw c 0) 8 4 = (lane s (pw c 0 % 16)).pattern then
        (lane s (pw c 0 % 16)).patErr else 0 }

/-- LANE_LOOPBACK of a mode and a pattern in range, of an unfenced lane (08_lanes R307, R309). -/
theorem bodyLaneLoopback_eq {c : Cmd} {s : State} (hmode : bits (pw c 0) 4 3 ≤ 3) (hpattern : bits (pw c 0) 8 4 ≤ 4)
    (hfence : fenced s 1 (pw c 0 % 16) = false) (hfits : patternFits c s) :
    bodyLaneLoopback c s =
      if bits (pw c 0) 4 3 ≠ 0 then
        (beginLoop (setLane s (pw c 0 % 16) { loopLane c s with
          st := 6, found := false, verify := false, mode := laneModeOf s (pw c 0 % 16) }) (pw c 0 % 16), rOk)
      else if (lane s (pw c 0 % 16)).st = 6 then
        (let s1 := linePath (setLane s (pw c 0 % 16) { loopLane c s with
            st := if laneUse s (pw c 0 % 16) = .none then 0 else 1 }) (pw c 0 % 16)
          if (lane s (pw c 0 % 16)).los ∨ laneUse s (pw c 0 % 16) = .none then s1
          else startTraining s1 (pw c 0 % 16) (bundleLane s (pw c 0 % 16)), rOk)
      else (setLane s (pw c 0 % 16) (loopLane c s), rOk) := by
  unfold bodyLaneLoopback
  dsimp only
  rw [if_neg (by omega), if_neg (ne_true_of_eq_false hfence), if_neg (ne_true_of_eq_false hfits)]
  rfl

/-- What the OP of LANE_BITSLIP makes of its lane, whose search is suspended (08_lanes R300). -/
def bitslipMade (c : Cmd) (s : State) : State :=
  let l := pw c 0 % 16
  let s1 := suspendSearch s l
  let y := lane s1 l
  if bits (pw c 0) 8 2 = 0 then testWindow s1 l
  else if bits (pw c 0) 8 2 = 1 then setLane s1 l (slip y (pw c 0 / 65536))
  else
    setLane s1 l
      { y with st := if y.los then 1 else if y.markMode then 4 else 3, attempts := 0, hits := [], huntAt := s.time.loc }

/-- LANE_BITSLIP of a Wotor lane neither training nor fenced, with a slip's count in range (08_lanes R300). -/
theorem laneBitslip_eq {c : Cmd} {s : State} (hwotor : isWotor s (pw c 0 % 16) = true)
    (htraining : (lane s (pw c 0 % 16)).st ≠ 2) (hfence : fenced s 1 (pw c 0 % 16) = false) (hop : bits (pw c 0) 8 2 ≠ 3)
    (hcount : bits (pw c 0) 8 2 = 1 →
      pw c 0 / 65536 ≤ 5439 ∧ ((lane s (pw c 0 % 16)).mode = 2 ∨ pw c 0 / 65536 % 2 = 0)) :
    laneBitslip c s = (bitslipMade c s, rWords (bitslipWords (lane (bitslipMade c s) (pw c 0 % 16)))) := by
  have hallowed : ¬(isWotor s (pw c 0 % 16) = false ∨ (lane s (pw c 0 % 16)).st = 2 ∨ fenced s 1 (pw c 0 % 16) = true ∨
      bits (pw c 0) 8 2 = 3) := by
    simp [hwotor, htraining, hfence, hop]
  unfold laneBitslip
  dsimp only
  rw [if_neg hallowed, if_neg (by omega)]
  rfl

theorem bitslipMade_test {c : Cmd} (s : State) (hop : bits (pw c 0) 8 2 = 0) :
    bitslipMade c s = testWindow (suspendSearch s (pw c 0 % 16)) (pw c 0 % 16) :=
  if_pos hop

theorem bitslipMade_slip {c : Cmd} (s : State) (hop : bits (pw c 0) 8 2 = 1) :
    bitslipMade c s =
      setLane (suspendSearch s (pw c 0 % 16)) (pw c 0 % 16)
        (slip (lane (suspendSearch s (pw c 0 % 16)) (pw c 0 % 16)) (pw c 0 / 65536)) :=
  (if_neg (by omega)).trans (if_pos hop)

theorem bitslipMade_auto {c : Cmd} (s : State) (hop : bits (pw c 0) 8 2 = 2) :
    bitslipMade c s =
      let y := lane (suspendSearch s (pw c 0 % 16)) (pw c 0 % 16)
      setLane (suspendSearch s (pw c 0 % 16)) (pw c 0 % 16)
        { y with st := if y.los then 1 else if y.markMode then 4 else 3, attempts := 0, hits := [], huntAt := s.time.loc } :=
  (if_neg (by omega)).trans (if_neg (by omega))

/-- LANE_EYE_SCAN's start, of a grid of at most 1024 points, of a lane in lock in a quad that no scan runs in
(08_lanes R310, R311). -/
theorem eyeStart_eq {c : Cmd} {s : State} (hdwell : 6 ≤ bits (pw c 0) 16 4 ∧ bits (pw c 0) 16 4 ≤ 12)
    (hphase : bits (pw c 0) 13 3 ≤ 4) (hvolt : bits (pw c 0) 10 3 ≤ 4) (heye : bits (pw c 0) 8 2 ≠ 3)
    (hpoints : scanPoints (bits (pw c 0) 13 3) (bits (pw c 0) 10 3) ≤ 1024)
    (hbinary : ¬(bits (pw c 0) 8 2 ≠ 0 ∧ (lane s (pw c 0 % 16)).mode = 2)) (hlock : (lane s (pw c 0 % 16)).st = 5)
    (hquad : quadScan s (pw c 0 % 16) = false) :
    eyeStart c s =
      ({ s with
          lanes.scans := tabSet EyeScan.cold s.lanes.scans (pw c 0 % 16)
            { lane := pw c 0 % 16, points := scanPoints (bits (pw c 0) 13 3) (bits (pw c 0) 10 3), running := true,
              tag := c.tag, aborted := false, codes := [] } }, rAccepted) := by
  unfold eyeStart
  dsimp only
  rw [if_neg (by omega), if_neg (by omega), if_neg (ne_true_of_eq_false hquad)]

/-- Settles O14: what each command's own part answers, behind the checks that an accepted command passes. What a test of the
window finds is the model's choice (log 7). -/
theorem laneCommandsComplete : Obligations.LaneCommandsComplete := by
  refine ⟨?status, ?loopBegins, ?loopEnds, ?test, ?slip, ?auto, ?scan, ?read⟩
  case status => exact runs_of noBuild bodyLaneStatus (fun _ _ => rfl) (fun _ _ _ => rfl) fun _ s => bodyLaneStatus_eq s
  case loopBegins =>
    refine runs_of noBuild bodyLaneLoopback (fun _ _ => rfl) (fun _ _ _ => rfl) ?_
    rintro c s ⟨hmode, hpattern, hfence, hfits, hloop⟩
    rw [bodyLaneLoopback_eq hmode hpattern hfence hfits, if_pos hloop]
    rfl
  case loopEnds =>
    refine runs_of noBuild bodyLaneLoopback (fun _ _ => rfl) (fun _ _ _ => rfl) ?_
    rintro c s ⟨hnone, hpattern, hfence, hfits⟩
    rw [bodyLaneLoopback_eq (by omega) hpattern hfence hfits, if_neg (not_not.2 hnone), loopLane, hnone]
    exact (apply_ite (·, rOk) _ _ _).symm
  case test =>
    refine runs_of noBuild laneBitslip (fun _ _ => rfl) (fun _ _ _ => rfl) ?_
    rintro c s ⟨hwotor, htraining, hfence, hop⟩
    rw [laneBitslip_eq hwotor htraining hfence (by omega) (by omega), bitslipMade_test s hop]
  case slip =>
    refine runs_of noBuild laneBitslip (fun _ _ => rfl) (fun _ _ _ => rfl) ?_
    rintro c s ⟨hwotor, htraining, hfence, hop, hcount⟩
    rw [laneBitslip_eq hwotor htraining hfence (by omega) fun _ => hcount, bitslipMade_slip s hop]
    rfl
  case auto =>
    refine runs_of noBuild laneBitslip (fun _ _ => rfl) (fun _ _ _ => rfl) ?_
    rintro c s ⟨hwotor, htraining, hfence, hop⟩
    rw [laneBitslip_eq hwotor htraining hfence (by omega) (by omega), bitslipMade_auto s hop]
  case scan =>
    refine runs_of noBuild laneEyeScan (fun _ _ => rfl) (fun _ _ _ => rfl) ?_
    rintro c s ⟨hstart, hdwellMin, hdwellMax, hphase, hvolt, heye, hpoints, hbinary, hlock, hquad⟩
    rw [laneEyeScan, if_neg (ne_true_of_eq_false hstart)]
    exact eyeStart_eq ⟨hdwellMin, hdwellMax⟩ hphase hvolt heye hpoints hbinary hlock hquad
  case read => exact runs_of noBuild laneEyeScan (fun _ _ => rfl) (fun _ _ _ => rfl) fun _ _ hread => if_pos hread

end Sys2Proof.Machine
end

section

namespace Sys2Proof.Machine

/-! ### The time commands -/

/-- TIME_SOURCE_SET's UPDATE_PATH form of 7 words on a TILE (09_time R329). -/
theorem timeSource_updatePath {c : Cmd} {s : State} (hform : bit (pw c 0) 30 = true) (hlen : c.len = 7)
    (htile : s.sys.role = .tile) : timeSource c s = ({ s with time.pendPath := some (pw c 5, pw c 6) }, rOk) := by
  unfold timeSource
  dsimp only
  rw [if_neg (by omega), if_pos hform, if_neg (not_not.2 htile), if_neg (not_not.2 hlen)]

/-- What TIME_SOURCE_SET makes of the state: the source is kept for the unit's activity, and a unit that is not standby takes
it at once (09_time R328, R329; 17_redundancy R623). -/
def sourceSet (c : Cmd) (s : State) : State :=
  let s0 := { s with pair.setSource := some (pw c 0 % 16, bits (pw c 0) 4 2, bits (pw c 0) 8 3) }
  if pairStandby s then s0 else if pw c 0 % 16 = 0 then freeSource (newSource s0 (pw c 0)) c else newSource s0 (pw c 0)

/-- TIME_SOURCE_SET of 7 words in STANDBY, of a source in the role, with SET_TIME for FREE alone and TICKS below a second, and
with PEER_PORT in peer mode for PEER (09_time R328, R329). -/
theorem timeSource_takes {c : Cmd} {s : State} (hform : bit (pw c 0) 30 = false) (hlen : c.len = 7)
    (hstandby : s.sys.st = .standby) (hsrc : pw c 0 % 16 ≤ 3) (hrole : sourceInRole s.sys.role (pw c 0 % 16) = true)
    (hfree : ¬(bit (pw c 0) 31 ∧ pw c 0 % 16 ≠ 0)) (hpeer : ¬(pw c 0 % 16 = 2 ∧ peerPortOk s (bits (pw c 0) 8 3) = false))
    (hticks : ¬(bit (pw c 0) 31 ∧ secTicks ≤ pw c 3 + pw c 4 % 4 * 2 ^ 32)) :
    timeSource c s = (sourceSet c s, rOk) := by
  have hallowed : ¬(pw c 0 % 16 < 4 ∧ sourceInRole s.sys.role (pw c 0 % 16) = false) := fun h =>
    ne_false_of_eq_true hrole h.2
  have hparams : ¬(3 < pw c 0 % 16 ∨ (bit (pw c 0) 31 ∧ pw c 0 % 16 ≠ 0) ∨
      (pw c 0 % 16 = 2 ∧ peerPortOk s (bits (pw c 0) 8 3) = false)) :=
    not_or.2 ⟨Nat.not_lt.2 hsrc, not_or.2 ⟨hfree, hpeer⟩⟩
  unfold timeSource
  dsimp only
  rw [if_neg (by omega), if_neg (ne_true_of_eq_false hform), if_neg hallowed, if_neg (not_not.2 hstandby),
    if_neg (not_not.2 hlen), if_neg hparams, if_neg hticks]
  exact (apply_ite (·, rOk) _ _ _).symm

/-- A field of WINDOW_SET's word is for another role: a PROCESS window and TRACE_TRIGGER are a BED's, FSYNC is a SENDER's
(09_time R349). -/
abbrev windowForeign (c : Cmd) (s : State) : Prop :=
  (bits (pw c 0) 26 2 = 2 ∧ s.sys.role ≠ .bed) ∨ (bit (pw c 0) 10 ∧ s.sys.role ≠ .sender) ∨
    (bit (pw c 0) 11 ∧ s.sys.role ≠ .bed)

/-- The time of WINDOW_SET's domain at acceptance. -/
def windowNow (c : Cmd) (s : State) : Int := domainNow s (bits (pw c 0) 26 2)

/-- The ticks from acceptance to WINDOW_SET's start (09_time R320, R348). -/
def windowRel (c : Cmd) (s : State) : Int :=
  sgn 48 (uns 48 (((pw c 1 + pw c 2 % 65536 * 2 ^ 32 : Nat) : Int) - windowNow c s))

/-- The ticks from WINDOW_SET's start to its end (09_time R320, R348). -/
def windowLen (c : Cmd) : Int := diff48 (pw c 3 + pw c 4 % 65536 * 2 ^ 32) (pw c 1 + pw c 2 % 65536 * 2 ^ 32)

/-- The window that WINDOW_SET's words describe (09_time R348). -/
def windowOfWords (c : Cmd) (s : State) : Window :=
  { enable := true, domain := bits (pw c 0) 26 2, mark := bit (pw c 0) 12, trace := bit (pw c 0) 11
    fsync := bit (pw c 0) 10, evClose := bit (pw c 0) 9, evOpen := bit (pw c 0) 8
    start := windowNow c s + windowRel c s, stop := windowNow c s + windowRel c s + windowLen c, period := pw c 5
    isOpen := false, next := windowNow c s + windowRel c s }

/-- What WINDOW_SET with ENABLE makes of the state: the window stands at its first instance that has not ended, and opens if
acceptance falls inside it (09_time R349). -/
def windowDefined (c : Cmd) (s : State) : State :=
  let s1 := setWindow s (pw c 0 % 16) (skipInstances (windowNow c s) (windowOfWords c s))
  driveFsync (fsyncOut s) (if opensNow s1 (pw c 0 % 16) then openWindow s1 (pw c 0 % 16) else s1)

/-- WINDOW_SET's refusals in their order, then what it makes of the window (09_time R348, R349). -/
theorem bodyWindowSet_eq (c : Cmd) (s : State) :
    bodyWindowSet c s =
      if bits (pw c 0) 26 2 = 3 then (s, rBad .badParam 0)
      else if windowForeign c s then (s, rBad .roleReject 0)
      else if bit (pw c 0) 31 = false then (driveFsync (fsyncOut s) (setWindow s (pw c 0 % 16) Window.cold), rOk)
      else if windowLen c < 1 then (s, rBad .badParam 3)
      else if pw c 5 ≠ 0 ∧ (pw c 5 : Int) < windowLen c then (s, rBad .badParam 5)
      else if 2 ^ 46 < (windowRel c s).natAbs then (s, rBad .badParam 1)
      else if pw c 5 = 0 ∧ windowNow c s + windowRel c s + windowLen c ≤ windowNow c s then (s, rBad .badParam 3)
      else (windowDefined c s, rOk) :=
  rfl

/-- WINDOW_SET without ENABLE: the instants are not tested, the model's choice (log 17). -/
theorem bodyWindowSet_takesAway {c : Cmd} {s : State} (hdomain : bits (pw c 0) 26 2 ≠ 3) (hrole : ¬windowForeign c s)
    (henable : bit (pw c 0) 31 = false) :
    bodyWindowSet c s = (driveFsync (fsyncOut s) (setWindow s (pw c 0 % 16) Window.cold), rOk) := by
  rw [bodyWindowSet_eq, if_neg hdomain, if_neg hrole, if_pos henable]

/-- WINDOW_SET with ENABLE of a window that is not empty, fits its period, starts within 2⁴⁶ ticks and, where it is not
repeated, has not ended (09_time R348, R349). -/
theorem bodyWindowSet_defines {c : Cmd} {s : State} (hdomain : bits (pw c 0) 26 2 ≠ 3) (hrole : ¬windowForeign c s)
    (henable : bit (pw c 0) 31 = true) (hsome : 1 ≤ windowLen c) (hfit : ¬(pw c 5 ≠ 0 ∧ (pw c 5 : Int) < windowLen c))
    (hnear : (windowRel c s).natAbs ≤ 2 ^ 46)
    (hahead : ¬(pw c 5 = 0 ∧ windowNow c s + windowRel c s + windowLen c ≤ windowNow c s)) :
    bodyWindowSet c s = (windowDefined c s, rOk) := by
  rw [bodyWindowSet_eq, if_neg hdomain, if_neg hrole, if_neg (ne_false_of_eq_true henable), if_neg (not_lt.2 hsome),
    if_neg hfit, if_neg (not_lt.2 hnear), if_neg hahead]

/-- Settles O10: what each command's own part answers, behind the checks that an accepted command passes. A window put out
of use is not tested for its instants by the model's choice (log 17). -/
theorem timeCommandsComplete : Obligations.TimeCommandsComplete := by
  refine ⟨?get, ?source, ?path, ?queue, ?takesAway, ?defines⟩
  case get => exact runs_of noBuild bodyTimeGet (fun _ _ => rfl) (fun _ _ _ => rfl) fun _ _ _ => rfl
  case source =>
    refine runs_of noBuild bodyTimeSourceSet (fun _ _ => rfl) (fun _ _ _ => rfl) ?_
    rintro c s ⟨hform, hlen, hstandby, hsrc, hrole, hfree, hpeer, hticks⟩
    exact timeSource_takes hform hlen hstandby hsrc hrole hfree hpeer hticks
  case path =>
    refine runs_of noBuild bodyTimeSourceUpdatePath (fun _ _ => rfl) (fun _ _ _ => rfl) ?_
    rintro c s ⟨hform, hlen, htile⟩
    exact timeSource_updatePath hform hlen htile
  case queue => exact runs_of noBuild bodyTsQueueRead (fun _ _ => rfl) (fun _ _ _ => rfl) fun _ _ _ => rfl
  case takesAway =>
    refine runs_of noBuild bodyWindowSet (fun _ _ => rfl) (fun _ _ _ => rfl) ?_
    rintro c s ⟨hdomain, hrole, henable⟩
    exact bodyWindowSet_takesAway hdomain hrole henable
  case defines =>
    refine runs_of noBuild bodyWindowSet (fun _ _ => rfl) (fun _ _ _ => rfl) ?_
    rintro c s ⟨hdomain, hrole, henable, hsome, hfit, hnear, hahead⟩
    exact bodyWindowSet_defines hdomain hrole henable hsome hfit hnear hahead

end Sys2Proof.Machine
end

section

namespace Sys2Proof.Machine

/-! ### The commands of the auxiliary axes -/

/-- What an OP of AXIS_MOVE makes of the axis that its word names, and what it answers (10_jets_motion R399, R400, R402). -/
def axisMoveMade (op : Nat) (c : Cmd) (s : State) : State × Reply :=
  let a := pw c 0 % 16
  let x := axis s a
  match op with
  | 0 => (startAxis s a c (sgn 32 (pw c 1) - x.pos), rAccepted)
  | 1 => (startAxis s a c (sgn 32 (pw c 1)), rAccepted)
  | 2 => if x.decTag ≠ 0 then (s, rBad .busy 0) else (decelAxis s a c, rAccepted)
  | 3 => (setAxis s a { x with
      st := 3, input := bits (pw c 0) 10 2, target := x.pos, lastEdge := none, plan := none, ending := false }, rOk)
  | 4 => (if x.st = 3 then setAxis s a (endFollow { x with ending := true }) else s, rOk)
  | _ => (stopAxis s a 0, rOk)

/-- AXIS_MOVE of an OP in range and an unfenced axis: a position asks for an axis that is not UNCERTAIN, a begin for one at
rest (10_jets_motion R399). -/
theorem bodyAxisMove_eq {op : Nat} {c : Cmd} {s : State} (hop : bits (pw c 0) 4 3 = op) (hle : op ≤ 5)
    (haxis : pw c 0 % 16 < 8) (hfence : fenced s 10 (pw c 0 % 16) = false)
    (hcertain : op = 0 → (axis s (pw c 0 % 16)).st ≠ 0)
    (hrests : op = 0 ∨ op = 1 ∨ op = 3 → axisMoves (axis s (pw c 0 % 16)) = false)
    (hfields : moveFault s (pw c 0 % 16) op c = none) : bodyAxisMove c s = axisMoveMade op c s := by
  have hfree : ¬((op = 0 ∨ op = 1 ∨ op = 3) ∧ axisMoves (axis s (pw c 0 % 16)) = true) := fun ⟨hbegins, hmoves⟩ =>
    ne_true_of_eq_false (hrests hbegins) hmoves
  unfold bodyAxisMove
  dsimp only
  rw [hop, if_neg (by omega), if_neg (ne_true_of_eq_false hfence), if_neg (not_and.2 hcertain), if_neg hfree, hfields]
  rfl

/-- AXIS_MOVE's OP 2 of an axis that no other deceleration waits for (10_jets_motion R399; log 32). -/
theorem axisMoveMade_decelerates {c : Cmd} {s : State} (hidle : (axis s (pw c 0 % 16)).decTag = 0) :
    axisMoveMade 2 c s = (decelAxis s (pw c 0 % 16) c, rAccepted) :=
  if_neg (not_not.2 hidle)

/-- AXIS_HOME's MODE 0 of an unfenced axis at rest (10_jets_motion R401). -/
theorem bodyAxisHome_sets {c : Cmd} {s : State} (haxis : pw c 0 % 16 < 8) (hfence : fenced s 10 (pw c 0 % 16) = false)
    (hrests : axisMoves (axis s (pw c 0 % 16)) = false) (hmode : bits (pw c 0) 4 2 = 0) :
    bodyAxisHome c s = (homeHere s (pw c 0 % 16) (sgn 32 (pw c 1)), rOk) := by
  unfold bodyAxisHome
  dsimp only
  rw [if_neg (by omega), if_neg (ne_true_of_eq_false hfence), if_neg (ne_true_of_eq_false hrests), if_pos hmode]

/-- AXIS_HOME's modes 1 and 2 of an unfenced axis at rest, at a speed within STEP_RATE_MAX (10_jets_motion R401). -/
theorem bodyAxisHome_searches {c : Cmd} {s : State} (haxis : pw c 0 % 16 < 8)
    (hfence : fenced s 10 (pw c 0 % 16) = false) (hrests : axisMoves (axis s (pw c 0 % 16)) = false)
    (hmode : bits (pw c 0) 4 2 = 1 ∨ bits (pw c 0) 4 2 = 2) (hspeed : pw c 2 ≠ 0)
    (hmax : pw c 2 ≤ axisW s (pw c 0 % 16) 0) :
    bodyAxisHome c s =
      (setAxis s (pw c 0 % 16) { turnAxis (axis s (pw c 0 % 16)) (bits (pw c 0) 4 2 == 1) (nowLocal s) with
        st := 4, op := 0x58, tag := c.tag + 1, kind := 2, start := nowLocal s, v := pw c 2, a := axisW s (pw c 0 % 16) 4
        j := 0, emitted := 0, dec := none, homePos := sgn 32 (pw c 1), zSeen := false }, rAccepted) := by
  unfold bodyAxisHome
  dsimp only
  rw [if_neg (by omega), if_neg (ne_true_of_eq_false hfence), if_neg (ne_true_of_eq_false hrests), if_neg (by omega),
    if_neg (by omega)]

/-- Settles O8: what each command's own part answers, behind the checks that an accepted command passes. How a following axis
decelerates is the model's choice (log 32). -/
theorem axisCommandsComplete : Obligations.AxisCommandsComplete := by
  refine ⟨?absolute, ?relative, ?decelerate, ?follow, ?endFollowing, ?quickStop, ?homeSet, ?homeSearch⟩
  case absolute =>
    refine runs_of noBuild bodyAxisMove (fun _ _ => rfl) (fun _ _ _ => rfl) ?_
    rintro c s ⟨haxis, hop, hfence, hcertain, hrests, hfields⟩
    exact bodyAxisMove_eq hop (by decide) haxis hfence (fun _ => hcertain) (fun _ => hrests) hfields
  case relative =>
    refine runs_of noBuild bodyAxisMove (fun _ _ => rfl) (fun _ _ _ => rfl) ?_
    rintro c s ⟨haxis, hop, hfence, hrests, hfields⟩
    exact bodyAxisMove_eq hop (by decide) haxis hfence (by simp) (fun _ => hrests) hfields
  case decelerate =>
    refine runs_of noBuild bodyAxisMove (fun _ _ => rfl) (fun _ _ _ => rfl) ?_
    rintro c s ⟨haxis, hop, hfence, hfields, hidle⟩
    rw [bodyAxisMove_eq hop (by decide) haxis hfence (by simp) (by simp) hfields, axisMoveMade_decelerates hidle]
  case follow =>
    refine runs_of noBuild bodyAxisMove (fun _ _ => rfl) (fun _ _ _ => rfl) ?_
    rintro c s ⟨haxis, hop, hfence, hrests, hfields⟩
    exact bodyAxisMove_eq hop (by decide) haxis hfence (by simp) (fun _ => hrests) hfields
  case endFollowing =>
    refine runs_of noBuild bodyAxisMove (fun _ _ => rfl) (fun _ _ _ => rfl) ?_
    rintro c s ⟨haxis, hop, hfence, hfields⟩
    exact bodyAxisMove_eq hop (by decide) haxis hfence (by simp) (by simp) hfields
  case quickStop =>
    refine runs_of noBuild bodyAxisMove (fun _ _ => rfl) (fun _ _ _ => rfl) ?_
    rintro c s ⟨haxis, hop, hfence, hfields⟩
    exact bodyAxisMove_eq hop (by decide) haxis hfence (by simp) (by simp) hfields
  case homeSet =>
    refine runs_of noBuild bodyAxisHome (fun _ _ => rfl) (fun _ _ _ => rfl) ?_
    rintro c s ⟨haxis, hfence, hrests, hmode⟩
    exact bodyAxisHome_sets haxis hfence hrests hmode
  case homeSearch =>
    refine runs_of noBuild bodyAxisHome (fun _ _ => rfl) (fun _ _ _ => rfl) ?_
    rintro c s ⟨haxis, hfence, hrests, hmode, hspeed, hmax⟩
    exact bodyAxisHome_searches haxis hfence hrests hmode hspeed hmax

/-! ### The events of the auxiliary axes -/

/-- AXIS_STEP of an axis of a BED whose next step's tick has come (10_jets_motion R398). -/
theorem axisStep_due {a : Nat} {s : State} {t : Int} {fwd : Bool} (hnext : nextStep (axis s a) = some (t, fwd))
    (hdue : ¬(s.sys.role ≠ .bed ∨ 8 ≤ a ∨ nowLocal s < stepTick s a t)) :
    axisStep a s =
      let x := axis s a
      emit (setAxis s a (endFollow { x with
        pos := stepPos (x.pos + (if fwd then 1 else -1)), lastStep := stepTick s a t
        emitted := if x.st = 3 then x.emitted else x.emitted + 1
        plan := x.plan.map fun p => (p.1, p.2.1, p.2.2.1, p.2.2.2 + 1) })) (stepPulse s a fwd (stepTick s a t)) := by
  unfold axisStep
  dsimp only
  rw [hnext]
  exact if_neg hdue

/-- AXIS_DONE of a moving axis with no step left, whose motion has ended (10_jets_motion R399). -/
theorem axisDone_due {a : Nat} {s : State} {t : Int} (hmoved : ¬((axis s a).st ≠ 2 ∨ (motionNext (axis s a)).isSome))
    (hends : motionEnds (axis s a) = some t) (hdue : ¬nowLocal s < t) :
    axisDone a s =
      let x := axis s a
      let s1 := setAxis s a { x with st := restState x, dec := none }
      endAxisTags (raise s1 0x0A0E (args [(4, a), (4, uns 32 x.pos)])) a (if x.dec.isSome then 0x20 else 0) 0 := by
  unfold axisDone
  dsimp only
  rw [if_neg hmoved, hends]
  exact if_neg hdue

/-- HOMING_DONE of an axis behind its Z edge with no step left, whose motion has ended (10_jets_motion R401). -/
theorem homingDone_due {a : Nat} {s : State} {t : Int}
    (hfound : ¬((axis s a).st ≠ 4 ∨ (axis s a).zSeen = false ∨ (motionNext (axis s a)).isSome))
    (hends : motionEnds (axis s a) = some t) (hdue : ¬nowLocal s < t) :
    homingDone a s =
      let x := axis s a
      endAxisTags (raise (setAxis s a { x with st := 1, homed := true, dec := none, zSeen := false }) 0x0A0F
        (args [(4, a), (4, uns 32 x.pos)])) a 0 0 := by
  unfold homingDone
  dsimp only
  rw [if_neg hfound, hends]
  exact if_neg hdue

/-- Settles O32: each event's own part past the condition under which it does nothing. -/
theorem axisEventsComplete : Obligations.AxisEventsComplete := by
  refine ⟨?step, ?done, ?stepIn, ?zEdge, ?homed, ?timeout⟩
  case step => exact fun a t fwd => steps_of (axisStep a) (fun _ => rfl) fun s ⟨hnext, hdue⟩ => axisStep_due hnext hdue
  case done =>
    exact fun a t => steps_of (axisDone a) (fun _ => rfl) fun s ⟨hmoved, hends, hdue⟩ => axisDone_due hmoved hends hdue
  case stepIn => exact fun input fwd => steps_of (stepInEdge input fwd) (fun _ => rfl) fun s hbed => if_neg hbed
  case zEdge => exact fun a => steps_of (zEdge a) (fun _ => rfl) fun s hsearches => if_neg hsearches
  case homed =>
    exact fun a t => steps_of (homingDone a) (fun _ => rfl) fun s ⟨hfound, hends, hdue⟩ => homingDone_due hfound hends hdue
  case timeout => exact fun a => steps_of (homingTimeout a) (fun _ => rfl) fun s hlost => if_neg hlost

end Sys2Proof.Machine
end

section

namespace Sys2Proof.Machine

/-! ### The device state commands and CAPO_SET -/

/-- SET_STATE to another state that R504 allows; RUN of a SENDER asks for the guards of its eight outputs. -/
theorem bodySetState_enters {n : DevState} {c : Cmd} {s : State} (htarget : targetState (pw c 0 % 16) = some n)
    (hother : s.sys.st ≠ n) (hlisted : mayChange s n = true)
    (hguards : n = .run → s.sys.role = .sender → ∀ o < 8, guardsHold s o = true) :
    bodySetState c s =
      (pairFlags (enterState n 0 (bit (pw c 0) 8) (if n = .standby then { s with sys.sealed := false } else s)), rOk) := by
  have hfree : ¬(n = .run ∧ s.sys.role = .sender ∧ (List.range 8).any (fun o => !guardsHold s o) = true) := by
    rintro ⟨hrun, hsender, hbroken⟩
    obtain ⟨o, hout, hnot⟩ := List.any_eq_true.1 hbroken
    simp [hguards hrun hsender o (List.mem_range.1 hout)] at hnot
  unfold bodySetState
  dsimp only
  rw [htarget]
  dsimp only
  rw [if_neg hother, if_neg (ne_false_of_eq_true hlisted), if_neg hfree]

/-- RESUME with no FATAL source latched and, of a BED, both EMIT_EN high (13_mailbox R506; 11_heads_lasers R421). -/
theorem bodyResume_leavesSafe (c : Cmd) {s : State} (hclear : fatalLatched s = none)
    (hemit : s.sys.role = .bed → s.sys.emitEnA = true ∧ s.sys.emitEnB = true) :
    bodyResume c s =
      (pairFlags (enterState .standby 0 false { s with
        bed.heads := s.bed.heads.map fun p => (p.1, { p.2 with haltSeen := false }), pair.leftSafe := true }), rOk) := by
  have hhigh : ¬(s.sys.role = .bed ∧ (s.sys.emitEnA && s.sys.emitEnB) = false) := fun ⟨hbed, hlow⟩ => by
    simp [hemit hbed] at hlow
  unfold bodyResume
  rw [hclear]
  exact if_neg hhigh

/-- CAPO_SET of one instance that the policy has in the role, for a policy other than the replan's (13_mailbox R516;
15_thermal_ageing R591). -/
theorem bodyCapoSet_one {c : Cmd} {s : State} {l : List Nat} (hpolicy : bits (pw c 0) 8 4 ≤ 5)
    (hplain : bits (pw c 0) 8 4 ≠ 4) (hone : pw c 0 % 256 ≠ 255) (hrole : capoInstances s (bits (pw c 0) 8 4) = some l)
    (hhas : l.contains (pw c 0 % 256) = true) :
    let t := capoOne (bit (pw c 0) 31) (bits (pw c 0) 8 4) s (pw c 0 % 256)
    bodyCapoSet c s = (t, rWords [w32 (t.capo.filter fun p => p.1 == bits (pw c 0) 8 4).length]) := by
  unfold bodyCapoSet
  dsimp only
  rw [if_neg (Nat.not_lt.2 hpolicy), hrole]
  dsimp only
  rw [if_neg fun ⟨_, hlacks⟩ => ne_true_of_eq_false hlacks hhas, if_neg hone, if_neg fun ⟨hreplan, _⟩ => hplain hreplan,
    List.foldl_cons, List.foldl_nil]

/-- Settles O3: what each command's own part answers, behind the checks that an accepted command passes. -/
theorem stateCommandsComplete : Obligations.StateCommandsComplete := by
  refine ⟨?setState, ?resume, ?capoSet⟩
  case setState =>
    intro n
    refine runs_of noBuild bodySetState (fun _ _ => rfl) (fun _ _ _ => rfl) ?_
    rintro c s ⟨htarget, hother, hlisted, hguards⟩
    exact bodySetState_enters htarget hother hlisted hguards
  case resume =>
    refine runs_of noBuild bodyResume (fun _ _ => rfl) (fun _ _ _ => rfl) ?_
    rintro c s ⟨hclear, hemit⟩
    exact bodyResume_leavesSafe c hclear hemit
  case capoSet =>
    refine runs_of noBuild bodyCapoSet (fun _ _ => rfl) (fun _ _ _ => rfl) ?_
    rintro c s ⟨hpolicy, hplain, hone, l, hrole, hhas⟩
    exact bodyCapoSet_one hpolicy hplain hone hrole hhas

end Sys2Proof.Machine
end

section

namespace Sys2Proof.Machine

/-! ### The ramp limiter -/

/-- A Weir that stands still on its target stays there and has arrived (12_loops R456). -/
theorem weirStep_standing {x : Weir} (p : WeirPar) (n : Nat) (hon : x.y = x.t) (hstill : x.v = 0) :
    weirStep x p n = { x with arrived := true, ae := 0 } :=
  if_pos ⟨sub_eq_zero.2 hon.symm, hstill⟩

/-- A step from below or above the target either arrives or ends strictly on the side where it began, however far the move
before the arrival test goes (12_loops R456). -/
theorem weirStep_underway {x : Weir} (p : WeirPar) (n : Nat) (hoff : x.y ≠ x.t) :
    weirStep x p n = { x with y := x.t, v := 0, arrived := true, ae := 0 } ∨
    weirStep x p n = { x with y := (weirMove x p n).1, v := (weirMove x p n).2 } ∧
      (x.y < x.t ∧ (weirMove x p n).1 < x.t ∨ x.t < x.y ∧ x.t < (weirMove x p n).1) := by
  have hmoves : ¬(x.t - x.y = 0 ∧ x.v = 0) := fun h => hoff (sub_eq_zero.1 h.1).symm
  unfold weirStep
  dsimp only
  rw [if_neg hmoves]
  split_ifs with harrives
  · exact .inl rfl
  · obtain ⟨hshort, hside⟩ := not_or.1 harrives
    have hsame : 0 < x.t - (weirMove x p n).1 ↔ 0 < x.t - x.y := decide_eq_decide.1 (not_not.1 hside)
    exact .inr ⟨rfl, by omega⟩

/-- Settles O59: a Weir that stands on its target stays there; any other arrives or ends on its own side of it. -/
theorem weirNeverPassesItsTarget : Obligations.WeirNeverPassesItsTarget := by
  intro x p n hstill
  by_cases hon : x.y = x.t
  · rw [weirStep_standing p n hon (hstill hon)]
    exact ⟨rfl, id, id, fun _ => ⟨hstill hon, rfl⟩⟩
  · obtain harrived | ⟨hmoved, hside⟩ := weirStep_underway p n hon
    · rw [harrived]
      exact ⟨rfl, fun _ => le_rfl, fun _ => le_rfl, fun _ => ⟨rfl, rfl⟩⟩
    · rw [hmoved]
      obtain ⟨hbegins, hends⟩ | ⟨hbegins, hends⟩ := hside
      · exact ⟨rfl, fun _ => hends.le, fun habove => absurd habove hbegins.not_ge, fun hreaches => absurd hreaches hends.ne⟩
      · exact ⟨rfl, fun hbelow => absurd hbelow hbegins.not_ge, fun _ => hends.le, fun hreaches => absurd hreaches hends.ne'⟩

end Sys2Proof.Machine
end

section

namespace Sys2Proof.Machine

/-! ### The commands of the loop engine and the trace unit -/

/-- LOOP_DEFINE of a disabled slot whose words are in range (12_loops R467, R468). -/
theorem bodyLoopDefine_eq {c : Cmd} {s : State} (hslot : slotExists s (bits (pw c 0) 24 5) ≠ false)
    (hoff : ¬slotEnabled s (bits (pw c 0) 24 5)) (hwords : loopFault (slotKind s (bits (pw c 0) 24 5)) c = none) :
    bodyLoopDefine c s =
      (setLoop s (bits (pw c 0) 24 5)
        { loopSlot s (bits (pw c 0) 24 5) with defn := some ((List.range 8).map (pw c)) }, rOk) := by
  unfold bodyLoopDefine
  dsimp only
  rw [if_neg hslot, if_neg hoff, hwords]

/-- SETPOINT_SET's form that gives the override up (12_loops R472). -/
theorem bodySetpointSet_givesUp {c : Cmd} {s : State} (hslot : slotExists s (bits (pw c 0) 0 5) = true)
    (hform : bit (pw c 0) 31 = true) :
    bodySetpointSet c s =
      (setLoop s (bits (pw c 0) 0 5)
        { loopSlot s (bits (pw c 0) 0 5) with over_ := none, notify := false }, rOk) := by
  unfold bodySetpointSet
  dsimp only
  rw [if_neg (ne_false_of_eq_true hslot), if_pos hform]

/-- SETPOINT_SET of a target in the range of the slot's kind, not too low for a headroom slot (12_loops R472;
03_lamp_drive R113). -/
theorem bodySetpointSet_overrides {c : Cmd} {s : State} (hslot : slotExists s (bits (pw c 0) 0 5) = true)
    (hform : bit (pw c 0) 31 = false) (hrange : setpointOk (slotKind s (bits (pw c 0) 0 5)) (sgn 32 (pw c 1)) = true)
    (hroom : headroomTooLow s (bits (pw c 0) 0 5) (sgn 32 (pw c 1)) = false) :
    bodySetpointSet c s =
      (setLoop s (bits (pw c 0) 0 5)
        { loopSlot s (bits (pw c 0) 0 5) with over_ := some (sgn 32 (pw c 1)), notify := bit (pw c 0) 30 }, rOk) := by
  unfold bodySetpointSet
  dsimp only
  rw [if_neg (ne_false_of_eq_true hslot), if_neg (ne_true_of_eq_false hform),
    if_neg (not_or.2 ⟨ne_false_of_eq_true hrange, ne_true_of_eq_false hroom⟩)]

/-- TRACE_ARM's OP 0 with a channel enabled, every enabled channel at a slot and node that exist and PRE in range
(12_loops R475). -/
theorem bodyTraceArm_arms {c : Cmd} {s : State} (hop : bits (pw c 0) 30 2 = 0) (hok : traceArmBad s c = false) :
    bodyTraceArm c s =
      ({ s with trace := { Trace.cold with
          st := 1, trigSrc := bits (pw c 0) 16 8, trigArg := pw c 1, pre := bits (pw c 0) 0 15
          chans := (List.range 8).foldl (fun t i => tabSet TraceChan.cold t i (armChan (pw c (2 + i)))) [] } }, rOk) := by
  unfold bodyTraceArm
  dsimp only
  rw [hop]
  exact if_neg (ne_true_of_eq_false hok)

/-- TRACE_ARM's OP 1 is a trigger by source 0 (12_loops R474, R475). -/
theorem bodyTraceArm_triggers {c : Cmd} (s : State) (hop : bits (pw c 0) 30 2 = 1) :
    bodyTraceArm c s = (traceFire s 0, rOk) := by
  simp only [bodyTraceArm, hop]

/-- TRACE_ARM's OP 2 ends a trace that is armed or triggered (12_loops R475). -/
theorem bodyTraceArm_disarms {c : Cmd} (s : State) (hop : bits (pw c 0) 30 2 = 2) :
    bodyTraceArm c s = (if s.trace.st = 1 ∨ s.trace.st = 2 then { s with trace.st := 4 } else s, rOk) := by
  simp only [bodyTraceArm, hop]

/-- Settles O9: what each command's own part answers, behind the checks that an accepted command passes. A sample beyond
those taken is a free value by the model's choice (log 44). -/
theorem loopAndTraceCommandsComplete : Obligations.LoopAndTraceCommandsComplete := by
  refine ⟨?define, ?lut, ?enable, ?givesUp, ?overrides, ?arm, ?trigger, ?disarm, ?read⟩
  case define =>
    refine runs_of noBuild bodyLoopDefine (fun _ _ => rfl) (fun _ _ _ => rfl) ?_
    rintro c s ⟨hslot, hoff, hwords⟩
    exact bodyLoopDefine_eq hslot hoff hwords
  case lut =>
    refine runs_of noBuild bodyLoopLutLoad (fun _ _ => rfl) (fun _ _ _ => rfl) ?_
    rintro c s ⟨hlen, hentries⟩
    exact (if_neg hlen).trans (if_neg hentries)
  case enable => exact runs_of noBuild bodyLoopEnable (fun _ _ => rfl) (fun _ _ _ => rfl) fun _ _ hexist => if_neg hexist
  case givesUp =>
    refine runs_of noBuild bodySetpointSet (fun _ _ => rfl) (fun _ _ _ => rfl) ?_
    rintro c s ⟨hslot, hform⟩
    exact bodySetpointSet_givesUp hslot hform
  case overrides =>
    refine runs_of noBuild bodySetpointSet (fun _ _ => rfl) (fun _ _ _ => rfl) ?_
    rintro c s ⟨hslot, hform, hrange, hroom⟩
    exact bodySetpointSet_overrides hslot hform hrange hroom
  case arm =>
    refine runs_of noBuild bodyTraceArm (fun _ _ => rfl) (fun _ _ _ => rfl) ?_
    rintro c s ⟨hop, hok⟩
    exact bodyTraceArm_arms hop hok
  case trigger => exact runs_of noBuild bodyTraceArm (fun _ _ => rfl) (fun _ _ _ => rfl) fun _ s => bodyTraceArm_triggers s
  case disarm => exact runs_of noBuild bodyTraceArm (fun _ _ => rfl) (fun _ _ _ => rfl) fun _ s => bodyTraceArm_disarms s
  case read =>
    refine runs_of noBuild bodyTraceRead (fun _ _ => rfl) (fun _ _ _ => rfl) ?_
    rintro c s ⟨hcount, hended⟩
    exact (if_neg hcount).trans (if_neg hended)

end Sys2Proof.Machine
end

section

namespace Sys2Proof.Machine

/-! ### The checks of a host command and its answer -/

/-- A row that is a host command runs the checks of R498; STATE_REJECT of it names the build layer's state for the build
commands and 0 for every other (13_mailbox R496). -/
theorem exec_hostCommand_detail {i : Instr} {o : OpSpec} {c : Cmd} (h : hostCommand i = some (o, c)) :
    ∃ bs body, (∀ s, exec i s = live s (runCmd o bs body c)) ∧
      ∀ s, stateDetail o (bs s) = if 0x52 ≤ o.op ∧ o.op ≤ 0x56 then s.bed.build.st else 0 := by
  unfold hostCommand at h
  split at h <;> cases h <;> exact ⟨_, _, fun _ => rfl, fun _ => rfl⟩

theorem runCmd_notReady {s : State} (o : OpSpec) (bs : State → Nat) (body : Body) (c : Cmd) (h : s.sys.notReady = true) :
    runCmd o bs body c s = hwNotReady s c :=
  if_pos h

theorem runCmd_tagInFlight {c : Cmd} {s : State} (o : OpSpec) (bs : State → Nat) (body : Body)
    (hready : s.sys.notReady = false) (hlen : c.len ≤ 62) (htag : tagInFlight s c.tag = true) :
    runCmd o bs body c s = tagConflict s o.op c := by
  unfold runCmd
  rw [if_neg (ne_true_of_eq_false hready), if_neg (Nat.not_lt.2 hlen), if_pos htag]

theorem runCmd_routeRefuses {c : Cmd} {s : State} {st : Status} {d : Nat} (o : OpSpec) (bs : State → Nat) (body : Body)
    (hready : s.sys.notReady = false) (hlen : c.len ≤ 62) (htag : tagInFlight s c.tag = false)
    (haddr : (c.self && c.bcast) = false) (hroute : route s c = .refuse st d) (hcredit : st ≠ .noCredit) :
    runCmd o bs body c s = answer s o.op c (rBad st d) false := by
  unfold runCmd
  rw [if_neg (ne_true_of_eq_false hready), if_neg (Nat.not_lt.2 hlen), if_neg (ne_true_of_eq_false htag),
    if_neg (ne_true_of_eq_false haddr), hroute]
  dsimp only
  rw [if_neg hcredit]

/-- The COMMAND record of a capture leaves alone what the checks 6 to 8 of R498 read. -/
theorem pairStandby_taken (o : OpSpec) (c : Cmd) (s : State) : pairStandby (taken o c s) = pairStandby s := by
  simp [pairStandby, paired, keyU, keyEff, taken]

theorem taken_sys (o : OpSpec) (c : Cmd) (s : State) : (taken o c s).sys = s.sys := by simp [taken]

theorem pairStandby_takeTag (s : State) (op : Nat) (c : Cmd) : pairStandby (takeTag s op c) = pairStandby s := rfl

/-- A command that the checks 6 to 8 refuse takes its tag and is answered; no record of it enters a capture (14_spillway
R555). -/
theorem runHere_checkFails {o : OpSpec} {n : Nat} {body : Body} {c : Cmd} {s : State} {r : Reply}
    (hr : refuses r.status = true)
    (h : ∀ u : State, u.sys = s.sys → pairStandby u = pairStandby s → execHere o n body c u = (u, r)) :
    runHere o n body c s = finish o c (takeTag s o.op c, r) := by
  unfold runHere
  dsimp only
  rw [← taken, h _ (taken_sys o c s) (pairStandby_taken o c s), if_pos hr, h (takeTag s o.op c) rfl rfl]
  rfl

theorem execHere_roleReject {o : OpSpec} {u : State} (n : Nat) (body : Body) (c : Cmd) (hrole : opInRole o u.sys.role = false) :
    execHere o n body c u = (u, rBad .roleReject 0) :=
  if_pos hrole

theorem execHere_stateReject {o : OpSpec} {u : State} (n : Nat) (body : Body) (c : Cmd) (hrole : opInRole o u.sys.role = true)
    (hst : opInState o u.sys.st = false ∨ (pairStandby u && pairOpcode u.sys.role o.op) = true) :
    execHere o n body c u = (u, rBad .stateReject (stateDetail o n)) :=
  (if_neg (ne_false_of_eq_true hrole)).trans (if_pos hst)

theorem execHere_badLength {o : OpSpec} {u : State} {k : Nat} (n : Nat) (body : Body) (c : Cmd)
    (hrole : opInRole o u.sys.role = true) (hst : opInState o u.sys.st = true)
    (hpair : (pairStandby u && pairOpcode u.sys.role o.op) = false) (hlen : o.len = some k) (hother : c.len ≠ k) :
    execHere o n body c u = (u, rBad .badLength k) := by
  unfold execHere
  rw [if_neg (ne_false_of_eq_true hrole), if_neg (not_or.2 ⟨ne_false_of_eq_true hst, ne_true_of_eq_false hpair⟩), hlen]
  exact if_pos hother

/-- Settles O46: each check of `runCmd`, with those before it passed. -/
theorem commandsAreCheckedInOrder : Obligations.CommandsAreCheckedInOrder := by
  intro i o c s hi hacts
  obtain ⟨bs, body, hexec, hdetail⟩ := exec_hostCommand_detail hi
  have hrun : exec i s = .next (held s (runCmd o bs body c s)) := (hexec s).trans (live_acts hacts _)
  have hhere : ∀ r : Reply, arrives o c s → refuses r.status = true →
      (∀ u : State, u.sys = s.sys → pairStandby u = pairStandby s → execHere o (bs s) body c u = (u, r)) →
      exec i s = .next (held s (finish o c (takeTag s o.op c, r))) := fun r harrives hr hcheck => by
    rw [hrun, runCmd_arrives bs body harrives, runHere_checkFails hr hcheck]
  refine ⟨fun hnotReady => ?notReady, fun hready hlen => ?tooLong, fun hready hlen htag => ?tag,
    fun st d hready hlen htag haddr hroute hcredit => ?route, fun harrives hrole => ?role, fun harrives hrole hst => ?state,
    fun n harrives hrole hst hpair hlen hother => ?length⟩
  case notReady => rw [hrun, runCmd_notReady o bs body c hnotReady]
  case tooLong => rw [hrun, runCmd_lenAbove62 o bs body hready hlen]
  case tag =>
    rw [hrun, runCmd_tagInFlight o bs body hready hlen htag]
    rfl
  case route => rw [hrun, runCmd_routeRefuses o bs body hready hlen htag haddr hroute hcredit]
  case role => exact hhere _ harrives rfl fun u hu _ => execHere_roleReject _ _ _ (by rwa [hu])
  case state =>
    rw [← hdetail s]
    exact hhere _ harrives rfl fun u hu hp => execHere_stateReject _ _ _ (by rwa [hu]) (by rwa [hu, hp])
  case length =>
    exact hhere _ harrives rfl fun u hu hp =>
      execHere_badLength _ _ _ (by rwa [hu]) (by rwa [hu]) (by rwa [hu, hp]) hlen hother

/-- Whatever a command's own part makes and answers, the run ends in the answer to it. -/
theorem runHere_answers (o : OpSpec) (n : Nat) (body : Body) (c : Cmd) (s : State) :
    ∃ (u : State) (r : Reply), runHere o n body c s = answer u o.op c r (r.status != .accepted) :=
  ⟨_, _, rfl⟩

/-- Settles O48: the run of an accepted command ends in an answer, which queues the response last. -/
theorem acceptedCommandsAreAnswered : Obligations.AcceptedCommandsAreAnswered := by
  rintro i o c s hi ⟨harrives, -⟩
  obtain ⟨bs, body, hexec⟩ := exec_hostCommand hi
  obtain ⟨u, r, hrun⟩ := runHere_answers o (bs s) body c s
  refine ⟨_, r, (hexec s).trans (live_acts harrives.1 _), ?_⟩
  rw [runCmd_arrives bs body harrives, hrun]
  generalize ht : held s (answer u o.op c r (r.status != .accepted)) = t
  have hcmds : t.cmds = (answer u o.op c r (r.status != .accepted)).cmds := by rw [← ht, held_cmds]
  rw [hcmds, answer_cmds_seen (t := t) o.op c r _ (by simp [← ht, held]) (by simp [← ht, held])]
  simp [respWords]

end Sys2Proof.Machine
end

section

namespace Sys2Proof.Machine

/-! ### The device under a low PORST_N, and the queue -/

/-- What no step of a fold changes the fold does not change. -/
theorem foldl_keeps {α β γ : Type} {get : β → γ} {f : β → α → β} (h : ∀ b a, get (f b a) = get b) (l : List α) :
    ∀ b, get (l.foldl f b) = get b := by
  induction l with
  | nil => exact fun _ => rfl
  | cons a l ih => exact fun b => (ih (f b a)).trans (h b a)

/-- RESET alone keeps emission off, so the invariant is about the state (18_startup_update R653). -/
theorem resetHeld_iff (s : State) : s.resetHeld ↔ (s.sys.porstLow = true → s.sys.st = .reset) :=
  ⟨fun h hlow => (h hlow).1, fun h hlow => ⟨h hlow, by simp [emissionOn, h hlow]⟩⟩

theorem resetHeld_congr {s t : State} (h : t.sys = s.sys) (hs : s.resetHeld) : t.resetHeld := by
  rw [resetHeld_iff, h, ← resetHeld_iff]
  exact hs

/-! What removes the emission outputs leaves the device state alone. -/

@[simp] theorem driveScan_sys (s : State) (n : Nat) (active : Bool) (at_ : Int) : (driveScan s n active at_).sys = s.sys := by
  simp [driveScan]

@[simp] theorem holdOe_sys (s : State) (on : Bool) : (holdOe s on).sys = s.sys := by
  unfold holdOe
  split <;> simp

@[simp] theorem darkenSlot_sys (s : State) : (darkenSlot s).sys = s.sys := by
  unfold darkenSlot
  dsimp only
  split
  · split <;> simp
  · simp

@[simp] theorem driveShunt_sys (s : State) (n : Nat) (on : Bool) (t : Int) : (driveShunt s n on t).sys = s.sys := by
  unfold driveShunt
  split <;> simp [setString]

@[simp] theorem driveLgate_sys (s : State) (h : Nat) (on : Bool) (t : Int) : (driveLgate s h on t).sys = s.sys := by
  unfold driveLgate
  split <;> simp [setHead]

@[simp] theorem cutGate_sys (s : State) (h : Nat) : (cutGate s h).sys = s.sys := by
  unfold cutGate
  dsimp only
  rw [foldl_keeps (get := State.sys) fun t n => driveShunt_sys t n false _]
  simp [setHead]

@[simp] theorem cutAllGates_sys (s : State) : (cutAllGates s).sys = s.sys := by
  unfold cutAllGates
  rw [foldl_keeps (get := State.sys) fun t n => driveShunt_sys t n false _, foldl_keeps (get := State.sys) cutGate_sys]

/-! What acts while a reset pin is low leaves a device whose PORST_N is low in RESET. -/

/-- A meaning leaves a device in RESET whose PORST_N is low. -/
def keepsPortReset (f : State → State) : Prop :=
  ∀ s : State, s.sys.porstLow = true → s.sys.st = .reset → (f s).sys.st = .reset

theorem tempConversion_keepsPortReset (v : List Int) : keepsPortReset (tempConversion v) := fun s hlow hst => by
  rwa [tempConversion, if_pos (.inl hlow)]

theorem throttleDue_keepsPortReset : keepsPortReset throttleDue := fun s hlow hst => by
  rwa [throttleDue, if_pos (.inl hlow)]

theorem supplyOut_keepsPortReset (o : SupplyObs) : keepsPortReset (supplyOut o) := fun s hlow hst => by
  rwa [supplyOut, if_pos (.inl hlow)]

theorem dieLinkLoss_keepsPortReset : keepsPortReset dieLinkLoss := fun s _ hst => by
  unfold dieLinkLoss
  split <;> exact hst

theorem tapInstruction_keepsPortReset (ir : Nat) (valid : Bool) : keepsPortReset (tapInstruction ir valid) := fun s _ hst => by
  unfold tapInstruction
  dsimp only
  repeat' split
  all_goals simpa using hst

theorem emitFalls_keepsPortReset (a b : Bool) : keepsPortReset (emitFalls a b) := fun s _ hst => by
  rwa [emitFalls, if_pos hst]

theorem emitRise_keepsPortReset (a b : Bool) : keepsPortReset (emitRise a b) := fun s _ hst => by
  unfold emitRise
  dsimp only
  rwa [if_pos hst]

theorem wrstLow_keepsPortReset : keepsPortReset wrstLow := fun s hlow hst => by
  rwa [wrstLow, if_pos (.inl hlow)]

theorem wrstHigh_keepsPortReset (o : BootObs) : keepsPortReset (wrstHigh o) := fun s hlow hst => by
  unfold wrstHigh
  rw [if_pos hlow]
  split <;> exact hst

/-- Every command but the edges of PORST_N is a meaning that RESET stops or that leaves a low PORST_N in RESET. -/
theorem exec_cases_portReset (i : Instr) :
    i = .porstNAssert ∨ (∃ role tileId emitA emitB o, i = .porstNRelease role tileId emitA emitB o) ∨
    ∃ f, (∀ s, exec i s = live s f) ∨ (∀ s, exec i s = liveAny s f) ∧ keepsPortReset f := by
  cases i
  case porstNAssert => exact .inl rfl
  case porstNRelease role tileId emitA emitB o => exact .inr (.inl ⟨role, tileId, emitA, emitB, o, rfl⟩)
  case tempConversion v => exact .inr (.inr ⟨_, .inr ⟨fun _ => rfl, tempConversion_keepsPortReset v⟩⟩)
  case throttleStep => exact .inr (.inr ⟨_, .inr ⟨fun _ => rfl, throttleDue_keepsPortReset⟩⟩)
  case dieLinkFramingLoss => exact .inr (.inr ⟨_, .inr ⟨fun _ => rfl, dieLinkLoss_keepsPortReset⟩⟩)
  case dieLinkFramed => exact .inr (.inr ⟨_, .inr ⟨fun _ => rfl, fun _ _ hst => hst⟩⟩)
  case supplyOutOfWindow o => exact .inr (.inr ⟨_, .inr ⟨fun _ => rfl, supplyOut_keepsPortReset o⟩⟩)
  case tapInstruction ir valid => exact .inr (.inr ⟨_, .inr ⟨fun _ => rfl, tapInstruction_keepsPortReset ir valid⟩⟩)
  case emitEnFall a b => exact .inr (.inr ⟨_, .inr ⟨fun _ => rfl, emitFalls_keepsPortReset a b⟩⟩)
  case emitEnRise a b => exact .inr (.inr ⟨_, .inr ⟨fun _ => rfl, emitRise_keepsPortReset a b⟩⟩)
  case wrstNAssert => exact .inr (.inr ⟨_, .inr ⟨fun _ => rfl, wrstLow_keepsPortReset⟩⟩)
  case wrstNRelease o => exact .inr (.inr ⟨_, .inr ⟨fun _ => rfl, wrstHigh_keepsPortReset o⟩⟩)
  all_goals exact .inr (.inr ⟨_, .inl fun _ => rfl⟩)

theorem live_keeps_resetHeld {s t : State} {f : State → State} (hs : s.resetHeld) (h : live s f = .next t) : t.resetHeld := by
  rw [resetHeld_iff] at hs ⊢
  unfold live at h
  split at h
  · cases h
  · cases h
    split
    · exact hs
    · next hacts => exact fun hlow => absurd (hs hlow) hacts

theorem liveAny_keeps_resetHeld {s t : State} {f : State → State} (hf : keepsPortReset f) (hs : s.resetHeld)
    (h : liveAny s f = .next t) : t.resetHeld := by
  rw [resetHeld_iff] at hs ⊢
  unfold liveAny at h
  split at h
  · cases h
  · cases h
    exact fun hlow => hf s hlow (hs hlow)

@[simp] theorem enterReset_st (s : State) : (enterReset s).sys.st = .reset := by
  unfold enterReset
  split
  · next hreset => exact hreset
  · rfl

theorem porstLow_resetHeld (s : State) : (porstLow s).resetHeld := (resetHeld_iff _).2 fun _ => enterReset_st s

/-- PORST_N is high after its rise, whatever image the boot ROM chooses. -/
@[simp] theorem porstHigh_porstLow (role tileId : Nat) (emitA emitB : Bool) (o : BootObs) (s : State) :
    (porstHigh role tileId emitA emitB o s).sys.porstLow = false := by
  have hdrive : ∀ (b : Bool) (u : State), (drivePwrOff b u).sys.porstLow = u.sys.porstLow := fun b u => by
    unfold drivePwrOff
    split <;> simp
  cases hlow : s.sys.porstLow
  case false => rw [porstHigh_of_high role tileId emitA emitB o hlow, hlow]
  case true =>
    unfold porstHigh
    rw [if_neg (by simp [hlow])]
    dsimp only
    split <;> simp [hdrive, coldState, Sys.cold]

theorem exec_keeps_resetHeld {i : Instr} {s t : State} (hs : s.resetHeld) (h : exec i s = .next t) : t.resetHeld := by
  obtain rfl | ⟨role, tileId, emitA, emitB, o, rfl⟩ | ⟨f, hf | ⟨hf, hkeeps⟩⟩ := exec_cases_portReset i
  · cases h
    exact porstLow_resetHeld s
  · cases h
    exact resetHeld_of_high (porstHigh_porstLow role tileId emitA emitB o s)
  · exact live_keeps_resetHeld hs ((hf s).symm.trans h)
  · exact liveAny_keeps_resetHeld hkeeps hs ((hf s).symm.trans h)

/-! The step on an empty queue. -/

@[simp] theorem putCodeword_keeps_sys (s : State) (p : Nat) (cells : List (List Byte)) :
    (putCodeword s p cells).sys = s.sys ∧ (putCodeword s p cells).pending = s.pending := by
  simp [putCodeword, setTx]

theorem sendCodeword_keeps_sys (s : State) (p : Nat) :
    (sendCodeword s p).sys = s.sys ∧ (sendCodeword s p).pending = s.pending := by
  unfold sendCodeword
  dsimp only
  split <;> simp [setTx]

/-- A cycle changes the time and the transmitters alone. -/
theorem idleCycle_keeps_sys (s : State) : (idleCycle s).sys = s.sys ∧ (idleCycle s).pending = s.pending := by
  have hsend : ∀ (t : State) (p : Nat),
      ((if codewordDue t p then sendCodeword t p else t).sys, (if codewordDue t p then sendCodeword t p else t).pending) =
        (t.sys, t.pending) := fun t p => by
    split
    · rw [(sendCodeword_keeps_sys t p).1, (sendCodeword_keeps_sys t p).2]
    · rfl
  unfold idleCycle
  split
  · exact ⟨rfl, rfl⟩
  · split
    · exact ⟨rfl, rfl⟩
    · exact Prod.ext_iff.1 (foldl_keeps (get := fun t : State => (t.sys, t.pending)) hsend (List.range 16) (cycleTime s))

/-- Settles O43: no command raises a low PORST_N's device out of RESET, and a cycle changes no device state. -/
theorem portResetHoldsTheDevice : Obligations.PortResetHoldsTheDevice := by
  intro s t hs h
  unfold step at h
  split at h
  · cases h
    exact resetHeld_congr (idleCycle_keeps_sys s).1 hs
  · next i rest _ => exact exec_keeps_resetHeld (resetHeld_congr (s := s) (t := { s with pending := rest }) rfl hs) h

/-- No command but the edges of PORST_N takes from the queue or puts into it, and those two leave it as it is. -/
theorem exec_keeps_pending {i : Instr} {s t : State} (h : exec i s = .next t) : t.pending = s.pending := by
  obtain rfl | ⟨role, tileId, emitA, emitB, o, rfl⟩ | ⟨f, hf | hf⟩ := exec_cases i
  · cases h
    rfl
  · cases h
    rfl
  · have hlive := (hf s).symm.trans h
    unfold live at hlive
    split at hlive
    · cases hlive
    · cases hlive
      split <;> rfl
  · have hlive := (hf s).symm.trans h
    unfold liveAny at hlive
    split at hlive
    · cases hlive
    · cases hlive
      rfl

/-- Settles O42: a step takes the front before its command runs, and a cycle leaves the empty queue alone. -/
theorem queueIsFirstInFirstOut : Obligations.QueueIsFirstInFirstOut := by
  intro s t h
  unfold step at h
  split at h
  · next hempty =>
    cases h
    rw [(idleCycle_keeps_sys s).2, hempty]
    rfl
  · next i rest hqueue =>
    rw [exec_keeps_pending h, hqueue]
    rfl

/-- Settles O38: the front of a queue that is not empty is what `step` hands to `exec`. -/
theorem stepTakesTheFrontCommand : Obligations.StepTakesTheFrontCommand := fun _ _ _ => rfl

end Sys2Proof.Machine
end

section

namespace Sys2Proof.Machine

/-! ### The release of PORST_N -/

/-- The parts of the state that neither the boot ROM's choice of an image nor the pin PWR_OFF_REQ touches. -/
def besideBoot (s : State) : State := { s with sys := Sys.cold .tile 0, img := Image.cold, ctr := [], out := [] }

theorem besideBoot_writeBoot (s : State) : besideBoot (writeBoot s) = besideBoot s := rfl

theorem besideBoot_setSlotSt (s : State) (k st : Nat) : besideBoot (setSlotSt s k st) = besideBoot s := by
  unfold setSlotSt setImgSlot
  split <;> rfl

theorem besideBoot_fallBack (cause : Nat) (s : State) : besideBoot (fallBack cause s) = besideBoot s :=
  besideBoot_setSlotSt s s.img.active 5

theorem besideBoot_startImage (s : State) : besideBoot (startImage s) = besideBoot s := rfl

theorem besideBoot_bootRead (o : BootObs) (s : State) : besideBoot (bootRead o s) = besideBoot s := rfl

theorem besideBoot_noneRuns (s : State) : besideBoot { s with img.running := none, img.trialAt := none } = besideBoot s := rfl

theorem besideBoot_trialBoots (s : State) (n : Nat) : besideBoot { s with img.trialBoots := n } = besideBoot s := rfl

theorem besideBoot_bootSelect (o : BootObs) (s : State) : besideBoot (bootSelect o s) = besideBoot s := by
  unfold bootSelect
  dsimp only
  repeat' split
  all_goals
    simp only [besideBoot_startImage, besideBoot_noneRuns, besideBoot_fallBack, besideBoot_writeBoot, besideBoot_trialBoots,
      besideBoot_bootRead]

/-- PWR_OFF_REQ's level is all that the pin's drive changes beside what is sent. -/
theorem drivePwrOff_sys (b : Bool) (s : State) : (drivePwrOff b s).sys = { s.sys with pwrOffReq := b } := by
  unfold drivePwrOff
  split
  · next h => rw [← h]
  · rfl

theorem besideBoot_drivePwrOff (b : Bool) (s : State) : besideBoot (drivePwrOff b s) = besideBoot s := by
  unfold drivePwrOff
  split <;> rfl

section
variable (role tileId : Nat) (emitA emitB : Bool) (o : BootObs) {s : State}

/-- At the rise of a low PORST_N the device is the cold one, held in BOOT by a shutdown record or not (18_startup_update
R652; 15_thermal_ageing R584). -/
theorem porstHigh_sys (hlow : s.sys.porstLow = true) :
    ∃ hold report, (porstHigh role tileId emitA emitB o s).sys =
      { (coldState role tileId emitA emitB s).sys with bootHold := hold, shutReport := report, pwrOffReq := hold } := by
  refine ⟨holdsBoot o (coldState role tileId emitA emitB s),
    shutHeld (coldState role tileId emitA emitB s) && !holdsBoot o (coldState role tileId emitA emitB s), ?_⟩
  unfold porstHigh
  rw [if_neg (by simp [hlow])]
  dsimp only
  split
  · rw [drivePwrOff_sys]
  · rw [bootSelect_sys, drivePwrOff_sys]

/-- Every part beside those of the boot ROM's choice is the cold one. -/
theorem porstHigh_besideBoot (hlow : s.sys.porstLow = true) :
    besideBoot (porstHigh role tileId emitA emitB o s) = besideBoot (coldState role tileId emitA emitB s) := by
  unfold porstHigh
  rw [if_neg (by simp [hlow])]
  dsimp only
  split
  · rw [besideBoot_drivePwrOff]
    rfl
  · rw [besideBoot_bootSelect, besideBoot_drivePwrOff]
    rfl

end

/-- Settles O45: the cold parts, read off one by one. -/
theorem portReleaseStartsAfresh : Obligations.PortReleaseStartsAfresh := by
  intro role tileId emitA emitB o s hlow
  obtain ⟨hold, report, hsys⟩ := porstHigh_sys role tileId emitA emitB o hlow
  have hrest := porstHigh_besideBoot role tileId emitA emitB o hlow
  have part : ∀ {α : Type} (get : State → α), get (besideBoot (porstHigh role tileId emitA emitB o s)) =
      get (besideBoot (coldState role tileId emitA emitB s)) := fun get => congrArg get hrest
  refine ⟨_, rfl, ?_⟩
  dsimp only
  rw [hsys]
  exact ⟨rfl, rfl, rfl, fun htile => if_pos htile, rfl, rfl, rfl, part State.regs, part State.cmds, part State.spill,
    part State.keys, part State.capo, part State.cap, part State.rep, part State.time, part State.link, part State.lanes,
    part State.tl, part State.lamps, part State.fret, part State.trace, part State.send, part State.cal, part State.loops,
    part State.bed, part State.pair, part State.wire, part State.dram, rfl⟩

end Sys2Proof.Machine
end

section

namespace Sys2Proof.Machine

/-! ### The command ring, EVENT_ENABLE and BAR2 -/

/-- Nothing is fetched while 4096 commands are in flight (13_mailbox R488). -/
theorem canFetch_fullFlight {s : State} (hfull : 4096 ≤ s.cmds.inFlight.length) : canFetch s = false := by
  simp [canFetch, Nat.not_lt.2 hfull]

/-- Settles O53: the fetch stops at its own condition, which a full flight does not meet. -/
theorem ringFetchStopsAtFullFlight : Obligations.RingFetchStopsAtFullFlight := fun e s hacts hfull => by
  have hstays : ringEntryFetch e s = s := if_pos (canFetch_fullFlight hfull)
  exact (live_acts hacts _).trans (by rw [hstays]; rfl)

theorem raiseQuiet_disabled {s : State} {code : Nat} (l : List Byte) (h : bit (keyU s 0x0003 0 4) (code / 256) = false) :
    raiseQuiet s code l = s :=
  if_neg (ne_true_of_eq_false h)

theorem raiseQuiet_enabled {s : State} {code : Nat} (l : List Byte) (h : bit (keyU s 0x0003 0 4) (code / 256) = true) :
    raiseQuiet s code l =
      sendUpstream (deliver s (evRecords code s.sys.deviceId (timeForm s (sysTicks s)) l))
        (evRecords code s.sys.deviceId (timeForm s (sysTicks s)) l) :=
  if_pos h

/-- The log entry of an event leaves EVENT_ENABLE as it is. -/
theorem keyU_logAdd (s : State) (w0 : Nat) (l : List Byte) (id off w : Nat) : keyU (logAdd s w0 l) id off w = keyU s id off w := by
  simp [keyU, keyEff]

/-- Settles O54: the gate stands before the delivery and behind the log. -/
theorem eventEnableGatesDelivery : Obligations.EventEnableGatesDelivery := by
  intro s code l
  refine ⟨fun hoff => ⟨raiseQuiet_disabled l hoff, ?_⟩, fun hon => ⟨raiseQuiet_enabled l hon, rfl⟩⟩
  have hstill : bit (keyU (logAdd s code l) 0x0003 0 4) (code / 256) = false := by rwa [keyU_logAdd]
  exact raiseQuiet_disabled l hstill

/-- The bytes of a write that are kept are read back, and every other byte reads as before (13_mailbox R714). -/
theorem keepBytes_reads (areas : List Area) (data : List Byte) (j : Nat) : ∀ (a : Nat) (s : State),
    tabGet 0 (keepBytes areas a data s).dram j =
      if a ≤ j ∧ j < a + data.length ∧ areas.any (inArea j) = false then data.getD (j - a) 0 else tabGet 0 s.dram j := by
  induction data with
  | nil =>
    intro a s
    rw [if_neg (by simp only [List.length_nil]; omega)]
    rfl
  | cons b r ih =>
    intro a s
    have hfirst : tabGet 0 (if areas.any (inArea a) then s else wrBytes s a [b]).dram j =
        if j = a ∧ areas.any (inArea a) = false then b else tabGet 0 s.dram j := by
      cases hprotected : areas.any (inArea a)
      case true => simp
      case false =>
        rw [if_neg Bool.false_ne_true, wrBytes_reads]
        by_cases hj : j = a
        · subst hj
          simp
        · rw [if_neg (by simp only [List.length_singleton]; omega), if_neg (by simp [hj])]
    rw [keepBytes, ih, hfirst]
    by_cases hj : j = a
    · subst hj
      rw [if_neg (by omega)]
      simp
    · have hinside : (a + 1 ≤ j ∧ j < a + 1 + r.length ∧ areas.any (inArea j) = false) ↔
          (a ≤ j ∧ j < a + (b :: r).length ∧ areas.any (inArea j) = false) := by
        rw [List.length_cons]
        exact ⟨fun ⟨hlo, hhi, hfree⟩ => ⟨by omega, by omega, hfree⟩, fun ⟨hlo, hhi, hfree⟩ => ⟨by omega, by omega, hfree⟩⟩
      rw [if_neg (by simp [hj] : ¬(j = a ∧ areas.any (inArea a) = false))]
      by_cases hin : a ≤ j ∧ j < a + (b :: r).length ∧ areas.any (inArea j) = false
      · rw [if_pos (hinside.2 hin), if_pos hin]
        obtain ⟨k, rfl⟩ : ∃ k, j = a + 1 + k := ⟨j - (a + 1), by omega⟩
        rw [show a + 1 + k - (a + 1) = k by omega, show a + 1 + k - a = k + 1 by omega, List.getD_cons_succ]
      · rw [if_neg (mt hinside.1 hin), if_neg hin]

@[simp] theorem countDrops_dram (s : State) (ts : List Area) : (countDrops s ts).dram = s.dram := by
  unfold countDrops
  dsimp only
  repeat' split
  all_goals simp

@[simp] theorem pinnedLog_dram (at_ : Nat) (s : State) (r : Area) : (pinnedLog at_ s r).dram = s.dram := by
  unfold pinnedLog
  split <;> simp

/-- A BAR2 write that reaches the device writes DRAM by its kept bytes alone. -/
theorem bar2Write_dram {off : Nat} {data : List Byte} {s : State} (h : bar2Reaches s off data.length = true) :
    (bar2Write off data s).dram = (keepBytes (protectedAreas s) (bar2Base s + off) data s).dram := by
  unfold bar2Write
  rw [if_neg (ne_false_of_eq_true h)]
  dsimp only
  rw [foldl_keeps (get := State.dram) (pinnedLog_dram _), countDrops_dram]

/-- Settles O52: what the kept bytes make of DRAM. -/
theorem bar2WritesReadBack : Obligations.Bar2WritesReadBack := by
  intro off data s hacts hreaches
  refine ⟨_, live_acts hacts _, fun a => ?_⟩
  rw [show (held s (bar2Write off data s)).dram = (bar2Write off data s).dram from rfl, bar2Write_dram hreaches, keepBytes_reads]

/-! ### What a command's tag and record leave to its own part -/

/-- The state with other commands in flight, another capture and other DRAM: what a command's tag and COMMAND record may
make of it. -/
def withTag (s : State) (cmds : Cmds) (cap : Capture) (dram : Tab Byte) : State :=
  { s with cmds := cmds, cap := cap, dram := dram }

/-- The state that a command's own part sees: only the tags in flight, and a running capture's ring, are others. -/
theorem taken_eq_withTag (o : OpSpec) (c : Cmd) (s : State) :
    taken o c s = withTag s (taken o c s).cmds (taken o c s).cap (taken o c s).dram := by
  apply State.ext
  all_goals simp [taken, withTag]

/-- With no capture running only the tag is taken. -/
theorem taken_idle {s : State} (o : OpSpec) (c : Cmd) (h : capRuns s = false) : taken o c s = takeTag s o.op c :=
  if_neg (ne_true_of_eq_false h)

/-- A body that makes the same whatever tags are in flight and whatever a capture holds. -/
theorem bodyMade_of {o : OpSpec} {c : Cmd} {s : State} {f : State → State}
    (h : ∀ t cmds cap dram, f (withTag t cmds cap dram) = withTag (f t) cmds cap dram) :
    bodyMade o c s (f s) (f (taken o c s)) := by
  have hown : f s = withTag (f s) s.cmds s.cap s.dram := h s s.cmds s.cap s.dram
  have hmade : f (taken o c s) = withTag (f s) (taken o c s).cmds (taken o c s).cap (taken o c s).dram := by
    rw [← h, ← taken_eq_withTag]
  unfold bodyMade
  cases hruns : capRuns s
  case true =>
    rw [hmade]
    rfl
  case false =>
    have hcap : (taken o c s).cap = (f s).cap := by rw [taken_idle o c hruns, hown]; rfl
    have hdram : (taken o c s).dram = (f s).dram := by rw [taken_idle o c hruns, hown]; rfl
    rw [hmade, hcap, hdram]
    rfl

/-- A command's statement from what its body makes, where neither its conditions nor its effect look at tags, captures or
DRAM. -/
theorem serves_ofBody {o : OpSpec} {i : Cmd → Instr} {pre : Cmd → State → Prop} {eff : Cmd → State → State} {body : Body}
    (hx : ∀ c s, exec (i c) s = live s (runCmd o noBuild body c)) (hb : ∀ c s, pre c s → body c s = (eff c s, rOk))
    (hpre : ∀ c s cmds cap dram, pre c s → pre c (withTag s cmds cap dram))
    (heff : ∀ c s cmds cap dram, eff c (withTag s cmds cap dram) = withTag (eff c s) cmds cap dram)
    (hk : ∀ c s, (eff c s).sys.role = s.sys.role ∧ (eff c s).sys.tileId = s.sys.tileId ∧
      (eff c s).sys.porstLow = s.sys.porstLow ∧ (eff c s).pending = s.pending) :
    serves o i pre (fun _ _ => rOk) eff := by
  refine serves_of noBuild body hx (fun c s _ hp => ?_) (fun _ _ _ _ => rfl) hk
  have htaken : pre c (taken o c s) := by
    rw [taken_eq_withTag]
    exact hpre c s _ _ _ hp
  rw [hb c _ htaken]
  exact ⟨rfl, bodyMade_of (heff c)⟩

/-! ### The commands that set one thing -/

/-- BUFFER_RELEASE of a registered buffer that is FREE (05_composition R181 to R183). -/
theorem bodyBufferRelease_eq {c : Cmd} {s : State} (hthere : (stillBuf s (bits (pw c 0) 0 10)).isSome = true)
    (hfree : bufState s (bits (pw c 0) 0 10) = 0) :
    bodyBufferRelease c s = ({ s with send.bufs := tabSet none s.send.bufs (bits (pw c 0) 0 10) none }, rOk) := by
  unfold bodyBufferRelease
  dsimp only
  rw [if_neg (by simp [Option.isSome_iff_ne_none.1 hthere]), if_neg (not_not.2 hfree)]

/-- LAYER_DEFINE of a definition whose words are in range (05_composition R185, R186). -/
theorem bodyLayerDefine_eq {c : Cmd} {s : State} (hok : defBad ((List.range 25).map (pw c)) = none) :
    bodyLayerDefine c s =
      (setLayer s (bits (pw c 0) 24 6)
        { layer s (bits (pw c 0) 24 6) with staged := some ((List.range 25).map (pw c)) }, rOk) := by
  unfold bodyLayerDefine
  dsimp only
  rw [hok]

/-- PLUME_GUARD_SET with no layer running and its words in range (10_jets_motion R384). -/
theorem bodyPlumeGuardSet_eq {c : Cmd} {s : State} (hrest : ¬(s.bed.build.st = 4 ∨ s.bed.build.st = 5)) (hw1 : ¬5000000 < pw c 1)
    (hw3 : ¬100000000 < pw c 3) (hw4 : ¬10000000 < pw c 4) :
    bodyPlumeGuardSet c s = ({ s with bed.build.guard := (List.range 5).map (pw c) }, rOk) := by
  unfold bodyPlumeGuardSet
  rw [if_neg hrest, if_neg hw1, if_neg hw3, if_neg hw4]

/-- TIME_SOURCE_SET's UPDATE_PATH on a TILE (09_time R329, R335). -/
theorem timeSource_updatesPath {c : Cmd} {s : State} (hform : bit (pw c 0) 30 = true) (hlen : c.len = 7) (htile : s.sys.role = .tile) :
    timeSource c s = ({ s with time.pendPath := some (pw c 5, pw c 6) }, rOk) := by
  unfold timeSource
  dsimp only
  rw [if_neg (by omega), if_pos hform, if_neg (not_not.2 htile), if_neg (not_not.2 hlen)]

/-- Settles O51: each command's own part sets its one thing whatever tags are in flight and whatever a capture holds. -/
theorem settingCommandsChangeOneThing : Obligations.SettingCommandsChangeOneThing := by
  refine ⟨?write, ?define, ?release, ?guard, ?setpoint, ?path⟩
  case write =>
    exact serves_ofBody (fun _ _ => rfl) (fun _ _ => bodyCfgWrite_eq) (fun _ _ _ _ _ hok => hok) (fun _ _ _ _ _ => rfl)
      fun _ _ => ⟨rfl, rfl, rfl, rfl⟩
  case define =>
    exact serves_ofBody (fun _ _ => rfl) (fun _ _ => bodyLayerDefine_eq) (fun _ _ _ _ _ hok => hok) (fun _ _ _ _ _ => rfl)
      fun _ _ => ⟨rfl, rfl, rfl, rfl⟩
  case release =>
    exact serves_ofBody (fun _ _ => rfl) (fun _ _ ⟨hthere, hfree⟩ => bodyBufferRelease_eq hthere hfree)
      (fun _ _ _ _ _ hidle => hidle) (fun _ _ _ _ _ => rfl) fun _ _ => ⟨rfl, rfl, rfl, rfl⟩
  case guard =>
    exact serves_ofBody (fun _ _ => rfl)
      (fun _ _ ⟨hrun, hpause, hw1, hw3, hw4⟩ =>
        bodyPlumeGuardSet_eq (not_or.2 ⟨hrun, hpause⟩) (Nat.not_lt.2 hw1) (Nat.not_lt.2 hw3) (Nat.not_lt.2 hw4))
      (fun _ _ _ _ _ hrange => hrange) (fun _ _ _ _ _ => rfl) fun _ _ => ⟨rfl, rfl, rfl, rfl⟩
  case setpoint =>
    exact serves_ofBody (fun _ _ => rfl) (fun _ _ ⟨hslot, hform⟩ => bodySetpointSet_givesUp hslot hform)
      (fun _ _ _ _ _ hslot => hslot) (fun _ _ _ _ _ => rfl) fun _ _ => ⟨rfl, rfl, rfl, rfl⟩
  case path =>
    exact serves_ofBody (fun _ _ => rfl) (fun _ _ ⟨hform, hlen, htile⟩ => timeSource_updatesPath hform hlen htile)
      (fun _ _ _ _ _ htile => htile) (fun _ _ _ _ _ => rfl) fun _ _ => ⟨rfl, rfl, rfl, rfl⟩

end Sys2Proof.Machine
end

section

namespace Sys2Proof.Machine

/-! ### The commands that only read -/

/-- A command's own part that answers and changes nothing. -/
def readsOnly (body : Body) : Prop := ∀ c s, (body c s).1 = s

theorem execHere_readsOnly {body : Body} (hreads : readsOnly body) (o : OpSpec) (n : Nat) (c : Cmd) (s : State) :
    (execHere o n body c s).1 = s := by
  unfold execHere
  split
  · rfl
  · split
    · rfl
    · split
      · split
        · rfl
        · exact hreads c s
      · exact hreads c s

/-- The run of such a command answers in the state with the tag, and with the record of a running capture. -/
theorem runHere_readsOnly {body : Body} (hreads : readsOnly body) (o : OpSpec) (n : Nat) (c : Cmd) (s : State) :
    ∃ u r, (u = takeTag s o.op c ∨ u = taken o c s) ∧
      runHere o n body c s = answer (mirrorCmd u o.op c r) o.op c r (r.status != .accepted) := by
  unfold runHere
  dsimp only
  rw [← taken]
  split
  · exact ⟨_, _, .inl (execHere_readsOnly hreads o n c _), rfl⟩
  · exact ⟨_, _, .inr (execHere_readsOnly hreads o n c _), rfl⟩

/-- An answer, with the mirror record of an active pair, touches what `hostly` names alone. -/
theorem hostly_mirroredAnswer (s : State) (cmds : Cmds) {cap : Capture} {dram : Tab Byte}
    (hidle : capRuns s = false → cap = s.cap ∧ dram = s.dram) (op : Nat) (c : Cmd) (r : Reply) (ends : Bool) :
    held s (answer (mirrorCmd (withTag s cmds cap dram) op c r) op c r ends) =
      hostly s s (held s (answer (mirrorCmd (withTag s cmds cap dram) op c r) op c r ends)) := by
  apply State.ext
  case cap =>
    cases hruns : capRuns s
    case true => simp [held, hostly, reports, hruns]
    case false => simp [held, hostly, reports, hruns, withTag, (hidle hruns).1]
  case dram =>
    cases hruns : capRuns s
    case true => simp [held, hostly, reports, hruns]
    case false => simp [held, hostly, reports, hruns, withTag, (hidle hruns).2]
  case pair =>
    cases hactive : pairActive s
    case true => simp [held, hostly, reports, hactive]
    case false =>
      rw [mirrorCmd_pair (s := withTag s cmds cap dram) hactive]
      simp [held, hostly, reports, hactive, withTag]
  all_goals simp [held, hostly, reports, withTag]

/-- The record of a command changes the capture and DRAM only while a capture runs. -/
theorem taken_cap_dram (o : OpSpec) (c : Cmd) (s : State) (hidle : capRuns s = false) :
    (taken o c s).cap = s.cap ∧ (taken o c s).dram = s.dram := by
  rw [taken_idle o c hidle]
  exact ⟨rfl, rfl⟩

/-- An accepted command that only reads, whatever it answers, changes nothing but what `hostly` names. -/
theorem reading_changesNothing {o : OpSpec} {i : Instr} {c : Cmd} {s : State} {bs : State → Nat} {body : Body}
    (hx : exec i s = live s (runCmd o bs body c)) (hreads : readsOnly body) (hacc : Accepted o c s) :
    goes (exec i s) fun t => t = hostly s s t := by
  obtain ⟨harrives, -⟩ := hacc
  refine ⟨_, hx.trans (live_acts harrives.1 _), ?_⟩
  rw [runCmd_arrives bs body harrives]
  obtain ⟨u, r, rfl | rfl, hrun⟩ := runHere_readsOnly hreads o (bs s) c s
  · rw [hrun]
    exact hostly_mirroredAnswer s _ (fun _ => ⟨rfl, rfl⟩) o.op c r _
  · rw [hrun, taken_eq_withTag]
    exact hostly_mirroredAnswer s _ (taken_cap_dram o c s) o.op c r _

/-! Each reading command's own part, along its refusals. -/

theorem bodyGetInfo_readsOnly : readsOnly bodyGetInfo := fun _ _ => rfl

theorem bodyGetState_readsOnly : readsOnly bodyGetState := fun _ _ => rfl

theorem bodyLinkStatus_readsOnly : readsOnly bodyLinkStatus := fun c s => by
  unfold bodyLinkStatus
  dsimp only
  split <;> rfl

theorem bodyTopoRead_readsOnly : readsOnly bodyTopoRead := fun c s => by
  unfold bodyTopoRead
  dsimp only
  split <;> rfl

theorem bodyCrcResultRead_readsOnly : readsOnly bodyCrcResultRead := fun _ _ => rfl

theorem bodyFretboardRead_readsOnly : readsOnly bodyFretboardRead := fun c s => by
  unfold bodyFretboardRead
  dsimp only
  split
  · rfl
  · split <;> rfl

theorem bodyLampHealthRead_readsOnly : readsOnly bodyLampHealthRead := fun c s => by
  unfold bodyLampHealthRead
  dsimp only
  split <;> rfl

theorem bodyWearRead_readsOnly : readsOnly bodyWearRead := fun c s => by
  unfold bodyWearRead
  dsimp only
  split <;> rfl

theorem bodyTimeGet_readsOnly : readsOnly bodyTimeGet := fun _ _ => rfl

theorem bodyFaultRead_readsOnly : readsOnly bodyFaultRead := fun _ _ => rfl

theorem bodyLogRead_readsOnly : readsOnly bodyLogRead := fun c s => by
  unfold bodyLogRead
  dsimp only
  split
  · rfl
  · split <;> rfl

theorem bodyLaneStatus_readsOnly : readsOnly bodyLaneStatus := fun c s => by
  unfold bodyLaneStatus
  dsimp only
  split <;> rfl

theorem bodyImageStatus_readsOnly : readsOnly bodyImageStatus := fun _ _ => rfl

theorem bodyCalStatus_readsOnly : readsOnly bodyCalStatus := fun _ _ => rfl

/-- Settles O50: fourteen bodies that give their state back, each behind the same run. -/
theorem readingCommandsChangeNothing : Obligations.ReadingCommandsChangeNothing := fun _ _ =>
  ⟨reading_changesNothing rfl bodyGetInfo_readsOnly, reading_changesNothing rfl bodyGetState_readsOnly,
    reading_changesNothing rfl bodyLinkStatus_readsOnly, reading_changesNothing rfl bodyTopoRead_readsOnly,
    reading_changesNothing rfl bodyCrcResultRead_readsOnly, reading_changesNothing rfl bodyFretboardRead_readsOnly,
    reading_changesNothing rfl bodyLampHealthRead_readsOnly, reading_changesNothing rfl bodyWearRead_readsOnly,
    reading_changesNothing rfl bodyTimeGet_readsOnly, reading_changesNothing rfl bodyFaultRead_readsOnly,
    reading_changesNothing rfl bodyLogRead_readsOnly, reading_changesNothing rfl bodyLaneStatus_readsOnly,
    reading_changesNothing rfl bodyImageStatus_readsOnly, reading_changesNothing rfl bodyCalStatus_readsOnly⟩

end Sys2Proof.Machine
end

section

namespace Sys2Proof.Machine

/-! ### The image commands -/

/-- IMAGE_BEGIN of a length in range, with no trial and no forward, and with ABORT_OPEN where a session is open
(18_startup_update R667; what ends an IMAGE_END under way is log 23). -/
theorem bodyImageBegin_eq {c : Cmd} {s : State} (haligned : pw c 0 % 4 = 0) (hmin : 516 ≤ pw c 0) (hmax : pw c 0 ≤ 16773632)
    (htrial : runningTrial s = false) (hforward : s.img.forward = none)
    (habort : s.img.session.isSome ∨ s.img.eraseOnly → bit (pw c 1) 16 = true) :
    bodyImageBegin c s =
      (let s1 := dropSession s
        let k := idleSlot s1
        let done := if (imgSlot s1 k).st = 0 then slotBytes else 0
        let s2 := writeBoot (setImgSlot s1 k { st := 1, hdr := ImgHdr.zero, data := [] })
        if bit (pw c 1) 17 then { s2 with img.erased := 0, img.eraseOnly := true }
        else { s2 with img.erased := done, img.session := some { id := pw c 1 % 65536, total := pw c 0, got := [] } }, rOk) := by
  unfold bodyImageBegin
  dsimp only
  rw [if_neg (by omega), if_neg (by simp [htrial, hforward]), if_neg fun ⟨hopen, hkept⟩ => ne_true_of_eq_false hkept (habort hopen)]
  exact (apply_ite (·, rOk) _ _ _).symm

/-- IMAGE_CHUNK at the session's offset, whose bytes are erased (18_startup_update R668). -/
theorem bodyImageChunk_programs {c : Cmd} {s : State} {x : ImgSession} (hlen : 3 ≤ c.len) (hsession : s.img.session = some x)
    (hid : x.id = pw c 1 % 65536) (hoff : pw c 0 = x.got.length) (hfit : pw c 0 + 4 * (c.len - 2) ≤ x.total)
    (herased : slotOff (pw c 0 + 4 * (c.len - 2) - 1) + 1 ≤ s.img.erased) :
    bodyImageChunk c s =
      (let d := (bytesOf (c.payload.drop 2)).take (4 * (c.len - 2))
       { flashChunk (bump s 0x10 0 2) (idleSlot s) (pw c 0) d with img.session := some { x with got := x.got ++ d } }, rOk) := by
  unfold bodyImageChunk
  dsimp only
  rw [if_neg (Nat.not_lt.2 hlen), hsession]
  dsimp only
  rw [if_neg (not_not.2 hid), if_pos ⟨hoff, hfit⟩, if_neg (Nat.not_lt.2 herased)]

/-- IMAGE_CHUNK of bytes that the session holds already (18_startup_update R668). -/
theorem bodyImageChunk_acknowledges {c : Cmd} {s : State} {x : ImgSession} (hlen : 3 ≤ c.len) (hsession : s.img.session = some x)
    (hid : x.id = pw c 1 % 65536) (hheld : pw c 0 + 4 * (c.len - 2) ≤ x.got.length) :
    bodyImageChunk c s = (bump s 0x10 0 3, rOk) := by
  unfold bodyImageChunk
  dsimp only
  rw [if_neg (Nat.not_lt.2 hlen), hsession]
  dsimp only
  rw [if_neg (not_not.2 hid), if_neg (by omega), if_pos hheld]

/-- IMAGE_END of a whole transfer that no verification runs of (18_startup_update R669). -/
theorem bodyImageEnd_verifies {c : Cmd} {s : State} {x : ImgSession} (hsession : s.img.session = some x)
    (hwhole : ¬(x.id ≠ pw c 0 % 65536 ∨ x.got.length < x.total)) (hidle : ¬s.img.verifying.isSome) :
    bodyImageEnd c s = ({ s with img.verifying := some c.tag }, rAccepted) := by
  unfold bodyImageEnd
  rw [hsession]
  exact (if_neg hwhole).trans (if_neg hidle)

/-- IMAGE_ACTIVATE with none of R673's cases against it. -/
theorem bodyImageActivate_eq {c : Cmd} {s : State} (hbed : ¬(s.sys.role = .bed ∧ s.sys.st ≠ .standby ∧ s.sys.st ≠ .hold))
    (hlen : ¬c.len ≠ 3) (hvalid : ¬(imgSlot s (idleSlot s)).st ≠ 2)
    (hmode : ¬(1 < pw c 0 % 4 ∨ (pw c 0 % 4 = 0 ∧ (imgSlot s (idleSlot s)).hdr.abi ≠ (runHdr s).abi)))
    (htime : ¬(bit (pw c 0) 2 ∧
      (unshort (sysTicks s) (pw c 2 % 65536 * 2 ^ 32 + pw c 1) < nowSys s + msTicks ∨
        nowSys s + 60 * secTicks < unshort (sysTicks s) (pw c 2 % 65536 * 2 ^ 32 + pw c 1))))
    (hidle : ¬(runningTrial s ∨ imgBusy s ∨ s.img.act.isSome ∨ othersInFlight s c.tag)) (hsingle : ¬pairActive s) :
    bodyImageActivate c s =
      ({ s with
          img.act := some { tag := c.tag, mode := pw c 0 % 4
                            at_ := if bit (pw c 0) 2 then some (unshort (sysTicks s) (pw c 2 % 65536 * 2 ^ 32 + pw c 1)) else none } },
        rAccepted) := by
  unfold bodyImageActivate
  dsimp only
  rw [if_neg hbed, if_neg hlen, if_neg hvalid, if_neg hmode, if_neg htime, if_neg hidle, if_neg hsingle]

/-- IMAGE_CONFIRM with no trial running changes nothing (18_startup_update R677). -/
theorem bodyImageConfirm_noTrial (c : Cmd) {s : State} (htrial : runningTrial s = false) : bodyImageConfirm c s = (s, rOk) :=
  if_pos htrial

/-- IMAGE_CONFIRM of a trial whose self-test has passed (18_startup_update R677). -/
theorem bodyImageConfirm_confirms (c : Cmd) {s : State} (htrial : runningTrial s = true) (hpassed : s.img.selftest = 1) :
    bodyImageConfirm c s = (confirmImage s, rOk) := by
  unfold bodyImageConfirm
  rw [if_neg (ne_false_of_eq_true htrial), if_neg (by omega), if_pos hpassed]

/-- IMAGE_FORWARD of an image that can be forwarded, to a neighbour behind a locked port (18_startup_update R670; the session's
identifier is log 23). -/
theorem bodyImageForward_eq {c : Cmd} {s : State} {d : Nat}
    (hdepth : ¬(pw c 0 % 256 = 0 ∨ pw c 0 % 256 = 255 ∨
      (bit (pw c 0) 8 = false ∧ (imgSlot s (idleSlot s)).st ≠ 2 ∧ (imgSlot s (idleSlot s)).st ≠ 4) ∨
      (bit (pw c 0) 8 ∧ runningTrial s)))
    (hidle : ¬imgBusy s) (hnext : (neighbour s).2 = some d) (hlocked : ¬portLocked s (neighbour s).1 = false) :
    bodyImageForward c s =
      (let data := slotData (imgSlot s (if bit (pw c 0) 8 then runSlot s else idleSlot s))
       let f : Forward :=
         { tag := c.tag, depth := pw c 0 % 256, data := data, dest := d, stage := 0, next := 0, open_ := [], session := c.tag }
       { sendForward s f 0xB0 0xFC0 [w32 data.length, w32 f.session] with img.forward := some f }, rAccepted) := by
  unfold bodyImageForward
  dsimp only
  rw [if_neg hdepth, if_neg hidle, hnext]
  dsimp only
  rw [if_neg hlocked]

/-- Settles O13: what each command's own part answers, behind the checks that an accepted command passes. -/
theorem imageCommandsComplete : Obligations.ImageCommandsComplete := by
  refine ⟨?begins, ?programs, ?acknowledges, ?ends, ?activate, ?noTrial, ?confirms, ?forward, ?status⟩
  case begins =>
    refine runs_of noBuild bodyImageBegin (fun _ _ => rfl) (fun _ _ _ => rfl) ?_
    rintro c s ⟨haligned, hmin, hmax, htrial, hforward, habort⟩
    exact bodyImageBegin_eq haligned hmin hmax htrial hforward habort
  case programs =>
    refine fun x => runs_of noBuild bodyImageChunk (fun _ _ => rfl) (fun _ _ _ => rfl) ?_
    rintro c s ⟨hlen, hsession, hid, hoff, hfit, herased⟩
    exact bodyImageChunk_programs hlen hsession hid hoff hfit herased
  case acknowledges =>
    refine fun x => runs_of noBuild bodyImageChunk (fun _ _ => rfl) (fun _ _ _ => rfl) ?_
    rintro c s ⟨hlen, hsession, hid, hheld⟩
    exact bodyImageChunk_acknowledges hlen hsession hid hheld
  case ends =>
    refine fun x => runs_of noBuild bodyImageEnd (fun _ _ => rfl) (fun _ _ _ => rfl) ?_
    rintro c s ⟨hsession, hwhole, hidle⟩
    exact bodyImageEnd_verifies hsession hwhole hidle
  case activate =>
    refine runs_of noBuild bodyImageActivate (fun _ _ => rfl) (fun _ _ _ => rfl) ?_
    rintro c s ⟨hbed, hlen, hvalid, hmode, htime, hidle, hsingle⟩
    exact bodyImageActivate_eq hbed hlen hvalid hmode htime hidle hsingle
  case noTrial =>
    exact runs_of noBuild bodyImageConfirm (fun _ _ => rfl) (fun _ _ _ => rfl) fun c _ => bodyImageConfirm_noTrial c
  case confirms =>
    refine runs_of noBuild bodyImageConfirm (fun _ _ => rfl) (fun _ _ _ => rfl) ?_
    rintro c s ⟨htrial, hpassed⟩
    exact bodyImageConfirm_confirms c htrial hpassed
  case forward =>
    refine fun d => runs_of noBuild bodyImageForward (fun _ _ => rfl) (fun _ _ _ => rfl) ?_
    rintro c s ⟨hdepth, hidle, hnext, hlocked⟩
    exact bodyImageForward_eq hdepth hidle hnext hlocked
  case status => exact runs_of noBuild bodyImageStatus (fun _ _ => rfl) (fun _ _ _ => rfl) fun _ _ _ => rfl

/-! ### Erasure, verification and forwarding -/

/-- IMAGE_VERIFIED of a session whose IMAGE_END waits (18_startup_update R669). -/
theorem imageVerified_waited {sigOk hashOk : Bool} {s : State} {tag : Nat} {x : ImgSession} (hwaits : s.img.verifying = some tag)
    (hsession : s.img.session = some x) :
    imageVerified sigOk hashOk s =
      let k := idleSlot s
      let h := parseHdr x.got
      let r := verifyCode s x.got h sigOk hashOk
      let s1 := writeBoot (setImgSlot { s with img.session := none, img.verifying := none } k
        { st := if r = 0 then 2 else 5, hdr := h, data := x.got })
      cmdDone (raise s1 0x1001 (args [(1, k), (1, r), (4, h.build)])) tag 0xB2 (verifyStatus r) := by
  unfold imageVerified
  rw [hwaits, hsession]

/-- Settles O19: each event's own part past the condition under which it does nothing. -/
theorem imageEventsComplete : Obligations.ImageEventsComplete := by
  refine ⟨?verified, ?response, ?done, ?erased⟩
  case verified =>
    exact fun sigOk hashOk tag x =>
      steps_of (imageVerified sigOk hashOk) (fun _ => rfl) fun s ⟨hwaits, hsession⟩ => imageVerified_waited hwaits hsession
  case response =>
    refine fun tag status f => steps_of (forwardResponse tag status) (fun _ => rfl) fun s hforward => ?_
    unfold forwardResponse
    rw [hforward] <;> rfl
  case done =>
    refine fun status f => steps_of (forwardDone status) (fun _ => rfl) fun s hforward => ?_
    unfold forwardDone
    rw [hforward]
  case erased => exact fun n => steps_of (flashErased n) (fun _ => rfl) fun s hunder => if_neg hunder

end Sys2Proof.Machine
end

section

namespace Sys2Proof.Machine

/-! ### The Spillway's commands -/

/-- The first-fault record is no part of the bits that FAULT_CLEAR answers (14_spillway R548). -/
theorem firstCleared_answers (b : Bool) (s : State) :
    (let s2 := if b then { s with spill.first := First.cold } else s
     (s2, rWords [w32 s2.spill.status, w32 (s2.spill.status / 2 ^ 32)])) =
      (if b then { s with spill.first := First.cold } else s, rWords [w32 s.spill.status, w32 (s.spill.status / 2 ^ 32)]) := by
  cases b
  · rfl
  · rfl

/-- FAULT_CLEAR answers the bits that are left (14_spillway R548). -/
theorem bodyFaultClear_eq (c : Cmd) (s : State) :
    bodyFaultClear c s =
      (let s1 := (List.range 64).foldl (clearBit (pw c 0 + pw c 1 * 2 ^ 32)) s
       (if bit (pw c 2) 0 then { s1 with spill.first := First.cold } else s1,
        rWords [w32 s1.spill.status, w32 (s1.spill.status / 2 ^ 32)])) := by
  unfold bodyFaultClear
  exact firstCleared_answers (bit (pw c 2) 0) _

/-- FAULT_INJECT of a source and a unit of the role, for 1 µs to 1 s, with no injection open (14_spillway R544, R545). -/
theorem bodyFaultInject_eq {c : Cmd} {s : State} (hsrc : pw c 0 % 64 ≤ 45)
    (hinst : injectInstance s.sys.role (pw c 0 % 64) (bits (pw c 0) 16 16) = true) (hmin : 1 ≤ pw c 1) (hmax : pw c 1 ≤ 1000000)
    (hnone : s.spill.injection = none) :
    bodyFaultInject c s =
      (let s1 := bump { s with
          spill.injection := some ⟨pw c 0 % 64, bits (pw c 0) 16 16, bit (pw c 0) 15, s.time.loc + pw c 1 * usTicks, false⟩ } 0x0D 0 4
       fireOne s1 { source := pw c 0 % 64, inst := bits (pw c 0) 16 16, detail := 0, injected := true,
                      noReaction := bit (pw c 0) 15 }, rOk) := by
  unfold bodyFaultInject
  dsimp only
  rw [if_neg (not_or.2 ⟨Nat.not_lt.2 hsrc, ne_false_of_eq_true hinst⟩), if_neg (by omega), if_neg (by simp [hnone])]

/-- LOG_READ of entries that the log has numbered (14_spillway R552). -/
theorem bodyLogRead_entries {c : Cmd} {s : State} (hsome : pw c 1 % 8 ≠ 0) (hpast : pw c 0 < s.log.next) :
    bodyLogRead c s =
      (s, let oldest := s.log.next - s.log.entries.length
        let es := (s.log.entries.drop (max (pw c 0) oldest - oldest)).take (pw c 1 % 8)
        rWords ([w32 s.log.next, w32 (flag (decide (pw c 0 < oldest)) 8 + es.length)] ++ es.flatten)) := by
  unfold bodyLogRead
  dsimp only
  rw [if_neg hsome, if_neg (Nat.not_le.2 hpast)]

/-- LOG_READ beyond the last entry (14_spillway R552). -/
theorem bodyLogRead_beyond {c : Cmd} {s : State} (hsome : pw c 1 % 8 ≠ 0) (hbeyond : s.log.next ≤ pw c 0) :
    bodyLogRead c s = (s, rWords [w32 s.log.next, w32 0]) := by
  unfold bodyLogRead
  dsimp only
  rw [if_neg hsome, if_pos hbeyond]

/-- FENCE_RELEASE of a unit that is not fenced changes nothing (14_spillway R542). -/
theorem bodyFenceRelease_unfenced {c : Cmd} {s : State} (hunit : fenceExists s.sys.role (pw c 0 / 2 ^ 28) (pw c 0 % 65536) = true)
    (hnone : (s.spill.fences.find? fun f => f.kind == pw c 0 / 2 ^ 28 && f.inst == pw c 0 % 65536) = none) :
    bodyFenceRelease c s = (s, rOk) := by
  unfold bodyFenceRelease
  dsimp only
  rw [if_neg (ne_false_of_eq_true hunit), hnone]

/-- FENCE_RELEASE of a fenced unit whose cause is gone (14_spillway R542). -/
theorem bodyFenceRelease_releases {c : Cmd} {s : State} {f : Fence}
    (hunit : fenceExists s.sys.role (pw c 0 / 2 ^ 28) (pw c 0 % 65536) = true)
    (hfence : (s.spill.fences.find? fun f => f.kind == pw c 0 / 2 ^ 28 && f.inst == pw c 0 % 65536) = some f)
    (hgone : causeAsserted s f = false) : bodyFenceRelease c s = (releaseUnit s f, rOk) := by
  unfold bodyFenceRelease
  dsimp only
  rw [if_neg (ne_false_of_eq_true hunit), hfence]
  exact if_neg (ne_true_of_eq_false hgone)

/-! ### CAPTURE_CONTROL -/

/-- The four rows of CAPTURE_CONTROL as one body, which selects by OP. -/
def captureOp : Body := fun c => captureBody (bits (pw c 0) 30 2) c

/-- Of 1 to 10 words the OP's own body runs (14_spillway R553). -/
theorem captureLen_eq {c : Cmd} (hmin : 1 ≤ c.len) (hmax : c.len ≤ 10) (b : Body) (s : State) : captureLen b c s = b c s :=
  if_neg (by omega)

theorem captureOp_start {c : Cmd} (hmin : 1 ≤ c.len) (hmax : c.len ≤ 10) (hop : bits (pw c 0) 30 2 = 0) (s : State) :
    captureOp c s = captureStart c s := by
  rw [captureOp, hop]
  exact captureLen_eq hmin hmax captureStart s

theorem captureOp_stop {c : Cmd} (hmin : 1 ≤ c.len) (hmax : c.len ≤ 10) (hop : bits (pw c 0) 30 2 = 1) (s : State) :
    captureOp c s = captureStop c s := by
  rw [captureOp, hop]
  exact captureLen_eq hmin hmax captureStop s

theorem captureOp_status {c : Cmd} (hmin : 1 ≤ c.len) (hmax : c.len ≤ 10) (hop : bits (pw c 0) 30 2 = 2) (s : State) :
    captureOp c s = captureStatus c s := by
  rw [captureOp, hop]
  exact captureLen_eq hmin hmax captureStatus s

theorem captureOp_read {c : Cmd} (hmin : 1 ≤ c.len) (hmax : c.len ≤ 10) (hop : bits (pw c 0) 30 2 = 3) (s : State) :
    captureOp c s = captureRead c s := by
  rw [captureOp, hop]
  exact captureLen_eq hmin hmax captureRead s

/-- OP 0 with no capture under way and none of R554's cases against it; START 0 has its origin at once (14_spillway R553). -/
theorem captureStart_eq {c : Cmd} {s : State} (hidle : ¬(1 ≤ s.cap.state ∧ s.cap.state ≤ 3)) (hok : captureFault s c = none) :
    captureStart c s =
      (let w := pw c 0
       let s1 := { s with cap := { Capture.cold with
         state := 1, startMode := bits w 28 2, wrap := bit w 27, pixels := bit w 26, stopOnFault := bit w 25, stopSev := bits w 23 2
         headMask := w % 65536, ring := capRingAt c, ringMib := pw c 3, postMs := pw c 4
         startTime := (unshort (sysTicks s) (pw c 5 + pw c 6 % 65536 * 2 ^ 32)).toNat
         region := [pw c 7 % 65536, pw c 7 / 65536, pw c 8 % 65536, pw c 8 / 65536, pw c 9 % 8] } }
       capOriginAt s1 0, rOk) := by
  unfold captureStart
  rw [if_neg hidle, hok]

/-- OP 3 of 1 to 240 bytes within the ring (14_spillway R553). -/
theorem captureRead_eq {c : Cmd} {s : State} (hmin : 1 ≤ pw c 2) (hmax : pw c 2 ≤ 240) (hwithin : pw c 1 + pw c 2 ≤ capSize s) :
    captureRead c s =
      (s, rWords (wordsOf (if s.sys.role = .tile then tabGetList 0 s.cap.onChip (pw c 1) (pw c 2)
        else rdBytes s (s.cap.ring + pw c 1) (pw c 2)))) := by
  unfold captureRead
  dsimp only
  rw [if_neg (by omega), if_neg (Nat.not_lt.2 hwithin)]

/-! ### REPLAY_CONTROL -/

/-- The four rows of REPLAY_CONTROL as one body, which selects by OP. -/
def replayOp : Body := fun c => replayBody (bits (pw c 0) 30 2) c

theorem replayOp_load {c : Cmd} (hop : bits (pw c 0) 30 2 = 0) (s : State) : replayOp c s = replayLoad c s := by
  rw [replayOp, hop]
  rfl

theorem replayOp_start {c : Cmd} (hop : bits (pw c 0) 30 2 = 1) (s : State) : replayOp c s = replayStart c s := by
  rw [replayOp, hop]
  rfl

theorem replayOp_feed {c : Cmd} (hop : bits (pw c 0) 30 2 = 2) (s : State) : replayOp c s = replayFeed c s := by
  rw [replayOp, hop]
  rfl

theorem replayOp_abort {c : Cmd} (hop : bits (pw c 0) 30 2 = 3) (s : State) : replayOp c s = replayAbort c s := by
  rw [replayOp, hop]
  rfl

/-- OP 0 with no load or run under way; capture and content table lie in DRAM, or come by feeds to a TILE (14_spillway R559,
R560). -/
theorem replayLoad_eq {c : Cmd} {s : State} (hrun : s.rep.st ≠ 3) (hload : s.rep.st ≠ 1)
    (hdram : s.sys.role ≠ .tile → pw c 1 + pw c 2 * 2 ^ 32 + pw c 3 ≤ dramTop s ∧
      pw c 5 + pw c 6 * 2 ^ 32 + 16 * pw c 7 ≤ dramTop s) :
    replayLoad c s =
      (let s1 := { s with rep := { Replay.cold with
         st := 1, src := pw c 1 + pw c 2 * 2 ^ 32, len := pw c 3, startOff := pw c 4, table := pw c 5 + pw c 6 * 2 ^ 32
         entries := pw c 7, tag := c.tag } }
       if s.sys.role == .tile then s1 else finishLoad s1, rAccepted) := by
  have hcapture : ¬(!(s.sys.role == .tile) && decide (dramTop s < pw c 1 + pw c 2 * 2 ^ 32 + pw c 3)) = true := by
    simpa using fun hrole => (hdram hrole).1
  have htable : ¬(!(s.sys.role == .tile) && decide (dramTop s < pw c 5 + pw c 6 * 2 ^ 32 + 16 * pw c 7)) = true := by
    simpa using fun hrole => (hdram hrole).2
  unfold replayLoad
  dsimp only
  rw [if_neg (not_or.2 ⟨hrun, hload⟩), if_neg hcapture, if_neg htable]

/-- OP 1 of a loaded capture (14_spillway R561). -/
theorem replayStart_eq {c : Cmd} {s : State} (hloaded : s.rep.st = 2) :
    replayStart c s =
      (let s1 := { s with rep.st := 3, rep.tag := c.tag, rep.stopOnMismatch := bit (pw c 0) 29 }
       if s.sys.role = .tile then feedsDone (replayRun (repAvail s1 / 16 + 1) s1) else s1, rAccepted) := by
  unfold replayStart
  rw [if_neg (by omega), if_neg (by omega)]

/-- OP 2 of 1 to 232 bytes that follow those fed (14_spillway R559). -/
theorem replayFeed_eq {c : Cmd} {s : State} (htile : s.sys.role = .tile) (hst : s.rep.st ≠ 0) (hnext : pw c 1 = s.rep.fed.length)
    (hmin : 1 ≤ pw c 2 % 256) (hmax : pw c 2 % 256 ≤ 232) (hbytes : pw c 2 % 256 ≤ (bytesOf (c.payload.drop 4)).length) :
    replayFeed c s =
      (let fed := s.rep.fed ++ feedBytes c
       let s1 := { s with rep.fed := fed, rep.feeds := s.rep.feeds ++ [(fed.length, c.tag)] }
       let s2 := if s1.rep.st = 1 ∧ (repRecord s1 0).isSome then finishLoad s1 else s1
       feedsDone (replayRun (repAvail s2 / 16 + 1) s2), rAccepted) := by
  unfold replayFeed
  dsimp only
  rw [if_neg (not_or.2 ⟨not_not.2 htile, hst⟩), if_neg (not_not.2 hnext), if_neg (by omega)]

/-- Settles O11: what each command's own part answers, behind the checks that an accepted command passes. The codes of a
replay's CMD_DONE are the model's choice (log 35). -/
theorem spillwayCommandsComplete : Obligations.SpillwayCommandsComplete := by
  refine ⟨?read, ?clear, ?inject, ?log, ?logBeyond, ?unfenced, ?release, ?start, ?stop, ?status, ?ring, ?load, ?run, ?feed, ?abort⟩
  case read => exact runs_of _ bodyFaultRead (fun _ _ => rfl) (fun _ _ _ => rfl) fun _ _ _ => rfl
  case clear => exact runs_of _ bodyFaultClear (fun _ _ => rfl) (fun _ _ _ => rfl) fun c s _ => bodyFaultClear_eq c s
  case inject =>
    refine runs_of _ bodyFaultInject (fun _ _ => rfl) (fun _ _ _ => rfl) ?_
    rintro c s ⟨hsrc, hinst, hmin, hmax, hnone⟩
    exact bodyFaultInject_eq hsrc hinst hmin hmax hnone
  case log =>
    refine runs_of _ bodyLogRead (fun _ _ => rfl) (fun _ _ _ => rfl) ?_
    rintro c s ⟨hsome, hpast⟩
    exact bodyLogRead_entries hsome hpast
  case logBeyond =>
    refine runs_of _ bodyLogRead (fun _ _ => rfl) (fun _ _ _ => rfl) ?_
    rintro c s ⟨hsome, hbeyond⟩
    exact bodyLogRead_beyond hsome hbeyond
  case unfenced =>
    refine runs_of noBuild bodyFenceRelease (fun _ _ => rfl) (fun _ _ _ => rfl) ?_
    rintro c s ⟨hunit, hnone⟩
    exact bodyFenceRelease_unfenced hunit hnone
  case release =>
    refine fun f => runs_of noBuild bodyFenceRelease (fun _ _ => rfl) (fun _ _ _ => rfl) ?_
    rintro c s ⟨hunit, hfence, hgone⟩
    exact bodyFenceRelease_releases hunit hfence hgone
  case start =>
    refine runs_of noBuild captureOp (fun _ _ => rfl) (fun _ _ _ => rfl) ?_
    rintro c s ⟨hmin, hmax, hop, hidle, hok⟩
    rw [captureOp_start hmin hmax hop, captureStart_eq hidle hok]
  case stop =>
    refine runs_of noBuild captureOp (fun _ _ => rfl) (fun _ _ _ => rfl) ?_
    rintro c s ⟨hmin, hmax, hop⟩
    exact captureOp_stop hmin hmax hop s
  case status =>
    refine runs_of noBuild captureOp (fun _ _ => rfl) (fun _ _ _ => rfl) ?_
    rintro c s ⟨hmin, hmax, hop⟩
    exact captureOp_status hmin hmax hop s
  case ring =>
    refine runs_of noBuild captureOp (fun _ _ => rfl) (fun _ _ _ => rfl) ?_
    rintro c s ⟨hmin, hmax, hop, hsome, hfit, hwithin⟩
    rw [captureOp_read hmin hmax hop, captureRead_eq hsome hfit hwithin]
  case load =>
    refine runs_of noBuild replayOp (fun _ _ => rfl) (fun _ _ _ => rfl) ?_
    rintro c s ⟨hop, hrun, hload, hdram⟩
    rw [replayOp_load hop, replayLoad_eq hrun hload hdram]
  case run =>
    refine runs_of noBuild replayOp (fun _ _ => rfl) (fun _ _ _ => rfl) ?_
    rintro c s ⟨hop, hloaded⟩
    rw [replayOp_start hop, replayStart_eq hloaded]
  case feed =>
    refine runs_of noBuild replayOp (fun _ _ => rfl) (fun _ _ _ => rfl) ?_
    rintro c s ⟨hop, htile, hst, hnext, hmin, hmax, hbytes⟩
    rw [replayOp_feed hop, replayFeed_eq htile hst hnext hmin hmax hbytes]
  case abort => exact runs_of noBuild replayOp (fun _ _ => rfl) (fun _ _ _ => rfl) fun _ s hop => replayOp_abort hop s

/-! ### The events of captures and replays -/

/-- Settles O21: each event's own part past the condition under which it does nothing. -/
theorem captureEventsComplete : Obligations.CaptureEventsComplete := by
  refine ⟨?origin, ?checkpoint, ?ended, ?replay⟩
  case origin => exact steps_of captureOrigin (fun _ => rfl) fun s hcome => if_pos hcome
  case checkpoint => exact steps_of captureCheckpoint (fun _ => rfl) fun s hdue => if_neg hdue
  case ended => exact fun lost => steps_of (captureEnd lost) (fun _ => rfl) fun s hruns => if_neg hruns
  case replay => exact steps_of replayDone (fun _ => rfl) fun s hloaded => if_pos hloaded

end Sys2Proof.Machine
end

section

namespace Sys2Proof.Machine

/-! ### Thermal and calibration commands -/

/-- With ACK a held shutdown record is erased and its event raised (15_thermal_ageing R585). -/
theorem bodyThermalRead_eq (c : Cmd) (s : State) :
    bodyThermalRead c s =
      (if bit (pw c 0) 0 ∧ shutHeld s then raise (emit { s with nv.shutRec := [] } (.record 2 0 [])) 0x0E06 [] else s,
        rWords (thermalWords s)) := by
  unfold bodyThermalRead
  by_cases hack : bit (pw c 0) 0 ∧ shutHeld s
  · rw [if_pos hack, if_pos hack]
  · rw [if_neg hack, if_neg hack]

/-- Limits in their ranges and in their order are taken (15_thermal_ageing R574). -/
theorem bodyThermalLimitsSet_eq {c : Cmd} {s : State} (hwarn : 640 ≤ pw c 0 % 65536 ∧ pw c 0 % 65536 ≤ 1680)
    (hthrottle : pw c 0 % 65536 + 16 ≤ pw c 0 / 65536 ∧ pw c 0 / 65536 ≤ 1760)
    (hshut : pw c 0 / 65536 + 80 ≤ pw c 1 % 65536 ∧ pw c 1 % 65536 ≤ 1920)
    (hrise : 16 ≤ pw c 1 / 65536 ∧ pw c 1 / 65536 ≤ 320) :
    bodyThermalLimitsSet c s =
      ({ s with th.limWarn := pw c 0 % 65536, th.limThrottle := pw c 0 / 65536, th.limShut := pw c 1 % 65536
                th.limRise := pw c 1 / 65536, th.warnRun := 0, th.throttleRun := 0, th.shutRun := 0, th.riseRun := 0 }, rOk) := by
  unfold bodyThermalLimitsSet
  dsimp only
  rw [if_neg (by omega), if_neg (by omega)]

/-- A replan of domains of the role waits when no other one does (15_thermal_ageing R594). -/
theorem bodyMarginReplan_eq {c : Cmd} {s : State}
    (hdomains : ¬(pw c 0 % 32 ≠ 0 ∧ ((List.range 5).any fun d => bit (pw c 0 % 32) d && domainUsed s.sys.role d) = false))
    (hnone : ¬s.th.pendReplan.isSome) :
    bodyMarginReplan c s =
      ({ s with th.pendReplan := some { mask := pw c 0 % 32, dry := bit (pw c 0) 31, tag := some c.tag } }, rAccepted) := by
  unfold bodyMarginReplan
  dsimp only
  rw [if_neg hdomains, if_neg hnone]

/-- A run begins with the first domain of the role, when no run and no replay is under way (16_calibration R609). -/
theorem bodyCalRun_eq {c : Cmd} {s : State} {d : Nat} {later : List Nat}
    (hform : ¬(((List.range 4).filter fun d => bit (pw c 0 % 16) d).isEmpty ∨
      (pw c 0 / 65536 ≠ 0xFFFF ∧ ((List.range 4).filter fun d => bit (pw c 0 % 16) d).length ≠ 1)))
    (hhere : (((List.range 4).filter fun d => bit (pw c 0 % 16) d).filter fun d => !(calInstances s.sys.role d).isEmpty) = d :: later)
    (hinst : ¬(pw c 0 / 65536 ≠ 0xFFFF ∧ (calInstances s.sys.role d).contains (pw c 0 / 65536) = false))
    (hidle : ¬(s.cal.run.isSome ∨ s.rep.st ≠ 0)) :
    bodyCalRun c s =
      (let r : CalRun := { tag := c.tag, inst := pw c 0 / 65536, service := s.sys.st == .service
                           domains := d :: later, todo := [], done := 0, fails := 0 }
       calGo { s with cal.run := some { r with todo := runList s r d } }, rAccepted) := by
  unfold bodyCalRun
  dsimp only
  rw [if_neg hform, hhere]
  dsimp only
  rw [if_neg hinst, if_neg hidle]

/-- Settles O12: what each command's own part answers, behind the checks that an accepted command passes. -/
theorem thermalAndCalibrationCommandsComplete : Obligations.ThermalAndCalibrationCommandsComplete := by
  refine ⟨?thermal, ?limits, ?ageing, ?replan, ?run, ?status⟩
  case thermal => exact runs_of noBuild bodyThermalRead (fun _ _ => rfl) (fun _ _ _ => rfl) fun c s _ => bodyThermalRead_eq c s
  case limits =>
    refine runs_of noBuild bodyThermalLimitsSet (fun _ _ => rfl) (fun _ _ _ => rfl) ?_
    rintro c s ⟨hwarnMin, hwarnMax, hthrMin, hthrMax, hshutMin, hshutMax, hriseMin, hriseMax⟩
    exact bodyThermalLimitsSet_eq ⟨hwarnMin, hwarnMax⟩ ⟨hthrMin, hthrMax⟩ ⟨hshutMin, hshutMax⟩ ⟨hriseMin, hriseMax⟩
  case ageing => exact runs_of noBuild bodyAgeingReport (fun _ _ => rfl) (fun _ _ _ => rfl) fun _ _ _ => rfl
  case replan =>
    refine runs_of noBuild bodyMarginReplan (fun _ _ => rfl) (fun _ _ _ => rfl) ?_
    rintro c s ⟨hdomains, hnone⟩
    exact bodyMarginReplan_eq hdomains hnone
  case run =>
    refine fun d later => runs_of noBuild bodyCalRun (fun _ _ => rfl) (fun _ _ _ => rfl) ?_
    rintro c s ⟨hform, hhere, hinst, hidle⟩
    rw [bodyCalRun_eq hform hhere hinst hidle, ← hhere]
  case status => exact runs_of noBuild bodyCalStatus (fun _ _ => rfl) (fun _ _ _ => rfl) fun _ _ _ => rfl

/-! ### Calibration steps and quiet instants -/

/-- The twin of a waiting interpolator becomes the active line (16_calibration R603). -/
theorem quietInstant_waiting {inst : Nat} {s : State} {x : CalStep} (hits : List Nat) (hwaits : delayWaits s inst = some x) :
    quietInstant inst hits s =
      (let s1 := calTwin inst hits s
       let y := calLines s1 inst
       { s1 with
         cal.lines := tabSet DelayPair.cold s1.cal.lines inst { y with activeB := !y.activeB }
         cal.steps := s1.cal.steps.map fun t => if t = x then { t with handed := true } else t }) := by
  unfold quietInstant
  rw [hwaits]

/-- 1 s after its start a step that still waits is abandoned (16_calibration R603). -/
theorem quietTimeout_late {inst : Nat} {s : State} {x : CalStep} (hits : List Nat) (hwaits : delayWaits s inst = some x)
    (hlate : ¬s.time.loc < x.start + secTicks) :
    quietTimeout inst hits s = calGo (calAbandon (calTwin inst hits s) 1 inst 3) := by
  unfold quietTimeout
  rw [hwaits]
  exact if_neg hlate

/-- Calibration in the background begins the first unit of the rotation that is ready (16_calibration R607). -/
theorem calStepDue_ready {d i : Nat} {s : State} (hbackground : calBackground (calGo s) = true) (hdomain : d < 4)
    (hfree : ((calGo s).cal.steps.any fun t => t.dom == d) = false)
    (hperiod : (calDom (calGo s) d).lastEnd + keyU (calGo s) (0x0F00 + d) 0 4 * secTicks ≤ (calGo s).time.loc)
    (hready : ((calRotation (calGo s) d).find? fun i => calReady (calGo s) d i false) = some i) :
    calStepDue d s =
      (let x := calDom (calGo s) d
       let y := if x.prio.contains i then { x with prio := x.prio.erase i } else { x with next := i + 1 }
       calBegin (setCalDom (calGo s) d y) d i false false) := by
  have hruns : ¬(calBackground (calGo s) = false ∨ 4 ≤ d ∨ ((calGo s).cal.steps.any fun t => t.dom == d) = true ∨
      (calGo s).time.loc < (calDom (calGo s) d).lastEnd + keyU (calGo s) (0x0F00 + d) 0 4 * secTicks) := by
    rw [hbackground, hfree]
    simp only [Bool.true_eq_false, Bool.false_eq_true, false_or]
    omega
  unfold calStepDue
  dsimp only
  rw [if_neg hruns, hready]

/-- Settles O36: each event's own part past the conditions under which it does nothing. -/
theorem calibrationEventsComplete : Obligations.CalibrationEventsComplete := by
  refine ⟨?done, ?quiet, ?timeout, ?slicer, ?due⟩
  case done => exact fun d inst o => steps_of (calStepDone d inst o) (fun _ => rfl) fun _ _ => rfl
  case quiet =>
    exact fun inst hits x => steps_of (quietInstant inst hits) (fun _ => rfl) fun s hwaits => quietInstant_waiting hits hwaits
  case timeout =>
    exact fun inst hits x => steps_of (quietTimeout inst hits) (fun _ => rfl) fun s ⟨hwaits, hlate⟩ => quietTimeout_late hits hwaits hlate
  case slicer => exact fun l => steps_of (slicerFirst l) (fun _ => rfl) fun s hdue => if_neg hdue
  case due =>
    refine fun d i => steps_of (calStepDue d) (fun _ => rfl) ?_
    rintro s ⟨hbackground, hdomain, hfree, hperiod, hready⟩
    exact calStepDue_ready hbackground hdomain hfree hperiod hready

end Sys2Proof.Machine
end

section

namespace Sys2Proof.Machine

/-! ### Commands on the composition -/

/-- The first slot of a mask that has one. -/
theorem maskSlots_head {c : Cmd} {k : Nat} (hhead : (maskSlots c).head? = some k) : ∃ later, maskSlots c = k :: later := by
  cases hslots : maskSlots c with
  | nil => rw [hslots] at hhead; cases hhead
  | cons j later => rw [hslots] at hhead; cases hhead; exact ⟨later, rfl⟩

/-- LAYER_COMMIT of definitions that fit and within the budgets, past a latch point that is due (05_composition R196 to R198,
R200). -/
theorem bodyLayerCommit_eq {c : Cmd} {s : State} {k : Nat} {d : List Nat} (hhead : (maskSlots c).head? = some k)
    (hstaged : (layer s k).staged = some d) (hfits : commitBad (latchPointDue (dOutput d) s) (maskSlots c) (dOutput d) = none)
    (hbudget : overBudget (latchPointDue (dOutput d) s) (planNow { latchPointDue (dOutput d) s with
      send.layers := pendSlots (latchPointDue (dOutput d) s) (maskSlots c) }) = none) :
    bodyLayerCommit c s =
      (withRetire (fun t => if counted t.sys.st then commitPend t (maskSlots c) (dOutput d) c.tag
          else commitNow t (maskSlots c) (dOutput d) c.tag)
        (recordStills (latchPointDue (dOutput d) s) (maskSlots c)), rAccepted) := by
  obtain ⟨later, hslots⟩ := maskSlots_head hhead
  rw [hslots] at hfits hbudget ⊢
  unfold bodyLayerCommit
  rw [hslots]
  dsimp only
  rw [hstaged]
  dsimp only
  rw [hfits]
  dsimp only
  rw [hbudget]

/-- BUFFER_REGISTER of a buffer whose words are in range (05_composition R180, R181). -/
theorem bodyBufferRegister_eq {c : Cmd} {s : State}
    (hok : bufferBad s (bits (pw c 0) 0 10) { format := bits (pw c 0) 16 4, addr := pw c 1 + pw c 2 * 2 ^ 32
                                              width := pw c 3 % 65536, height := pw c 3 / 65536, pitch := pw c 4 } = none) :
    bodyBufferRegister c s =
      ({ s with
          send.bufs := tabSet none s.send.bufs (bits (pw c 0) 0 10)
            (some { format := bits (pw c 0) 16 4, addr := pw c 1 + pw c 2 * 2 ^ 32
                    width := pw c 3 % 65536, height := pw c 3 / 65536, pitch := pw c 4 }) }, rOk) := by
  unfold bodyBufferRegister
  dsimp only
  rw [hok]

/-- MAP_DEFINE of 1 to 30 rectangles on the canvas, none of them entry 0 or past entry 255 (05_composition R194, R195). -/
theorem bodyMapDefine_eq {c : Cmd} {s : State} (hmin : 1 ≤ bits (pw c 0) 8 8) (hmax : bits (pw c 0) 8 8 ≤ 30)
    (hfirst : 1 ≤ bits (pw c 0) 0 8) (hlast : bits (pw c 0) 0 8 + bits (pw c 0) 8 8 ≤ 256)
    (hlen : c.len = 1 + 2 * bits (pw c 0) 8 8)
    (hfit : ∀ k < bits (pw c 0) 8 8, mapRectOk (outp s (bits (pw c 0) 16 3)) (mapRect c k) = true) :
    bodyMapDefine c s =
      (setOutp s (bits (pw c 0) 16 3) { outp s (bits (pw c 0) 16 3) with
        map := (List.range (bits (pw c 0) 8 8)).foldl (fun t k => tabSet (0, 0, 0, 0) t (bits (pw c 0) 0 8 + k)
          (if (mapRect c k).2.2.1 = 0 then (0, 0, 0, 0) else mapRect c k)) (outp s (bits (pw c 0) 16 3)).map }, rOk) := by
  have hnone : ((List.range (bits (pw c 0) 8 8)).find? fun k => !mapRectOk (outp s (bits (pw c 0) 16 3)) (mapRect c k)) = none := by
    simpa [List.find?_eq_none] using hfit
  unfold bodyMapDefine
  dsimp only
  rw [if_neg (by omega), if_neg (not_not.2 hlen), hnone]

/-- OUTPUT_TIMING of a timing in range and within the budgets (06_scanout R205, R206). -/
theorem bodyOutputTiming_eq {c : Cmd} {s : State} {x : Output}
    (hx : x = { outp s (bits (pw c 0) 0 3) with
      enable := bit (pw c 0) 31, views := bits (pw c 0) 16 2 + 1, width := pw c 1 % 65536, height := pw c 1 / 65536
      num := pw c 2, den := pw c 3 % 65536, vb := pw c 4, phase := pw c 5, latency := pw c 6 })
    (hok : timingBad s (bits (pw c 0) 0 3) x = none)
    (hbudget : overBudget (setOutp s (bits (pw c 0) 0 3) x) (planNow (setOutp s (bits (pw c 0) 0 3) x)) = none) :
    bodyOutputTiming c s = (setOutp s (bits (pw c 0) 0 3) x, rOk) := by
  unfold bodyOutputTiming
  dsimp only
  rw [← hx, hok]
  dsimp only
  rw [hbudget]

/-- CRC_RECT_SET of a rectangle on the canvas of a view (06_scanout R218, R219). -/
theorem bodyCrcRectSet_eq {c : Cmd} {s : State} {r : CrcRect}
    (hr : r = { CrcRect.cold with
      enable := bit (pw c 0) 31, learn := bit (pw c 0) 30, view := bits (pw c 0) 20 2
      x := pw c 1 % 65536, y := pw c 1 / 65536, w := pw c 2 % 65536, h := pw c 2 / 65536
      expected := if bit (pw c 0) 30 then none else some (pw c 3), first := true })
    (hview : r.view < (outp s (bits (pw c 0) 16 3)).views) (hw : r.w ≠ 0) (hh : r.h ≠ 0)
    (hx : r.x + r.w ≤ (outp s (bits (pw c 0) 16 3)).width) (hy : r.y + r.h ≤ (outp s (bits (pw c 0) 16 3)).height) :
    bodyCrcRectSet c s =
      (let o := bits (pw c 0) 16 3
       let k := bits (pw c 0) 0 4
       let x := outp s o
       setOutp s o (if counted s.sys.st then { x with pendRects := tabSet CrcRect.cold x.pendRects k r }
         else { x with rects := tabSet CrcRect.cold x.rects k r, nextRects := tabErase x.nextRects k
                       pendRects := tabErase x.pendRects k }), rOk) := by
  subst hr
  unfold bodyCrcRectSet
  dsimp only at hview hw hh hx hy ⊢
  rw [if_neg (Nat.not_le.2 hview), if_neg (not_or.2 ⟨hw, hh⟩), if_neg (not_or.2 ⟨Nat.not_lt.2 hx, Nat.not_lt.2 hy⟩)]
  by_cases hcounted : counted s.sys.st = true
  · rw [if_pos hcounted, if_pos hcounted]
  · rw [if_neg hcounted, if_neg hcounted]

/-- CRC_RESULT_READ answers the three low bits of its word as the output (06_scanout R221). -/
theorem bodyCrcResultRead_eq (c : Cmd) (s : State) :
    bodyCrcResultRead c s =
      (s, let x := outp s (pw c 0 % 8)
        rWords (w32 (pw c 0 % 8) :: (List.range 16).flatMap fun k => rectWords (rectShown x k))) := by
  have houtput : bits (pw c 0) 0 3 = pw c 0 % 8 := by simp [bits]
  rw [bodyCrcResultRead, houtput]

/-- The end of a binding by cases of whether there is one (05_composition R171). -/
theorem unbindStream_eq (s : State) (k : Nat) :
    unbindStream s k = (stream s k).elim s fun x => igmp (setStream s k none) 3 x.bind := by
  unfold unbindStream
  cases stream s k with
  | none => rfl
  | some x => rfl

/-- STREAM_BIND within the budgets and the stream area, of a stream that no layer names (05_composition R171, R172). -/
theorem bodyStreamBind_binds {c : Cmd} {s : State} (hbind : bit (pw c 0) 8 = false) (hok : bindBad (bindOf c) = none)
    (hfree : (s.send.layers.any fun p =>
      namesStream p.2.pend (bits (pw c 0) 0 3) || namesStream p.2.active (bits (pw c 0) 0 3)) = false)
    (hbudget : overBudget s { planNow (unbindStream s (bits (pw c 0) 0 3)) with
      binds := bindOf c :: (planNow (unbindStream s (bits (pw c 0) 0 3))).binds } = none)
    (harea : ((ringsOf (unbindStream s (bits (pw c 0) 0 3))).map Prod.snd).sum + ringLen (bindOf c) ≤ areaLen s) :
    bodyStreamBind c s = (bindStream (unbindStream s (bits (pw c 0) 0 3)) (bits (pw c 0) 0 3) (bindOf c), rOk) := by
  unfold bodyStreamBind
  dsimp only
  rw [if_neg (ne_true_of_eq_false hbind), hok]
  dsimp only
  rw [if_neg (ne_true_of_eq_false hfree), if_neg (ne_true_of_eq_false hbind), hbudget]
  exact if_neg (Nat.not_lt.2 harea)

/-- STREAM_BIND with UNBIND of a stream that no layer names (05_composition R171). -/
theorem bodyStreamBind_unbinds {c : Cmd} {s : State} (hunbind : bit (pw c 0) 8 = true)
    (hfree : (s.send.layers.any fun p =>
      namesStream p.2.pend (bits (pw c 0) 0 3) || namesStream p.2.active (bits (pw c 0) 0 3)) = false) :
    bodyStreamBind c s = (unbindStream s (bits (pw c 0) 0 3), rOk) := by
  unfold bodyStreamBind
  dsimp only
  rw [if_pos hunbind]
  dsimp only
  rw [if_neg (ne_true_of_eq_false hfree), if_pos hunbind]

/-- Settles O5: what each command's own part answers, behind the checks that an accepted command passes. The frame that the
LAYER_COMMITTED event carries outside READY, RUN and HOLD is the model's choice (log 40). -/
theorem compositionCommandsComplete : Obligations.CompositionCommandsComplete := by
  refine ⟨?define, ?commit, ?register, ?release, ?map, ?timing, ?rect, ?result, ?bind, ?unbind⟩
  case define =>
    exact runs_of noBuild bodyLayerDefine (fun _ _ => rfl) (fun _ _ _ => rfl) fun _ _ hok => bodyLayerDefine_eq hok
  case commit =>
    refine fun k d => runs_of noBuild bodyLayerCommit (fun _ _ => rfl) (fun _ _ _ => rfl) ?_
    rintro c s ⟨hhead, hstaged, hfits, hbudget⟩
    exact bodyLayerCommit_eq hhead hstaged hfits hbudget
  case register =>
    exact runs_of noBuild bodyBufferRegister (fun _ _ => rfl) (fun _ _ _ => rfl) fun _ _ hok => bodyBufferRegister_eq hok
  case release =>
    refine runs_of noBuild bodyBufferRelease (fun _ _ => rfl) (fun _ _ _ => rfl) ?_
    rintro c s ⟨hthere, hfree⟩
    exact bodyBufferRelease_eq hthere hfree
  case map =>
    refine runs_of noBuild bodyMapDefine (fun _ _ => rfl) (fun _ _ _ => rfl) ?_
    rintro c s ⟨hmin, hmax, hfirst, hlast, hlen, hfit⟩
    exact bodyMapDefine_eq hmin hmax hfirst hlast hlen hfit
  case timing =>
    refine fun x => runs_of noBuild bodyOutputTiming (fun _ _ => rfl) (fun _ _ _ => rfl) ?_
    rintro c s ⟨hx, hok, hbudget⟩
    exact bodyOutputTiming_eq hx hok hbudget
  case rect =>
    refine fun r => runs_of noBuild bodyCrcRectSet (fun _ _ => rfl) (fun _ _ _ => rfl) ?_
    rintro c s ⟨hr, hview, hw, hh, hx, hy⟩
    exact bodyCrcRectSet_eq hr hview hw hh hx hy
  case result =>
    exact runs_of noBuild bodyCrcResultRead (fun _ _ => rfl) (fun _ _ _ => rfl) fun c s _ => bodyCrcResultRead_eq c s
  case bind =>
    refine runs_of noBuild bodyStreamBind (fun _ _ => rfl) (fun _ _ _ => rfl) ?_
    rintro c s ⟨hbind, hok, hfree, hbudget, harea⟩
    rw [bodyStreamBind_binds hbind hok hfree hbudget harea, unbindStream_eq]
    rfl
  case unbind =>
    refine runs_of noBuild bodyStreamBind (fun _ _ => rfl) (fun _ _ _ => rfl) ?_
    rintro c s ⟨hunbind, hfree⟩
    rw [bodyStreamBind_unbinds hunbind hfree, unbindStream_eq]

end Sys2Proof.Machine
end

section

namespace Sys2Proof.Machine

/-! ### Build commands -/

/-- HEAD_DEFINE without ENABLE takes the head away (10_jets_motion R363). -/
theorem bodyHeadDefine_removes {c : Cmd} {s : State} (hout : inLayer s (pw c 0 % 16) = false) (hlen : c.len = 20)
    (hremove : bit (pw c 0) 31 = false) :
    bodyHeadDefine c s = (setHead (unreference s (pw c 0 % 16)) (pw c 0 % 16) BHead.cold, rOk) := by
  unfold bodyHeadDefine
  dsimp only
  rw [if_neg (ne_true_of_eq_false hout), if_neg (not_not.2 hlen), if_pos hremove]

/-- HEAD_DEFINE of a definition without a fault, of a head outside the layer (10_jets_motion R363, R364). -/
theorem bodyHeadDefine_defines {c : Cmd} {s : State} (hout : inLayer s (pw c 0 % 16) = false) (hlen : c.len = 20)
    (hdefine : bit (pw c 0) 31 = true) (hok : headFault s (pw c 0 % 16) ((List.range 20).map (pw c)) = none) :
    bodyHeadDefine c s =
      (let h := pw c 0 % 16
       let w := (List.range 20).map (pw c)
       let x := bhead (unreference s h) h
       setHead (unreference s h) h { x with
         defn := w
         written := if x.defn.isEmpty || hw x 1 != w.getD 1 0 || hw x 2 != w.getD 2 0 || hw x 3 != w.getD 3 0 then [] else x.written
         downAt := if x.defn.isEmpty then s.time.loc else x.downAt }, rOk) := by
  unfold bodyHeadDefine
  dsimp only
  rw [if_neg (ne_true_of_eq_false hout), if_neg (not_not.2 hlen), if_neg (by simp [hdefine]), hok]

/-- FIELD_CORR_LOAD of nodes of the grid, of a defined head outside the layer (10_jets_motion R367). -/
theorem bodyFieldCorrLoad_eq {c : Cmd} {s : State} (hout : ¬inLayer s (pw c 0 % 16))
    (hlen : ¬c.len ≠ 1 + 3 * bits (pw c 0) 17 5)
    (hnodes : ¬(headDefined s (pw c 0 % 16) = false ∨ bits (pw c 0) 17 5 = 0 ∨ 20 < bits (pw c 0) 17 5 ∨
      4225 < bits (pw c 0) 4 13 + bits (pw c 0) 17 5)) :
    bodyFieldCorrLoad c s =
      ((List.range (bits (pw c 0) 17 5)).foldl (loadNode (pw c 0 % 16) (bits (pw c 0) 4 13) c) (unreference s (pw c 0 % 16)), rOk) := by
  unfold bodyFieldCorrLoad
  dsimp only
  rw [if_neg hout, if_neg hlen, if_neg hnodes]

/-- HEAD_REFERENCE of a defined head with a valid grid that is free to move (10_jets_motion R366). -/
theorem bodyHeadReference_eq {c : Cmd} {s : State}
    (hstill : ¬((s.bed.build.st = 4 ∨ s.bed.build.st = 5) ∧ bit s.bed.build.mask (pw c 0 % 16)))
    (hfence : ¬fenced s 6 (pw c 0 % 16))
    (hdefined : ¬(headDefined s (pw c 0 % 16) = false ∨ gridValid (bhead s (pw c 0 % 16)) = false))
    (hidle : ¬(bhead s (pw c 0 % 16)).ref.isSome) :
    bodyHeadReference c s = (startReference s (pw c 0 % 16) c.tag, rAccepted) := by
  unfold bodyHeadReference
  dsimp only
  rw [if_neg hstill, if_neg hfence, if_neg hdefined, if_neg hidle]

/-- BUILD_LOAD of a descriptor that passes its checks, with no layer under way (10_jets_motion R358, R359). -/
theorem bodyBuildLoad_eq {c : Cmd} {s : State}
    (hstate : ¬(s.bed.build.st ≠ 0 ∧ s.bed.build.st ≠ 1 ∧ s.bed.build.st ≠ 7 ∧ s.bed.build.st ≠ 8)) (hlen : ¬c.len ≠ 2)
    (hdesc : ¬((pw c 0 + pw c 1 * 2 ^ 32) % 256 ≠ 0 ∨ dramTop s < pw c 0 + pw c 1 * 2 ^ 32 + 528 ∨
      descOk s (pw c 0 + pw c 1 * 2 ^ 32) = false)) :
    bodyBuildLoad c s =
      (let a := pw c 0 + pw c 1 * 2 ^ 32
       raise { s with bed.build := loadDesc s a, pair.progress := [], pair.jetCrc := [], pair.desc := a } 0x0A01
         (args [(4, rdLe s a 4)]), rOk) := by
  unfold bodyBuildLoad
  dsimp only
  rw [if_neg hstate, if_neg hlen, if_neg hdesc]

/-- BUILD_ARM of a loaded layer (10_jets_motion R361, R404). -/
theorem bodyBuildArm_eq {c : Cmd} {s : State} (hloaded : ¬s.bed.build.st ≠ 1) (hlen : ¬c.len ≠ 0) :
    bodyBuildArm c s =
      (let s1 := applyArmKeys { s with bed.build.st := 2, bed.build.armTag := c.tag + 1, bed.build.armAt := buildNow s }
       let s2 := (List.range 16).foldl (fun t h => setHead t h { bhead t h with power := Weir.cold }) s1
       let s3 := (List.range 12).foldl (fun t n => etaRestart s (setString t n { stringRef t n with a := stringAge t n }) n) s2
       (layerStrings s3).foldl (fun t n => setStage t n { stage t n with mode := 1, softAt := t.time.loc }) s3, rAccepted) := by
  unfold bodyBuildArm
  dsimp only
  rw [if_neg hloaded, if_neg hlen]

/-- BUILD_START of an armed or paused layer at a tick that is far enough ahead (10_jets_motion R362, R390, R392). -/
theorem bodyBuildStart_eq {c : Cmd} {s : State} (hready : s.bed.build.st = 3 ∨ s.bed.build.st = 6) (hlen : c.len = 3)
    (hok : startFault s (bit (pw c 0) 2) = none)
    (hahead : ¬(bit (pw c 0) 0 ∧ buildAt s (unshort (sysTicks s) (pw c 1 + pw c 2 % 65536 * 2 ^ 32)) < buildNow s + keyU s 0x0A00 0 4)) :
    bodyBuildStart c s =
      (let relax := bit (pw c 0) 2
       let skip := bit (pw c 0) 1
       let lead := buildNow s + keyU s 0x0A00 0 4
       let given := buildAt s (unshort (sysTicks s) (pw c 1 + pw c 2 % 65536 * 2 ^ 32))
       let longest := (layerHeads s).foldl (fun m h =>
         max m (returnTicks (bhead s h) (returnTo s.bed.build.st (bhead s h) (resumeAt skip (blist s h))))) 0
       let start := frameAtOrAfter s (max (if bit (pw c 0) 0 then given else lead) (buildNow s + longest))
       let s1 := (layerHeads s).foldl (readyHead start relax skip) s
       capOriginAt { s1 with bed.build.startAt := some start, bed.build.startTag := c.tag + 1 } 2, rAccepted) := by
  unfold bodyBuildStart
  dsimp only
  rw [if_neg (by omega), if_neg (not_not.2 hlen), hok]
  dsimp only
  rw [if_neg hahead]

/-- BUILD_PAUSE of a running layer (10_jets_motion R388). -/
theorem bodyBuildPause_running {c : Cmd} {s : State} (hrunning : s.bed.build.st = 4) (hlen : c.len = 0) :
    bodyBuildPause c s = (pauseBuild { s with bed.build.pauseTag := c.tag + 1 } 1, rAccepted) := by
  unfold bodyBuildPause
  dsimp only
  rw [if_neg (by omega), if_neg (not_not.2 hlen), if_pos hrunning]

/-- BUILD_PAUSE of a layer that pauses or has paused changes nothing (10_jets_motion R388). -/
theorem bodyBuildPause_paused {c : Cmd} {s : State} (hpaused : s.bed.build.st = 5 ∨ s.bed.build.st = 6) (hlen : c.len = 0) :
    bodyBuildPause c s = (s, rOk) := by
  unfold bodyBuildPause
  dsimp only
  rw [if_neg (by omega), if_neg (not_not.2 hlen), if_neg (by omega)]

/-- A running layer pauses (10_jets_motion R388). -/
theorem pauseBuild_running {s : State} (hrunning : s.bed.build.st = 4) (cause : Nat) :
    pauseBuild s cause =
      (layerHeads s).foldl (fun t h =>
        let b := blist t h
        if b.span.isNone && !b.commit && b.bad.isNone then
          setList t h { b with stopped := true, starving := false, runNext := none, planned := none, throttled := false, hold := 0, flags := 0 }
        else t) { s with bed.build.st := 5, bed.build.cause := cause, bed.build.stopAt := buildNow s } :=
  if_neg (not_not.2 hrunning)

/-- Settles O7: what each command's own part answers, behind the checks that an accepted command passes. What BUILD_ABORT of a
layer not yet ARMING leaves and how a reference move is formed are the model's choice (log 29). -/
theorem buildCommandsComplete : Obligations.BuildCommandsComplete := by
  refine ⟨?removes, ?defines, ?field, ?reference, ?guard, ?load, ?arm, ?start, ?pause, ?paused, ?abort⟩
  case removes =>
    refine runs_of noBuild bodyHeadDefine (fun _ _ => rfl) (fun _ _ _ => rfl) ?_
    rintro c s ⟨hout, hlen, hremove⟩
    exact bodyHeadDefine_removes hout hlen hremove
  case defines =>
    refine runs_of noBuild bodyHeadDefine (fun _ _ => rfl) (fun _ _ _ => rfl) ?_
    rintro c s ⟨hout, hlen, hdefine, hok⟩
    exact bodyHeadDefine_defines hout hlen hdefine hok
  case field =>
    refine runs_of noBuild bodyFieldCorrLoad (fun _ _ => rfl) (fun _ _ _ => rfl) ?_
    rintro c s ⟨hout, hlen, hnodes⟩
    exact bodyFieldCorrLoad_eq hout hlen hnodes
  case reference =>
    refine runs_of noBuild bodyHeadReference (fun _ _ => rfl) (fun _ _ _ => rfl) ?_
    rintro c s ⟨hstill, hfence, hdefined, hidle⟩
    exact bodyHeadReference_eq hstill hfence hdefined hidle
  case guard =>
    refine runs_of noBuild bodyPlumeGuardSet (fun _ _ => rfl) (fun _ _ _ => rfl) ?_
    rintro c s ⟨hstill, hw1, hw3, hw4⟩
    exact bodyPlumeGuardSet_eq hstill hw1 hw3 hw4
  case load =>
    refine runs_of buildSt bodyBuildLoad (fun _ _ => rfl) (fun _ _ _ => rfl) ?_
    rintro c s ⟨hstate, hlen, hdesc⟩
    exact bodyBuildLoad_eq hstate hlen hdesc
  case arm =>
    refine runs_of buildSt bodyBuildArm (fun _ _ => rfl) (fun _ _ _ => rfl) ?_
    rintro c s ⟨hloaded, hlen⟩
    exact bodyBuildArm_eq hloaded hlen
  case start =>
    refine runs_of buildSt bodyBuildStart (fun _ _ => rfl) (fun _ _ _ => rfl) ?_
    rintro c s ⟨hready, hlen, hok, hahead⟩
    exact bodyBuildStart_eq hready hlen hok hahead
  case pause =>
    refine runs_of buildSt bodyBuildPause (fun _ _ => rfl) (fun _ _ _ => rfl) ?_
    rintro c s ⟨hrunning, hlen⟩
    rw [bodyBuildPause_running hrunning hlen]
    exact congrArg (·, rAccepted) (pauseBuild_running (s := { s with bed.build.pauseTag := c.tag + 1 }) hrunning 1)
  case paused =>
    refine runs_of buildSt bodyBuildPause (fun _ _ => rfl) (fun _ _ _ => rfl) ?_
    rintro c s ⟨hpaused, hlen⟩
    exact bodyBuildPause_paused hpaused hlen
  case abort => exact runs_of buildSt bodyBuildAbort (fun _ _ => rfl) (fun _ _ _ => rfl) fun _ _ _ => rfl

end Sys2Proof.Machine
end

section

namespace Sys2Proof.Machine

/-! ### Host registers, queues and paths -/

/-- Settles O16: each event's own part past the conditions under which it does nothing. That a write of CR_TAIL or EQ_HEAD
fetches or writes nothing itself is the model's choice (log 16). -/
theorem hostRegistersComplete : Obligations.HostRegistersComplete := by
  refine ⟨?doorbell, ?response, ?tail, ?fetch, ?ringResponse, ?crCtrl, ?eqCtrl, ?head, ?record, ?coalesce, ?dma, ?eqStatus, ?irq,
    ?mbxStatus, ?latch⟩
  case doorbell => exact fun n => steps_of (mbxDoorbell n) (fun _ => rfl) fun s hmailbox => if_neg hmailbox
  case response =>
    refine fun r => steps_of commandResponse (fun _ => rfl) ?_
    intro s hwaits
    unfold commandResponse
    rw [hwaits]
  case tail => exact fun v => steps_of (crTailWrite v) (fun _ => rfl) fun s hrole => if_pos hrole
  case fetch => exact fun e => steps_of (ringEntryFetch e) (fun _ => rfl) fun s hfetch => if_neg hfetch
  case ringResponse =>
    refine fun r => steps_of ringResponseWrite (fun _ => rfl) ?_
    rintro s ⟨hwaits, hrunning⟩
    unfold ringResponseWrite
    rw [hwaits]
    exact if_neg hrunning
  case crCtrl => exact fun v => steps_of (crCtrlWrite v) (fun _ => rfl) fun s hrole => if_pos hrole
  case eqCtrl => exact fun v => steps_of (eqCtrlWrite v) (fun _ => rfl) fun s hrole => if_pos hrole
  case head => exact fun v => steps_of (eqHeadWrite v) (fun _ => rfl) fun s hrole => if_pos hrole
  case record =>
    refine fun r rest => steps_of eventRecordWrite (fun _ => rfl) ?_
    rintro s ⟨hheld, hroom⟩
    unfold eventRecordWrite
    rw [hheld]
    exact if_neg hroom
  case coalesce =>
    refine fun t => steps_of eventCoalesceExpiry (fun _ => rfl) ?_
    rintro s ⟨huntil, hexpired⟩
    unfold eventCoalesceExpiry
    rw [huntil]
    exact if_neg hexpired
  case dma => exact fun queue => steps_of (ringDmaError queue) (fun _ => rfl) fun _ _ => rfl
  case eqStatus => exact steps_of eqStatusRead (fun _ => rfl) fun _ _ => rfl
  case irq => exact fun v => steps_of (irqStatusWrite v) (fun _ => rfl) fun _ _ => rfl
  case mbxStatus => exact fun n v => steps_of (mbxStatusWrite n v) (fun _ => rfl) fun s hmailbox => if_neg hmailbox
  case latch => exact steps_of timeLatch (fun _ => rfl) fun _ _ => rfl

/-- Settles O17: each event's own part past the conditions under which it does nothing. -/
theorem hostPathsComplete : Obligations.HostPathsComplete := by
  refine ⟨?register, ?write, ?read, ?spi, ?datagram, ?arp, ?eventDatagram, ?loss, ?hotReset, ?linkUp⟩
  case register => exact fun off width v => steps_of (registerWrite off width v) (fun _ => rfl) fun s hlive => if_neg hlive
  case write => exact fun off data => steps_of (bar2Write off data) (fun _ => rfl) fun s hreaches => if_neg hreaches
  case read => exact fun off n => steps_of (bar2Read off n) (fun _ => rfl) fun s hreaches => if_neg hreaches
  case spi =>
    refine fun l => steps_of (spiTransaction l) (fun _ => rfl) ?_
    rintro s ⟨htile, haligned⟩
    unfold spiTransaction
    rw [if_neg htile]
    exact if_neg haligned
  case datagram =>
    exact fun origin version kind seq words =>
      steps_of (serviceDatagram origin version kind seq words) (fun _ => rfl) fun s hcommand => if_neg hcommand
  case arp => exact fun ip asker => steps_of (serviceArp ip asker) (fun _ => rfl) fun s hasked => if_neg hasked
  case eventDatagram => exact steps_of serviceEventDatagram (fun _ => rfl) fun s hdue => if_neg hdue
  case loss => exact steps_of pcieLinkLoss (fun _ => rfl) fun s hrole => if_neg hrole
  case hotReset => exact steps_of pcieHotReset (fun _ => rfl) fun _ _ => rfl
  case linkUp => exact steps_of pcieLinkUp (fun _ => rfl) fun s hrole => if_neg hrole

/-! ### Faults that hardware reports -/

/-- The loss of a framed die-to-die link out of RESET takes the emitter die's outputs and fires DIE_LINK (01_architecture R22,
R23). -/
theorem dieLinkLoss_running {s : State} (hruns : s.sys.st ≠ .reset) (hframed : s.sys.dieFramed = true) :
    dieLinkLoss s = fire (emitterDark { s with sys.dieFramed := false, sys.emitEnabled := false }) 45 0 0 := by
  unfold dieLinkLoss
  rw [if_neg (by simp [hframed])]
  exact if_neg hruns

/-- In RESET the lost link alone remains (01_architecture R23). -/
theorem dieLinkLoss_reset {s : State} (hreset : s.sys.st = .reset) (hframed : s.sys.dieFramed = true) :
    dieLinkLoss s = { s with sys.dieFramed := false, sys.emitEnabled := false } := by
  unfold dieLinkLoss
  rw [if_neg (by simp [hframed])]
  exact if_pos hreset

/-- Settles O20: each event's own part past the conditions under which it does nothing. That a framed link leaves emission
disabled until the next entry to READY (log 3) and the codes of TAP instructions (log 37) are the model's choice. -/
theorem faultEventsComplete : Obligations.FaultEventsComplete := by
  refine ⟨?firing, ?window, ?loss, ?lossInReset, ?sram, ?stage, ?tap, ?root, ?derived, ?supply, ?supervisor, ?dram, ?framed⟩
  case firing =>
    exact fun src inst detail line => steps_of (spillwayFiring src inst detail line) (fun _ => rfl) fun s hsource => if_neg hsource
  case window =>
    refine fun j => steps_of injectionWindowClose (fun _ => rfl) ?_
    rintro s ⟨hopen, hended⟩
    unfold injectionWindowClose
    rw [hopen]
    exact if_neg hended
  case loss =>
    intro s hacts hframed
    exact (liveAny_acts hacts dieLinkLoss).trans (by rw [dieLinkLoss_running hacts.2 hframed])
  case lossInReset =>
    intro s hrole hreset hframed
    exact (if_neg hrole).trans (by rw [dieLinkLoss_reset hreset hframed])
  case sram =>
    exact fun uncorr table i kind inst word =>
      steps_of (sramEcc uncorr table i kind inst word) (fun _ => rfl) fun s hlive => if_neg hlive
  case stage => exact fun n cause => steps_of (switchStageFault n cause) (fun _ => rfl) fun s hruns => if_neg hruns
  case tap => exact fun ir valid => steps_ofAny (tapInstruction ir valid) (fun _ => rfl) fun _ _ => rfl
  case root => exact fun refclk => steps_of _ (fun _ => rfl) fun s hlive => if_neg hlive
  case derived => exact fun clock => steps_of _ (fun _ => rfl) fun s hlive => if_neg hlive
  case supply => exact fun supply => steps_ofAny (supplyOut supply) (fun _ => rfl) fun s houtside => if_neg houtside
  case supervisor => exact fun watchdog => steps_of _ (fun _ => rfl) fun s hlive => if_neg hlive
  case dram => exact fun kind inst addr => steps_of _ (fun _ => rfl) fun s hlive => if_neg hlive
  case framed => exact steps_ofAny _ (fun _ => rfl) fun _ _ => rfl

end Sys2Proof.Machine
end

section

namespace Sys2Proof.Machine

/-! ### Steering and distribution of SYSTEM time -/

/-- DELAY_RESPONSE_CELL for the probe that waits (09_time R331 to R333). -/
theorem delayResponse_paired {s : State} {port probe d1 deadline : Nat} (t1 t2 t3 arrival : Nat)
    (hsent : (delayOf s port).sent = some (d1, deadline)) (hprobe : ¬probe ≠ (delayOf s port).probe) :
    delayResponse port probe t1 t2 t3 arrival s =
      (let x := delayOf s port
       if deadline < s.time.loc ∨ t1 ≠ stamp56 d1 then delayFail s port
       else
         let l := portLane s port
         let t4 := stamp56 (arrive s l arrival)
         let s1 := tsDrop (setDelay s port { x with sent := none, past := (d1, t2) :: keepRefs d1 x.past }) l probe 0
         let s2 := capRec s1 0x09 l 0 (leBytes 4 1 ++ leBytes 8 t1 ++ leBytes 8 t2 ++ leBytes 8 t3 ++ leBytes 8 t4)
         match x.past.find? fun r => decide (r.1 + secTicks * 256 ≤ d1) with
         | none => s2
         | some r => if diff56 t1 (stamp56 r.1) = 0 ∨ diff56 t2 r.2 = 0 then bump s2 3 l 3
             else acceptRaw s2 port (rawDelay t1 t2 t3 t4 (stamp56 r.1) r.2)) := by
  unfold delayResponse
  dsimp only
  rw [hsent]
  exact if_neg hprobe

/-- DELAY_ANSWER_TIMEOUT of an exchange past its deadline (09_time R331). -/
theorem delayTimeout_late {s : State} {port t1 deadline : Nat} (hsent : (delayOf s port).sent = some (t1, deadline))
    (hlate : deadline ≤ s.time.loc) : delayTimeout port s = delayFail s port := by
  unfold delayTimeout
  rw [hsent]
  exact if_pos hlate

/-- HOP_DELAY of a TILE with a report that is new, 100 ms or more after the last one (09_time R334). -/
theorem hopDelay_news {s : State} (htile : s.sys.role = .tile)
    (hnews : (match s.time.hopLast with
      | none => bothKnown s && (portLocked s 0 || portLocked s 1)
      | some l => movedBy (keyU s 0x0309 0 1) (hopReport s) l) = true)
    (hdue : ¬(s.time.hopLast.isSome ∧ s.time.loc < s.time.hopAt + 100 * msTicks)) :
    hopDelay s =
      (let r := hopReport s
       raiseQuiet { s with time.hopLast := some r, time.hopAt := s.time.loc } 0x0306
         (args [(3, uns 24 (r.getD 0 0)), (3, uns 24 (r.getD 1 0)), (1, uns 8 (r.getD 2 0)), (1, uns 8 (r.getD 3 0))])) :=
  if_neg (not_or.2 ⟨not_not.2 htile, not_or.2 ⟨ne_false_of_eq_true hnews, hdue⟩⟩)

/-- Settles O22: each event's own part past the conditions under which it does nothing. -/
theorem timeEventsComplete : Obligations.TimeEventsComplete := by
  refine ⟨?ptp, ?announce, ?delayReq, ?syncCell, ?request, ?response, ?period, ?answer, ?path, ?syncSend, ?sample, ?holdover, ?limit,
    ?process, ?step, ?free, ?hop⟩
  case ptp =>
    exact fun port kind credit twoStep domain clock rank seq stamp time corr =>
      steps_of (ptpMessage port kind credit twoStep domain clock rank seq stamp time corr) (fun _ => rfl) fun s hport => if_neg hport
  case announce => exact fun port => steps_of (ptpAnnounceTimeout port) (fun _ => rfl) fun s hport => if_neg hport
  case delayReq => exact fun port stamp => steps_of (ptpDelayReq port stamp) (fun _ => rfl) fun s hport => if_neg hport
  case syncCell =>
    exact fun port at_ root flags stamp =>
      steps_of (syncTimeCell port at_ root flags stamp) (fun _ => rfl) fun s hlive => if_neg hlive
  case request =>
    exact fun port probe t1 src bitB arrival departure =>
      steps_of (delayRequest port probe t1 src bitB arrival departure) (fun _ => rfl) fun s hport => if_neg hport
  case response =>
    exact fun port probe t1 t2 t3 arrival d1 deadline =>
      steps_of (delayResponse port probe t1 t2 t3 arrival) (fun _ => rfl)
        fun s ⟨hsent, hprobe⟩ => delayResponse_paired t1 t2 t3 arrival hsent hprobe
  case period => exact fun port stamp => steps_of (delayPeriod port stamp) (fun _ => rfl) fun s hdue => if_neg hdue
  case answer =>
    exact fun port deadline t1 => steps_of (delayTimeout port) (fun _ => rfl) fun s ⟨hsent, hlate⟩ => delayTimeout_late hsent hlate
  case path => exact steps_of pathTableUpdate (fun _ => rfl) fun s hruns => if_neg hruns
  case syncSend => exact fun port stamp => steps_of (syncTimeSend port stamp) (fun _ => rfl) fun s hdue => if_neg hdue
  case sample => exact steps_of timeSamplePort (fun _ => rfl) fun s hdue => if_neg hdue
  case holdover => exact steps_of holdoverEntry (fun _ => rfl) fun s hdue => if_neg hdue
  case limit => exact steps_of holdoverLimit (fun _ => rfl) fun s hdue => if_neg hdue
  case process => exact steps_of processTimeLimit (fun _ => rfl) fun s hfull => if_pos hfull
  case step => exact steps_of tileStepApply (fun _ => rfl) fun s hstep => if_neg hstep
  case free => exact steps_of freeLock (fun _ => rfl) fun s hdue => if_pos hdue
  case hop => exact steps_of hopDelay (fun _ => rfl) fun s ⟨htile, hnews, hdue⟩ => hopDelay_news htile hnews hdue

end Sys2Proof.Machine
end

section

namespace Sys2Proof.Machine

/-! ### Training, locking and watching the lanes -/

/-- LANE_LOCK of a lane of the Wotor link, aligned and with 1024 codewords decoded (07_cascade_link R233). -/
theorem laneLock_decoded {s : State} {l p : Nat}
    (hdecoded : ¬((lane s l).found = false ∨ (lane s l).cleanRun < 1024 ∨ ((lane s l).st ≠ 3 ∧ (lane s l).st ≠ 4)))
    (huse : laneUse s l = .wotor p) : laneLock l s = portLocks (gainLock s l) p := by
  unfold laneLock
  dsimp only
  rw [if_neg hdecoded, huse]

/-- DRIFT_CHECK of a locked lane with a snapshot, 1 ms or more after the last one (08_lanes R293). -/
theorem driftCheck_due {s : State} {l : Nat} {p : Snapshot} (hsnap : (lane s l).snap = some p)
    (hdue : ¬((lane s l).st ≠ 5 ∨ s.time.loc < (lane s l).driftAt + msTicks)) :
    driftCheck l s =
      if keyU s 0x0112 0 1 < driftDistance (lane s l) p ∧ (lane s l).snr < p.snr + keyU s 0x0113 0 1 then revertLane s l (lane s l) p
      else setLane s l { lane s l with driftAt := s.time.loc } := by
  unfold driftCheck
  dsimp only
  rw [hsnap]
  exact if_neg hdue

/-- Settles O24: each event's own part past the conditions under which it does nothing. -/
theorem laneEventsComplete : Obligations.LaneEventsComplete := by
  refine ⟨?los, ?signal, ?trained, ?timeout, ?dwell, ?attempt, ?hit, ?hunt, ?lock, ?loss, ?density, ?adapt, ?snapshot, ?drift, ?fault,
    ?scan, ?hourly⟩
  case los => exact fun l => steps_of (laneLos l) (fun _ => rfl) fun s hlane => if_neg hlane
  case signal => exact fun l => steps_of (laneSignal l) (fun _ => rfl) fun s hlane => if_neg hlane
  case trained =>
    exact fun l eye ctle vga dfe txffe snr tap1Over preAsked markAsked =>
      steps_of (trainingDone l eye ctle vga dfe txffe snr tap1Over preAsked markAsked) (fun _ => rfl) fun s htrains => if_neg htrains
  case timeout => exact fun l cause => steps_of (trainingTimeout l cause) (fun _ => rfl) fun s hlate => if_neg hlate
  case dwell => exact steps_of rateSearch (fun _ => rfl) fun s hdue => if_neg hdue
  case attempt =>
    exact fun l at_ results => steps_of (alignmentAttempt l at_ results) (fun _ => rfl) fun s hsearches => if_neg hsearches
  case hit => exact fun l hit => steps_of (markerHit l hit) (fun _ => rfl) fun s hhunts => if_neg hhunts
  case hunt => exact fun l => steps_of (markerTimeout l) (fun _ => rfl) fun s hlate => if_neg hlate
  case lock =>
    exact fun l p => steps_of (laneLock l) (fun _ => rfl) fun s ⟨hdecoded, huse⟩ => laneLock_decoded hdecoded huse
  case loss => exact fun l => steps_of (laneLockLoss l) (fun _ => rfl) fun s hlost => if_neg hlost
  case density => exact fun l window => steps_of (densityWindow l window) (fun _ => rfl) fun s hon => if_neg hon
  case adapt =>
    exact fun l dCtle dVga dDfe snr => steps_of (adaptationStep l dCtle dVga dDfe snr) (fun _ => rfl) fun s hon => if_neg hon
  case snapshot => exact fun l => steps_of (snapshotExpiry l) (fun _ => rfl) fun _ _ => rfl
  case drift =>
    exact fun l p => steps_of (driftCheck l) (fun _ => rfl) fun s ⟨hsnap, hdue⟩ => driftCheck_due hsnap hdue
  case fault => exact fun l cause => steps_of (laneFault l cause) (fun _ => rfl) fun _ _ => rfl
  case scan => exact fun l codes => steps_of (eyeScanDone l codes) (fun _ => rfl) fun s hruns => if_neg hruns
  case hourly => exact fun l eye => steps_of (hourlyEyeScan l eye) (fun _ => rfl) fun s hdue => if_neg hdue

end Sys2Proof.Machine
end

section

namespace Sys2Proof.Machine

/-! ### Enumeration, management cells, mark cells, bundles and rings -/

/-- The oldest message that waits is taken by its kind and the role (07_cascade_link R261 to R265). -/
theorem mgmtMessage_waiting {s : State} {r : Reasm} {rest : List Reasm} (hdone : s.link.done = r :: rest) :
    mgmtMessage s =
      (let s1 := { s with link.done := rest }
       match r.kind, s.sys.role with
       | 1, .sender => mgmtResponse s1 r
       | 2, .sender => mgmtEvent s1 r
       | 3, .tile => drainUp 64 { s1 with evs.upCredits := s1.evs.upCredits + (r.data.getD 0 0).toNat }
       | _, _ => s1) := by
  unfold mgmtMessage
  rw [hdone] <;> rfl

/-- RING_RESTORED 2 s after every TILE has been fed by port A again (07_cascade_link R270). -/
theorem ringRestored_due {s : State} {port t : Nat} (hfed : (wport s port).allFedAt = some t)
    (hdue : ¬((wport s port).returnFeed = false ∨ s.time.loc < t + 2 * secTicks)) :
    ringRestored port s =
      raise (setWport s port { wport s port with returnFeed := false, takeoverPending := false, lostSeen := false, allFedAt := none })
        0x0209 (args [(4, returnOf s port)]) := by
  unfold ringRestored
  dsimp only
  rw [hfed]
  exact if_neg hdue

/-- Settles O26: each event's own part past the conditions under which it does nothing. -/
theorem senderLinkEventsComplete : Obligations.SenderLinkEventsComplete := by
  refine ⟨?reply, ?cell, ?message, ?report, ?endTimeout, ?mark, ?bundle, ?ringOpens, ?restored, ?timeout⟩
  case reply =>
    exact fun port frame dev flags lates =>
      steps_of (replyCell port frame dev flags lates) (fun _ => rfl) fun s hport => if_neg hport
  case cell =>
    exact fun port kind frag last bc dest src tag data =>
      steps_of (mgmtCellIn port kind frag last bc dest src tag data) (fun _ => rfl) fun _ _ => rfl
  case message => exact fun r rest => steps_of mgmtMessage (fun _ => rfl) fun s hdone => mgmtMessage_waiting hdone
  case report =>
    exact fun port pos dev uid major minor flags straps epoch =>
      steps_of (enumReport port pos dev uid major minor flags straps epoch) (fun _ => rfl) fun s hport => if_neg hport
  case endTimeout => exact fun n => steps_of (enumEndTimeout n) (fun _ => rfl) fun s hlate => if_neg hlate
  case mark => exact fun port seq width => steps_of (markCellIn port seq width) (fun _ => rfl) fun s hport => if_neg hport
  case bundle => exact fun first => steps_of (bundleChange first) (fun _ => rfl) fun s hfirst => if_neg hfirst
  case ringOpens => exact fun port => steps_of (ringOpen port) (fun _ => rfl) fun s hport => if_neg hport
  case restored =>
    exact fun port t => steps_of (ringRestored port) (fun _ => rfl) fun s ⟨hfed, hdue⟩ => ringRestored_due hfed hdue
  case timeout => exact steps_of mgmtTimeoutDue (fun _ => rfl) fun _ _ => rfl

/-! ### Cells that a TILE receives and its upstream -/

/-- A codeword of an existing port that is locked with it (07_cascade_link R233, R240). -/
theorem wotorCodeword_locked {s : State} {port fec : Nat} (cells : List (List Byte)) (hport : portExists s port = true)
    (hlocked : portLocked (laneCodeword s (portLane s port) fec) port = true) :
    wotorCodeword port fec cells s =
      (let s0 := laneCodeword s (portLane s port) fec
       let bad := decide (fec = 2)
       let s1 := if bad then s0 else cells.foldl (seeCell port) s0
       if s0.sys.role ≠ .tile then s1 else
       let s2 := if bad || hasLost cells then abandonRx s1 port else s1
       if portLocked s2 (1 - port) = false then s2 else
       forwardCells s2 (1 - port) (if bad then List.replicate 20 (some (idleCell true)) else cells.map (keepCell s2 port))) := by
  unfold wotorCodeword
  dsimp only
  rw [if_neg (ne_false_of_eq_true hport), if_neg (ne_false_of_eq_true hlocked)]

/-- A data cell of the fed port after the last of its frame abandons it (07_cascade_link R237 to R240). -/
theorem dataCell_beyond {s : State} {port : Nat} (payload : Nat)
    (hfed : ¬(s.sys.role ≠ .tile ∨ port ≠ s.link.tile.activeUp ∨ portLocked s port = false)) (hdone : s.link.tile.rxDone = true) :
    dataCell port payload s = bump { s with link.tile.rxDone := false, tl.rx.active := false } 2 port 6 := by
  unfold dataCell
  dsimp only
  rw [if_neg hfed]
  exact if_pos hdone

/-- A data cell of the frame that the fed port receives (07_cascade_link R237 to R240). -/
theorem dataCell_received {s : State} {port : Nat} (payload : Nat)
    (hfed : ¬(s.sys.role ≠ .tile ∨ port ≠ s.link.tile.activeUp ∨ portLocked s port = false)) (hdone : s.link.tile.rxDone = false)
    (hon : s.link.tile.rxOn = true) :
    dataCell port payload s =
      (let t := s.link.tile
       let q := tripletsOf t.wc t.views
       let n := t.rxCells
       let more := decide (n + 1 < frameCells s)
       let s1 := { s with link.tile.rxCells := n + 1, link.tile.rxOn := more, link.tile.rxDone := !more }
       if s1.tl.rx.active = false then (if t.rxStale then bump { s1 with link.tile.rxStale := false } 4 0 6 else s1)
       else
         let l := s1.tl.rx.triplet ++ [payload % 2 ^ 256]
         if l.length < 3 then { s1 with tl.rx.triplet := l } else
         let line := n / (3 * q)
         let first := n % (3 * q) / 3 * 16
         let s2 := { s1 with tl.rx.triplet := [] }
         let ps := tripletPixels l
         (List.range 16).foldl (fun u p =>
           if first + p < t.wc * t.views then takePixel line u (first + p) (ps.getD p 0) else u) s2) := by
  unfold dataCell
  dsimp only
  rw [if_neg hfed, if_neg (ne_true_of_eq_false hdone)]
  exact if_neg (ne_false_of_eq_true hon)

/-- A TILE CRC cell that names the TILE's position, for the frame received and with no CRC of it yet (07_cascade_link R243 to R245). -/
theorem tileCrcCell_names {s : State} {port num : Nat} {crcs : List (Nat × Nat)} {p : Nat × Nat}
    (hfed : ¬(s.sys.role ≠ .tile ∨ port ≠ s.link.tile.activeUp ∨ timelineOn s = false))
    (hnames : (crcs.find? fun p => p.1 == s.link.tile.position) = some p)
    (hfirst : ¬(s.tl.rx.frame ≠ num % 65536 ∨ s.tl.rx.crc.isSome)) :
    tileCrcCell port num crcs s =
      (let s1 := capCell s port (loc256 s) (syncCell 3 num (b8 crcs.length :: crcs.flatMap fun x => b8 x.1 :: leBytes 4 x.2))
       { s1 with tl.rx.crc := some (num % 65536, p.2 % 2 ^ 32) }) := by
  unfold tileCrcCell
  rw [if_neg hfed, hnames]
  exact if_neg hfirst

/-- The port that the rules choose becomes the upstream one at its FRAME START (07_cascade_link R266). -/
theorem upstreamSwitched_chosen {s : State} {port : Nat}
    (hchosen : s.sys.role = .tile ∧ port < 2 ∧ port ≠ s.link.tile.activeUp ∧ chooseUp s = port ∧
      (wport s port).lastStart = some s.time.loc) : upstreamSwitched port s = switchUp s port := by
  obtain ⟨htile, hport, hother, hchoice, hstart⟩ := hchosen
  exact if_neg (not_or.2 ⟨not_not.2 htile, not_or.2 ⟨Nat.not_le.2 hport,
    not_or.2 ⟨hother, not_or.2 ⟨not_not.2 hchoice, not_not.2 hstart⟩⟩⟩⟩)

/-- Settles O27: each event's own part past the conditions under which it does nothing. The 20 ms wait (log 20), the stale
count taken once (log 52) and the reply of log 70 are the model's choice. -/
theorem tileLinkEventsComplete : Obligations.TileLinkEventsComplete := by
  refine ⟨?codeword, ?data, ?beyond, ?frameStart, ?crc, ?decision, ?token, ?geometry, ?hop, ?portB, ?lost, ?switched, ?limit, ?heart⟩
  case codeword =>
    exact fun port fec cells => steps_of (wotorCodeword port fec cells) (fun _ => rfl)
      fun s ⟨hport, hlocked⟩ => wotorCodeword_locked cells hport hlocked
  case data =>
    exact fun port payload => steps_of (dataCell port payload) (fun _ => rfl)
      fun s ⟨hfed, hdone, hon⟩ => dataCell_received payload hfed hdone hon
  case beyond =>
    exact fun port payload => steps_of (dataCell port payload) (fun _ => rfl) fun s ⟨hfed, hdone⟩ => dataCell_beyond payload hfed hdone
  case frameStart =>
    exact fun port num w h vm1 => steps_of (frameStartCell port num w h vm1) (fun _ => rfl) fun s hport => if_neg hport
  case crc =>
    exact fun port num crcs p => steps_of (tileCrcCell port num crcs) (fun _ => rfl)
      fun s ⟨hfed, hnames, hfirst⟩ => tileCrcCell_names hfed hnames hfirst
  case decision => exact fun port num rep => steps_of (decisionCell port num rep) (fun _ => rfl) fun s hfed => if_neg hfed
  case token =>
    exact fun port pos sender cascade full epoch =>
      steps_of (enumToken port pos sender cascade full epoch) (fun _ => rfl) fun s hport => if_neg hport
  case geometry =>
    exact fun port dest x y rw rh wc hc vm1 epoch =>
      steps_of (enumGeometry port dest x y rw rh wc hc vm1 epoch) (fun _ => rfl) fun s hport => if_neg hport
  case hop => exact fun signal => steps_of (enumHopTimeout signal) (fun _ => rfl) fun s hlate => if_neg hlate
  case portB => exact steps_of portBLocked (fun _ => rfl) fun s hport => if_neg hport
  case lost => exact steps_of upstreamLost (fun _ => rfl) fun s hlost => if_neg hlost
  case switched => exact fun port => steps_of (upstreamSwitched port) (fun _ => rfl) fun _ => upstreamSwitched_chosen
  case limit => exact steps_of holdLimitExpiry (fun _ => rfl) fun s hlate => if_neg hlate
  case heart => exact steps_of lossHeartRepeat (fun _ => rfl) fun s hdue => if_neg hdue

end Sys2Proof.Machine
end

section

namespace Sys2Proof.Machine

/-! ### Flips, slots and emission of a TILE -/

/-- DECISION_INSTANT 50 000 ticks before the next flip, for a frame not yet decided (02_emission_timeline R64, R73). -/
theorem decisionInstant_due {s : State} {f : Flip} (hopen : ¬(timelineOn s = false ∨ s.tl.decided.isSome))
    (hnext : nextFlip s = some f) (hdue : ¬nowSys s < f.at_ - 50000) :
    decisionInstant s =
      (let s1 := withFrameKeys (takeFrameKeys s)
       let s2 := { applyWear (latchFactors s1) with tl.decidedNum := f.num }
       let t := decide_ s2 f.num
       { t with keys.eff := s.keys.eff }) := by
  unfold decisionInstant
  rw [if_neg hopen, hnext]
  exact if_neg hdue

/-- READINESS_CHECK at READY_LEAD before the next flip, on a port that feeds, once per frame (02_emission_timeline R77;
07_cascade_link R246). -/
theorem readinessCheck_due {s : State} {f : Flip} (hon : ¬timelineOn s = false) (hnext : nextFlip s = some f)
    (hdue : ¬(nowSys s < f.at_ - keyU s 0x0421 0 4 ∨ s.link.tile.activeUp = 2 ∨ fenced s 2 s.link.tile.activeUp ∨
      s.link.tile.replied = some f.num)) :
    readinessCheck s =
      (let late := keyU s 0x0420 0 1 == 1 && !(s.tl.rx.frame == f.num && bankReason s == 0)
       let fl := flag late 0 + flag s.tl.repeated 1 + flag s.tl.crcBad 2 + flag (s.link.tile.holding || pausing s) 3 +
         flag s.link.tile.dark 4
       sendCell { s with link.tile.replied := some f.num } s.link.tile.activeUp
         (syncCell 8 f.num (leBytes 2 s.sys.deviceId ++ [b8 fl, b8 0] ++ leBytes 4 (counter s 4 0 0)))) := by
  unfold readinessCheck
  rw [if_neg hon, hnext]
  exact if_neg hdue

/-- The accepted flip whose time has come. -/
theorem flipCome_at {s : State} {f : Flip} (hheld : heldNext s = some f) (hcome : f.at_ ≤ nowSys s) : flipCome s = some f := by
  rw [flipCome, hheld]
  exact if_pos (decide_eq_true hcome)

/-- FLIP_TIME of a decided frame after the slot that the flip cuts (02_emission_timeline R46, R52). -/
theorem flipTime_come {s : State} {f : Flip} (hdecided : ¬(timelineOn s = false ∨ s.tl.decided.isNone ∨ s.tl.slot.isSome))
    (hheld : heldNext s = some f) (hcome : f.at_ ≤ nowSys s) : flipTime s = beginFrame (lateFlip s) f.num f.at_ true := by
  unfold flipTime
  rw [if_neg hdecided, flipCome_at hheld hcome]

/-- A slot is due when its start has come and no flip lies at or before it (02_emission_timeline R46, R52). -/
theorem slotDue_of {s : State}
    (hdue : let b := s.tl.start + slotAt s.tl.len (slotCount s) s.tl.nextSlot
      timelineOn s = true ∧ s.tl.active = true ∧ s.tl.waiting = false ∧ s.tl.nextSlot < slotCount s ∧ b ≤ nowSys s ∧
        ((heldNext s).all fun f => decide (b < f.at_)) = true) : slotDue s = true := by
  obtain ⟨hon, hactive, hmoves, hslot, hstart, hlater⟩ := hdue
  have hnone : ((flipCome s).any fun f => decide (f.at_ ≤ s.tl.start + slotAt s.tl.len (slotCount s) s.tl.nextSlot)) = false := by
    cases hcome : flipCome s with
    | none => rfl
    | some f =>
      obtain ⟨hheld, -⟩ := Option.filter_eq_some_iff.1 hcome
      rw [hheld] at hlater
      have hafter := of_decide_eq_true hlater
      exact decide_eq_false (by omega)
  unfold slotDue
  dsimp only
  rw [hon, hactive, hmoves, hnone, decide_eq_true hslot, decide_eq_true hstart]
  rfl

/-- SLOT_BOUNDARY of a slot that is due: the running one ends and it begins (02_emission_timeline R46). -/
theorem slotBoundary_due {s : State} (obs : SlotObs) (hdue : slotDue s = true) :
    slotBoundary obs s = beginSlot (endSlot obs s) (endSlot obs s).tl.nextSlot := by
  unfold slotBoundary
  exact if_neg (ne_false_of_eq_true hdue)

/-- SLOT_BOUNDARY with no slot due ends the running slot alone (02_emission_timeline R46, R52). -/
theorem slotBoundary_finishes {s : State} (obs : SlotObs) (hnone : slotDue s = false) : slotBoundary obs s = finishSlot obs s := by
  unfold slotBoundary
  exact if_pos hnone

/-- The flip that cuts a slot: one that has come before the slot's end while a frame is active. -/
def cutFlip (s : State) (sl : Slot) : Option Flip := (flipCome s).filter fun f => s.tl.active && decide (f.at_ < sl.start + sl.len)

/-- A slot that a flip cuts ends there (02_emission_timeline R52). -/
theorem cutSlot_cut {s : State} {sl : Slot} {f : Flip} (hcut : cutFlip s sl = some f) :
    cutSlot s sl = { sl with recs := cutRecs (f.at_ - sl.start).toNat sl.recs, len := (f.at_ - sl.start).toNat } := by
  obtain ⟨hcome, hwithin⟩ := Option.filter_eq_some_iff.1 hcut
  unfold cutSlot
  rw [hcome]
  exact if_pos hwithin

/-- A slot that no flip cuts keeps its end. -/
theorem cutSlot_uncut {s : State} {sl : Slot} (huncut : cutFlip s sl = none) : cutSlot s sl = sl := by
  have hbeyond := Option.filter_eq_none_iff.1 huncut
  unfold cutSlot
  cases hcome : flipCome s with
  | none => rfl
  | some f => exact if_neg (hbeyond f hcome)

/-- The running slot ends at the flip that cuts it, or at its own end (02_emission_timeline R52). -/
theorem finishSlot_running {s : State} {sl : Slot} (obs : SlotObs) (hslot : s.tl.slot = some sl) :
    finishSlot obs s =
      match cutFlip s sl with
      | some f =>
        let x := (f.at_ - sl.start).toNat
        let left := { sl with recs := cutRecs x sl.recs, len := x }
        if sl.start + x ≤ nowSys s then endSlot obs { s with tl.slot := some left } else s
      | none => if sl.start + sl.len ≤ nowSys s then endSlot obs s else s := by
  have hsame : { s with tl.slot := some sl } = s := by rw [← hslot]
  unfold finishSlot
  rw [hslot]
  dsimp only [Option.map_some]
  cases hcut : cutFlip s sl with
  | none => rw [cutSlot_uncut hcut, hsame]
  | some f => rw [cutSlot_cut hcut]

/-- With no running slot nothing ends. -/
theorem finishSlot_none {s : State} (obs : SlotObs) (hslot : s.tl.slot = none) : finishSlot obs s = s := by
  unfold finishSlot
  rw [hslot] <;> rfl

/-- RAIL_LIMIT of a TILE's rail that has stayed at its limit for 1 s, raised once (03_lamp_drive R114). -/
theorem railLimit_held {s : State} {n t : Nat} (hlimit : (stage s n).limAt = some t)
    (hdue : s.sys.role = .tile ∧ (stage s n).limRaised = false ∧ t + secTicks ≤ s.time.loc) :
    railLimit n s =
      raise (setStage s n { stage s n with limRaised := true }) 0x0504 (args [(4, n), (4, (stage s n).limSide - 1)]) := by
  unfold railLimit
  dsimp only
  rw [hlimit]
  exact if_pos hdue

/-- Settles O28: each event's own part past the conditions under which it does nothing. That FLIP_TIME waits for the cut slot's
SLOT_BOUNDARY is the model's choice (log 5). -/
theorem flipAndEmissionEventsComplete : Obligations.FlipAndEmissionEventsComplete := by
  refine ⟨?flip, ?decision, ?readiness, ?flipTime, ?nominal, ?boundary, ?finish, ?idle, ?compute, ?rail⟩
  case flip => exact fun port num at_ => steps_of (flipCell port num at_) (fun _ => rfl) fun s hfed => if_pos hfed
  case decision =>
    exact fun f => steps_of decisionInstant (fun _ => rfl) fun s ⟨hopen, hnext, hdue⟩ => decisionInstant_due hopen hnext hdue
  case readiness =>
    exact fun f => steps_of readinessCheck (fun _ => rfl) fun s ⟨hon, hnext, hdue⟩ => readinessCheck_due hon hnext hdue
  case flipTime =>
    exact fun f => steps_of flipTime (fun _ => rfl) fun s ⟨hdecided, hheld, hcome⟩ => flipTime_come hdecided hheld hcome
  case nominal => exact steps_of nominalFrameEnd (fun _ => rfl) fun s hended => if_neg hended
  case boundary => exact fun obs => steps_of (slotBoundary obs) (fun _ => rfl) fun s hdue => slotBoundary_due obs (slotDue_of hdue)
  case finish =>
    exact fun obs sl => steps_of (slotBoundary obs) (fun _ => rfl)
      fun s ⟨hnone, hslot⟩ => (slotBoundary_finishes obs hnone).trans (finishSlot_running obs hslot)
  case idle =>
    exact fun obs => steps_of (slotBoundary obs) (fun _ => rfl)
      fun s ⟨hnone, hslot⟩ => (slotBoundary_finishes obs hnone).trans (finishSlot_none obs hslot)
  case compute => exact fun inTime => steps_of (slotCompute inTime) (fun _ => rfl) fun s hopen => if_neg hopen
  case rail => exact fun n t => steps_of (railLimit n) (fun _ => rfl) fun s ⟨hlimit, hdue⟩ => railLimit_held hlimit hdue

/-! ### Scan-out, check rectangles and the flip discipline of a SENDER -/

/-- A latch point that is due, after what is left of the frame (05_composition R199; 06_scanout R211; the order is log 64's). -/
theorem latchPointDue_due {s : State} {o : Nat} (hdue : latchDue (sendRest o s) o = true) :
    latchPointDue o s = latchPoint (sendRest o s) o := by
  unfold latchPointDue
  exact if_pos hdue

/-- FRAME_DONE acts on a frame whose active time is over (06_scanout R213, R220). -/
theorem frameDone_over {s : State} {o : Nat} (hruns : outputsRun (latchPointDue o s) = true)
    (hframe : (outp (latchPointDue o s) o).inFrame = true)
    (hover : activeOver (latchPointDue o s) (outp (latchPointDue o s) o) = true) :
    ¬(outputsRun (latchPointDue o s) = false ∨ (outp (latchPointDue o s) o).inFrame = false ∨
      activeOver (latchPointDue o s) (outp (latchPointDue o s) o) = false) :=
  not_or.2 ⟨ne_false_of_eq_true hruns, not_or.2 ⟨ne_false_of_eq_true hframe, ne_false_of_eq_true hover⟩⟩

/-- GROUP_DECISION of the group's earliest undecided frame at its instant (06_scanout R225). -/
theorem groupDecision_due {s : State} {o n : Nat} {f : Int} {rest : List Nat} {later : List (Nat × Int)}
    (houts : ((groupOuts s).filter fun o => (outp s o).started && !pairMuted s o) = o :: rest) (hruns : outputsRun s = true)
    (hfirst : s.send.group.due = (n, f) :: later) (hdue : f * 256 + groupLag s ≤ nowSys s * 256) :
    groupDecision s =
      (let late := tabGet none s.send.group.late n
       let rep := late.isSome
       let s1 := { s with
         send.group.due := later, send.group.decided := lastN 64 (s.send.group.decided ++ [(n, rep)])
         send.group.late := tabSet none s.send.group.late n none }
       let s2 := (o :: rest).foldl (fun t k =>
         sendSync (noteSent (if rep then bump t 9 k 6 else t) k n 1) k (syncCell 4 n [b8 (b2n rep)])) s1
       match late with
       | some dev => raise s2 0x0908 (outArgs s o n (nowSys s) [(4, dev)])
       | none => s2) := by
  unfold groupDecision
  rw [houts]
  dsimp only
  rw [if_neg (ne_false_of_eq_true hruns), hfirst]
  exact if_neg (not_lt.2 hdue)

/-- Settles O29: each event's own part past the conditions under which it does nothing. That a latch point first sends what is
left of the frame is the model's choice (log 64). -/
theorem scanOutEventsComplete : Obligations.ScanOutEventsComplete := by
  refine ⟨?latch, ?line, ?lineMatch, ?frameStart, ?flipCells, ?done, ?guard, ?resync, ?group⟩
  case latch => exact fun o => steps_of (latchPointDue o) (fun _ => rfl) fun s hdue => latchPointDue_due hdue
  case line => exact fun o under => steps_of (outputLine o under) (fun _ => rfl) fun s hdue => if_neg hdue
  case lineMatch => exact fun o => steps_of (lineMatch o) (fun _ => rfl) fun s hdue => if_neg hdue
  case frameStart => exact fun o => steps_of (frameStartSend o) (fun _ => rfl) fun s hdue => if_neg hdue
  case flipCells => exact fun o => steps_of (flipCellSend o) (fun _ => rfl) fun s hruns => if_neg hruns
  case done =>
    exact fun o => steps_of (frameDone o) (fun _ => rfl)
      fun s ⟨hruns, hframe, hover⟩ => if_neg (frameDone_over hruns hframe hover)
  case guard => exact steps_of flipGuardCheck (fun _ => rfl) fun s hsender => if_neg hsender
  case resync => exact fun o => steps_of (frameResync o) (fun _ => rfl) fun s hdue => if_neg hdue
  case group =>
    exact fun o rest n f later => steps_of groupDecision (fun _ => rfl)
      fun s ⟨houts, hruns, hfirst, hdue⟩ => groupDecision_due houts hruns hfirst hdue

end Sys2Proof.Machine
end

section

namespace Sys2Proof.Machine

/-! ### The build layer from its arming to its end, and the jets of its heads -/

/-- START_TICK of an armed or paused layer at its tick (10_jets_motion R362). -/
theorem startTick_come {s : State} {t : Int} (hstart : s.bed.build.startAt = some t)
    (hcome : ¬(buildNow s < t ∨ (s.bed.build.st ≠ 3 ∧ s.bed.build.st ≠ 6))) :
    startTick s =
      (let b := s.bed.build
       let p := ((if b.begun then (s.time.process : Int) else 0) + (buildNow s - t)).toNat
       let s1 := (layerHeads s).foldl (fun u h => setHead u h { bhead u h with move := none })
         { s with time.process := min p (2 ^ 48 - 1), time.processRun := true, time.processFull := s.time.processFull && b.begun
                  bed.build.st := 4, bed.build.startAt := none, bed.build.startTag := 0, bed.build.begun := true
                  bed.build.missed := false }
       let s2 := raise s1 0x0A04 (args [(4, b.layerId), (8, shortForm (sysOfBuild s t).toNat), (8, p)])
       let s3 := endBuildTag s2 b.startTag 0x54 0
       let s4 := if (layerHeads s3).any (fun h => (bhead s3 h).frozen || !(bhead s3 h).referenced) then pauseBuild s3 5
         else if s3.sys.st = .hold then holdBuild s3 else s3
       (layerHeads s4).foldl (fun u h => if (bhead u h).frozen then u else standHead u h) s4) := by
  unfold startTick
  dsimp only
  rw [hstart]
  exact if_neg hcome

/-- RUN_DECISION of the first candidate, 4096 ticks before its planned start (10_jets_motion R384). -/
theorem runDecision_due {s : State} {t : Int} {h : Nat} {hd : BHead} {bn : BList} {jets : List (Nat × List Nat)}
    (hruns : ¬(s.sys.role ≠ .bed ∨ (s.bed.build.st ≠ 4 ∧ s.bed.build.st ≠ 5 ∧ s.bed.build.startAt.isNone)))
    (hfirst : firstCandidate s = some (t, h)) (hdue : ¬buildNow s < t - 4096) (hcandidate : candidate s h = some (hd, bn, jets)) :
    runDecision s = decideRun s h hd bn jets := by
  unfold runDecision
  dsimp only
  rw [if_neg hruns, hfirst]
  dsimp only
  rw [if_neg hdue, hcandidate]

/-- ANCHOR_WAIT_END of a head at its boundary that waits for its anchor (10_jets_motion R382). -/
theorem anchorWaitEnd_waiting {s : State} {h : Nat} {r : Run} (hnext : (blist s h).runNext = some r)
    (hwaits : bit r.flags 4 ∧ (blist s h).span.isNone) : anchorWaitEnd h s = jetBoundary h s := by
  unfold anchorWaitEnd
  rw [hnext]
  exact if_pos hwaits

/-- SUMMARY_WRITE of the oldest summary (10_jets_motion R396). -/
theorem summaryWrite_oldest {s : State} {h a : Nat} {l : List Byte} {r : List (Nat × List Byte)}
    (holdest : (blist s h).summaries = (a, l) :: r) :
    summaryWrite h s = wrBytes (setList s h { blist s h with summaries := r }) a l := by
  unfold summaryWrite
  rw [holdest]

/-- THERMAL_STOP of a BED, once, THROTTLE_STOP_MS after it became hot (15_thermal_ageing R580). -/
theorem thermalStop_due {s : State} {t : Nat} (hsince : s.th.stopSince = some t)
    (hdue : ¬(s.sys.role ≠ .bed ∨ s.th.stopMade ∨ s.time.loc < t + keyU s 0x0E03 0 2 * msTicks)) :
    thermalStop s =
      (let hot := match tHot s with | some p => p.2 | none => sgn 16 (Config.free s.sys.free 131)
       raise (pauseBuild { s with th.stopMade := true } 3) 0x0E03 (args [(2, uns 16 hot)])) := by
  unfold thermalStop
  rw [hsince]
  exact if_neg hdue

/-- HEAD_REFERENCE_DONE after 64 checked frames (10_jets_motion R366). -/
theorem headReferenceDone_checked {s : State} {h tag n bad : Nat} (href : (bhead s h).ref = some (tag, n, bad)) (hchecked : ¬n < 64) :
    headReferenceDone h s =
      (let s1 := setHead s h { bhead s h with ref := none, move := none, referenced := bad = 0 }
       if bad = 0 then cmdEnds (raise s1 0x0A0B (args [(4, h)])) tag 0x5A 0
       else cmdEnds (raise s1 0x0A0C (args [(4, h), (4, bad)])) tag 0x5A 0x60) := by
  unfold headReferenceDone
  dsimp only
  rw [href]
  exact if_neg hchecked

/-- Settles O31: each event's own part past the conditions under which it does nothing. The temperature that THERMAL_STOP shows
where none is hot (log 11) and the order of the checks of an arming (log 29) are the model's choice. -/
theorem jetEventsComplete : Obligations.JetEventsComplete := by
  refine ⟨?armed, ?start, ?boundary, ?decision, ?refill, ?anchor, ?summary, ?paused, ?done, ?hot, ?reference⟩
  case armed => exact steps_of buildArmDone (fun _ => rfl) fun s harming => if_neg harming
  case start => exact fun t => steps_of startTick (fun _ => rfl) fun s ⟨hstart, hcome⟩ => startTick_come hstart hcome
  case boundary => exact fun h => steps_of (jetBoundary h) (fun _ => rfl) fun s hruns => if_neg hruns
  case decision =>
    exact fun t h hd bn jets => steps_of runDecision (fun _ => rfl)
      fun s ⟨hruns, hfirst, hdue, hcandidate⟩ => runDecision_due hruns hfirst hdue hcandidate
  case refill => exact fun h => steps_of (queueRefill h) (fun _ => rfl) fun s hroom => if_neg hroom
  case anchor =>
    exact fun h r => steps_of (anchorWaitEnd h) (fun _ => rfl) fun s ⟨hnext, hwaits⟩ => anchorWaitEnd_waiting hnext hwaits
  case summary => exact fun h a l r => steps_of (summaryWrite h) (fun _ => rfl) fun s holdest => summaryWrite_oldest holdest
  case paused => exact steps_of buildPaused (fun _ => rfl) fun s hstopped => if_neg hstopped
  case done => exact steps_of buildDone (fun _ => rfl) fun s hdone => if_neg hdone
  case hot => exact fun t => steps_of thermalStop (fun _ => rfl) fun s ⟨hsince, hdue⟩ => thermalStop_due hsince hdue
  case reference =>
    exact fun h tag n bad => steps_of (headReferenceDone h) (fun _ => rfl)
      fun s ⟨href, hchecked⟩ => headReferenceDone_checked href hchecked

/-! ### The heads' frames, gates, interlocks and loops -/

/-- EMIT_EN_DISCREPANCY of inputs that have differed for the time of the key (11_heads_lasers R438). -/
theorem emitDiscrepancy_lasting {s : State} {t : Nat} (hdiffer : s.sys.emitDiffer = some t)
    (hlasting : ¬(s.sys.st = .reset ∨ s.time.loc < t + keyU s 0x0B38 0 2 * msTicks)) :
    emitDiscrepancy s =
      (let s1 := { s with sys.emitDiffer := none }
       if s.sys.role = .bed then fire s1 21 0 (emitLow s + 4) else raise s1 0x0B08 (args [(4, b2n s.sys.emitEnA)])) := by
  unfold emitDiscrepancy
  rw [hdiffer]
  exact if_neg hlasting

/-- HEAD_FRAME_INSTANT of a running BED at a grid instant not yet sent (11_heads_lasers R410, R411). -/
theorem headFrames_due {s : State} (enc : List Int) (hruns : ¬(s.sys.role ≠ .bed ∨ s.sys.st = .reset ∨ s.sys.st = .boot))
    (hunsent : ¬frameSent s (buildAt s (nowSys s / 2048 * 2048))) :
    headFrames enc s =
      (let f := buildAt s (nowSys s / 2048 * 2048)
       let s1 := { s with bed.lastFrame := some f }
       stallChecks enc ((List.range 16).foldl (if pairStandby s then idleFrame f else headFrame f) s1)) := by
  unfold headFrames
  rw [if_neg hruns]
  exact if_neg hunsent

/-- HEAD_FRAME_MISSING of the oldest frame that waits, past its time (11_heads_lasers R417, R420). -/
theorem headMissing_late {s : State} {h seq : Nat} {f : Int} {r : List (Nat × Int)} (hwaits : (bhead s h).waiting = (seq, f) :: r)
    (hlate : ¬buildNow s < f + keyU s 0x0B02 0 2) :
    headMissing h s =
      (let x := bhead s h
       let s1 := setHead (bump s 0x0B h 3) h { x with waiting := r, okRun := 0, missRun := x.missRun + 1, laserBad := 0 }
       let s2 := capHead s1 h 1 (leBytes 4 h ++ leBytes 8 0 ++ leBytes 2 seq)
       if headState s h = 2 ∧ x.missRun + 1 = keyU s 0x0B03 0 1 then fire s2 22 h 2 else s2) := by
  unfold headMissing
  dsimp only
  rw [hwaits]
  exact if_neg hlate

/-- HALT_RELEASED 64 frame periods after the last HALT block. -/
theorem haltReleased_due {s : State} {h a b : Nat} (hhalt : (bhead s h).halt = some (a, b)) (hdue : ¬s.time.loc < b + 64 * 2048) :
    haltReleased h s = raise (setHead s h { bhead s h with halt := none }) 0x0B03 (args [(4, h), (4, (s.time.loc - a) / usTicks)]) := by
  unfold haltReleased
  dsimp only
  rw [hhalt]
  exact if_neg hdue

/-- GATE_EDGE of the first edge to place, once it has come (11_heads_lasers R414). -/
theorem gateEdge_come {s : State} {h : Nat} {t : Int} {on : Bool} {r : List (Int × Bool)} (hplace : (bhead s h).toPlace = (t, on) :: r)
    (hcome : ¬buildNow s < t) :
    gateEdge h s =
      (let s1 := setHead s h { bhead s h with toPlace := r }
       let at_ := sysOfBuild s t
       let s2 := if on && !(emissionOn s && laneUse s h == .head h) then s1 else driveLgate s1 h on (at_ + keyS s 0x0B05 (2 * h) 2)
       (stringsOf s2 h).foldl (fun u n =>
         if on && !shuntReady u n then u else driveShunt u n on (at_ + keyS u 0x0B37 (2 * n) 2)) s2) := by
  unfold gateEdge
  dsimp only
  rw [hplace]
  exact if_neg hcome

/-- LOOP_DELAY_SET of a head with an echo measured under another HEAD_LEAD (12_loops R462). -/
theorem loopDelaySet_changed {s : State} {h : Nat} {el : Int} (hecho : (bhead s h).echo = some el)
    (hchanged : ¬(bhead s h).leadUsed = keyU s 0x0B00 (2 * h) 2) : loopDelaySet h s = setLoopDelay s h el false := by
  unfold loopDelaySet
  dsimp only
  rw [hecho]
  exact if_neg hchanged

/-- Settles O33: each event's own part past the conditions under which it does nothing. The number 16 + n of a string's
signature is the model's choice (log 31). -/
theorem headEventsComplete : Obligations.HeadEventsComplete := by
  refine ⟨?fall, ?rise, ?discrepancy, ?frame, ?up, ?missing, ?link, ?linkFault, ?halt, ?released, ?gate, ?signature, ?factor, ?loop,
    ?delay⟩
  case fall => exact fun a b => steps_ofAny (emitFalls a b) (fun _ => rfl) fun _ _ => rfl
  case rise => exact fun a b => steps_ofAny (emitRise a b) (fun _ => rfl) fun _ _ => rfl
  case discrepancy =>
    exact fun t => steps_of emitDiscrepancy (fun _ => rfl) fun s ⟨hdiffer, hlasting⟩ => emitDiscrepancy_lasting hdiffer hlasting
  case frame =>
    exact fun enc => steps_of (headFrames enc) (fun _ => rfl) fun s ⟨hruns, hunsent⟩ => headFrames_due enc hruns hunsent
  case up =>
    exact fun h crcOk seq laser fault ex ey ez mon mp cam stamp =>
      steps_of (headUp h crcOk seq laser fault ex ey ez mon mp cam stamp) (fun _ => rfl) fun s hbed => if_neg hbed
  case missing =>
    exact fun h seq f r => steps_of (headMissing h) (fun _ => rfl) fun s ⟨hwaits, hlate⟩ => headMissing_late hwaits hlate
  case link => exact fun h => steps_of (headLinkChange h) (fun _ => rfl) fun s hdefined => if_neg hdefined
  case linkFault => exact fun h => steps_of (headLinkFault h) (fun _ => rfl) fun s hlate => if_neg hlate
  case halt => exact fun h header block => steps_of (upstreamBlock h header block) (fun _ => rfl) fun s hbed => if_neg hbed
  case released => exact fun h a b => steps_of (haltReleased h) (fun _ => rfl) fun s ⟨hhalt, hdue⟩ => haltReleased_due hhalt hdue
  case gate =>
    exact fun h t on r => steps_of (gateEdge h) (fun _ => rfl) fun s ⟨hplace, hcome⟩ => gateEdge_come hplace hcome
  case signature => exact fun h => steps_of (setpointSignature h) (fun _ => rfl) fun s hfull => if_neg hfull
  case factor => exact steps_of stringLatch (fun _ => rfl) fun s hdue => if_neg hdue
  case loop => exact fun h => steps_of (headLoopUpdate h) (fun _ => rfl) fun s hdue => if_neg hdue
  case delay =>
    exact fun h el => steps_of (loopDelaySet h) (fun _ => rfl) fun s ⟨hecho, hchanged⟩ => loopDelaySet_changed hecho hchanged

/-! ### Temperature, throttling, AVS and ageing -/

/-- Settles O35: each event's own part past the conditions under which it does nothing. The 800 mV after a bus retry (log 12) and
what log 74 says are the model's choice. -/
theorem thermalEventsComplete : Obligations.ThermalEventsComplete := by
  refine ⟨?conversion, ?throttle, ?avs, ?retry, ?slack, ?sample, ?save, ?replan⟩
  case conversion => exact fun v => steps_ofAny (tempConversion v) (fun _ => rfl) fun s hdue => if_neg hdue
  case throttle => exact steps_ofAny throttleDue (fun _ => rfl) fun s hdue => if_neg hdue
  case avs => exact fun slack mv ma10 ok => steps_of (avsTick slack mv ma10 ok) (fun _ => rfl) fun s hruns => if_neg hruns
  case retry => exact fun ok => steps_of (avsbusRetry ok) (fun _ => rfl) fun s hdue => if_neg hdue
  case slack => exact steps_of slackBelowOneTap (fun _ => rfl) fun s hruns => if_neg hruns
  case sample =>
    exact fun ratio sLo sHi vLo vHi => steps_of (ageingSample ratio sLo sHi vLo vHi) (fun _ => rfl) fun s hdue => if_neg hdue
  case save => exact steps_of ageingSave (fun _ => rfl) fun s hdue => if_neg hdue
  case replan => exact steps_of replanDue (fun _ => rfl) fun s hruns => if_neg hruns

/-! ### Heartbeats, the peer lane and roles of a redundant pair -/

/-- HEARTBEAT_SILENCE with a path newly silent (17_redundancy R625). -/
theorem heartbeatSilence_new {s : State} (hbeats : ¬(paired s = false ∨ s.pair.beating = false))
    (hnew : ¬((goSilent 1 (goSilent 0 s)).pair.hb.silent = s.pair.hb.silent ∧
      (goSilent 1 (goSilent 0 s)).pair.lk.silent = s.pair.lk.silent)) :
    heartbeatSilence s =
      (let s1 := goSilent 1 (goSilent 0 s)
       if s1.pair.hb.silent && s1.pair.lk.silent then
         let s2 := fire s1 41 2 2
         if s2.pair.active = false ∧ s2.pair.heardAt.isSome then becomeActive 1 s2 else s2
       else fire s1 41 (if s1.pair.hb.silent then 0 else 1) 1) := by
  unfold heartbeatSilence
  rw [if_neg hbeats]
  exact if_neg hnew

/-- AUTO_SWITCHBACK with its conditions and a switch back to make (17_redundancy R643). -/
theorem autoSwitchback_due {s : State} {safe : Bool}
    (hdue : (pairActive s && preferredStandby s && peerSynced s && peerUp s && s.pair.hand.isNone && s.pair.peerUpAt != 0 &&
      decide (s.pair.peerUpAt - 1 + 10 * secTicks ≤ s.time.loc)) = true) (hback : switchBack s = some safe) :
    autoSwitchback s = { s with pair.hand := some (0, 3, handTime s), pair.backDone := s.pair.backDone || safe } := by
  unfold autoSwitchback
  rw [if_pos hdue, hback]

/-- PEER_RECORD of a record whose fields hold, over a peer link that is up (17_redundancy R631). -/
theorem peerRecord_fields {s : State} {r body : List Byte} {type flags seq arg : Nat} (hlink : ¬(paired s = false ∨ pairLinkUp s = false))
    (hfields : recordFields r = some (type, flags, seq, arg, body)) :
    peerRecord r s =
      (let s1 := noteSeq seq s
       match (generalizing := false) type with
       | 1 => if s1.pair.active then s1 else if arg = 0 then takeHeader seq s1 else takeSnapshot seq (body.take arg) s1
       | 2 => if s1.pair.active then s1 else
         bump { mirrorApply s1 arg body with pair.mirrorSeq := seq } 0x0F 4 3
       | 3 => if s1.pair.active then s1 else
         bump { s1 with
           pair.mirrorSeq := seq
           pair.progress := tabSet (0, 0) s1.pair.progress (leAt body 0 4) (leAt body 4 4, leAt body 8 8) } 0x0F 4 3
       | 4 => { s1 with pair.peerFlags := flags + 1, pair.backDone := s1.pair.backDone && bit flags 3 }
       | 5 => if arg = s1.pair.snapSeq ∧ s1.pair.active then { s1 with pair.acked := some s1.pair.snapBody } else s1
       | _ => s1) := by
  unfold peerRecord
  rw [if_neg hlink, hfields] <;> rfl

/-- HB_IN_EDGE of a pulse whose length tells the peer's role, 500 µs or more after the last edge (17_redundancy R624). -/
theorem hbInEdge_heard {s : State} {width : Nat} {active : Bool} (hpaired : paired s = true)
    (hfar : ∀ t, s.pair.hb.last = some t → t + 500 * usTicks ≤ s.time.loc)
    (hactive : (decide (50 * usTicks ≤ width) && decide (width ≤ 200 * usTicks)) = active)
    (hfits : (active || (decide (250 * usTicks ≤ width) && decide (width ≤ 400 * usTicks))) = true) :
    hbInEdge width s = hearBeat 0 active s := by
  unfold hbInEdge
  dsimp only
  rw [hactive, hpaired, hfits]
  cases hlast : s.pair.hb.last with
  | none => rfl
  | some t => exact if_pos (by simpa using hfar t hlast)

/-- A pulse of an active unit's length. -/
theorem hbWidth_active {width : Nat} (hmin : 50 * usTicks ≤ width) (hmax : width ≤ 200 * usTicks) :
    (decide (50 * usTicks ≤ width) && decide (width ≤ 200 * usTicks)) = true := by
  rw [decide_eq_true hmin, decide_eq_true hmax]
  rfl

/-- A pulse of a standby's length is none of an active unit's. -/
theorem hbWidth_standby {width : Nat} (hmin : 250 * usTicks ≤ width) :
    (decide (50 * usTicks ≤ width) && decide (width ≤ 200 * usTicks)) = false := by
  have hlong : ¬width ≤ 200 * usTicks := by unfold usTicks at hmin ⊢; omega
  rw [decide_eq_false hlong, Bool.and_false]

/-- PAIR_YIELD of an active unit that has heard its peer active since it became active itself (17_redundancy R639). -/
theorem pairYield_heard {s : State} {t : Nat} (hat : s.pair.activeAt = some t) (hsince : s.pair.changedAt ≤ t)
    (hactive : pairActive s = true) (hpeer : s.pair.peerActive = true) (hyields : yields s = true) :
    pairYield s = becomeStandby 5 s := by
  unfold pairYield
  rw [hat]
  dsimp only
  rw [hactive, hpeer, hyields, decide_eq_true hsince]
  rfl

/-- Settles O37: each event's own part past the conditions under which it does nothing. -/
theorem pairEventsComplete : Obligations.PairEventsComplete := by
  refine ⟨?heart, ?notice, ?send, ?silence, ?startWait, ?switchback, ?handover, ?primary, ?repeated, ?snapshot, ?record, ?saved, ?hbActive,
    ?hbStandby, ?yield⟩
  case heart =>
    exact fun port src state flags => steps_of (heartCellIn port src state flags) (fun _ => rfl) fun s hport => if_neg hport
  case notice => exact fun port => steps_of (notice port) (fun _ => rfl) fun s hport => if_neg hport
  case send => exact steps_of heartbeatSend (fun _ => rfl) fun s hdue => if_neg hdue
  case silence => exact steps_of heartbeatSilence (fun _ => rfl) fun s ⟨hbeats, hnew⟩ => heartbeatSilence_new hbeats hnew
  case startWait => exact steps_of standbyStart (fun _ => rfl) fun s hdue => if_pos hdue
  case switchback => exact fun safe => steps_of autoSwitchback (fun _ => rfl) fun s ⟨hdue, hback⟩ => autoSwitchback_due hdue hback
  case handover => exact fun cause => steps_of (handoverInstant cause) (fun _ => rfl) fun _ _ => rfl
  case primary => exact steps_of primaryStart (fun _ => rfl) fun s hdue => if_pos hdue
  case repeated => exact steps_of noticeRepeat (fun _ => rfl) fun s hdue => if_neg hdue
  case snapshot => exact steps_of snapshotSend (fun _ => rfl) fun s hdue => if_neg hdue
  case record =>
    exact fun r type flags seq arg body => steps_of (peerRecord r) (fun _ => rfl)
      fun s ⟨hlink, hfields⟩ => peerRecord_fields hlink hfields
  case saved => exact steps_of savedStateCopy (fun _ => rfl) fun s hdue => if_neg hdue
  case hbActive =>
    exact fun width => steps_of (hbInEdge width) (fun _ => rfl)
      fun s ⟨hpaired, hfar, hmin, hmax⟩ => hbInEdge_heard hpaired hfar (hbWidth_active hmin hmax) (Bool.true_or _)
  case hbStandby =>
    refine fun width => steps_of (hbInEdge width) (fun _ => rfl) ?_
    rintro s ⟨hpaired, hfar, hmin, hmax⟩
    exact hbInEdge_heard hpaired hfar (hbWidth_standby hmin) (by rw [decide_eq_true hmin, decide_eq_true hmax]; rfl)
  case yield =>
    exact fun t => steps_of pairYield (fun _ => rfl)
      fun s ⟨hat, hsince, hactive, hpeer, hyields⟩ => pairYield_heard hat hsince hactive hpeer hyields

end Sys2Proof.Machine
end
